-- ==== Sys2Proof/Word.lean ====
section
/-!
DEFINITION. The word types of the JC220, the names of its two bays, and the plainest arithmetic of
spec/00_scope.md section 4.2.
-/

namespace Sys2Proof

/-- A byte of host memory, of the external RAM or of the medium. -/
abbrev Byte := BitVec 8

/-- A word is 16 bits (spec/00 section 4.1). -/
abbrev Word := BitVec 16

/-- "Bays are numbered 0 and 1" (spec/00 section 4.3). -/
inductive Bay where
  | bay0
  | bay1
deriving DecidableEq, Repr

/-- "The other bay" of a bay is the one with the other number (spec/00 section 4.3). -/
def Bay.other : Bay → Bay
  | .bay0 => .bay1
  | .bay1 => .bay0

/-- The number of a bay. -/
def Bay.number : Bay → Nat
  | .bay0 => 0
  | .bay1 => 1

/-- The bay a number names, if it names one. -/
def Bay.ofNat? : Nat → Option Bay
  | 0 => some .bay0
  | 1 => some .bay1
  | _ => none

/-- One instance for each bay of a block the block overview marks "x2" (spec/00 section 2). -/
structure PerBay (α : Type) where
  bay0 : α
  bay1 : α
deriving DecidableEq, Repr

/-- The instance of one bay. -/
def PerBay.get {α : Type} (p : PerBay α) : Bay → α
  | .bay0 => p.bay0
  | .bay1 => p.bay1

/-- One bay's instance changed by `f`, the other bay's kept. -/
def PerBay.update {α : Type} (p : PerBay α) (b : Bay) (f : α → α) : PerBay α :=
  match b with
  | .bay0 => { p with bay0 := f p.bay0 }
  | .bay1 => { p with bay1 := f p.bay1 }

/-- The same value for both bays. -/
def PerBay.both {α : Type} (x : α) : PerBay α := ⟨x, x⟩

/-- floor(x / y), rounding toward minus infinity (spec/00 section 4.2). -/
def floorDiv (x y : Int) : Int := Int.fdiv x y

/-- clamp(x, lo, hi) (spec/00 section 4.2). -/
def clampInt (x lo hi : Int) : Int := if x < lo then lo else if x > hi then hi else x

/-- A count raised by one that saturates at `top` (spec/00 section 4.2). -/
def raiseTo (top n : Nat) : Nat := if n < top then n + 1 else top

end Sys2Proof
end

