-- ==== Sys2Proof/Syntax.lean ====
section
/-!
DEFINITION. The commands of the JC220: one constructor of `Instr` for each row of
spec/opcode_table.json. The table gives its rows no operands and no bits; the operands are the
quantities the row's rule takes from outside the part (DESIGN CHOICE: log 2).
-/

namespace Sys2Proof

/-- The two anchor ports (R155). -/
inductive AnchorHalf where
  | low
  | high
deriving DecidableEq, Repr

/-- The direction of a track crossing (R55). -/
inductive Direction where
  | inward
  | outward
deriving DecidableEq, Repr

/-- An ID field as the data separator delivers it, in the order of recording (R86): the six bytes the
ID check covers, and the recorded check. -/
structure IdField where
  mark : Byte
  cylinderHigh : Byte
  cylinderLow : Byte
  head : Byte
  sector : Byte
  flags : Byte
  check : Word
deriving DecidableEq, Repr

/-- A data field as the data separator delivers it (R87): the mark, the 512 data bytes and the
recorded check. -/
structure DataField where
  mark : Byte
  bytes : Vector Byte 512
  check : BitVec 32
deriving DecidableEq, Repr

/-- The commands, one for each row of spec/opcode_table.json, in the table's order. `elapsed` is time
in µs that has passed on the timer concerned and that no clock step has counted (DESIGN CHOICE: log
2). -/
inductive Instr where
  | start
  | attention
  | abort
  | goOffline
  | partReset
  | unknownCommand (code : Word)
  | anchorWrite (half : AnchorHalf) (value : Word)
  | statusRead
  | busReset
  | supplyLowAccepted
  | supplyRecovery
  | resetInProgressEnd
  | presentAcceptedTrue (bay : Bay)
  | presentAcceptedFalse (bay : Bay)
  | presentDecided (bay : Bay) (value : Bool)
  | writeProtectAccepted (bay : Bay) (value : Bool)
  | ejectButtonPress (bay : Bay)
  | ejectButtonReleased (bay : Bay)
  | parkDetectAcceptedTrue (bay : Bay)
  | parkDetectAcceptedFalse (bay : Bay)
  | outerGuardAccepted (bay : Bay) (value : Bool)
  | trackCrossing (bay : Bay) (direction : Direction) (elapsed : Nat)
  | crossingError (bay : Bay)
  | crossingTimerExpiry (bay : Bay)
  | velocityRecompute (bay : Bay)
  | settleTimeEnd (bay : Bay)
  | onTrackCountReached (bay : Bay)
  | settleLimitExpiry (bay : Bay)
  | seekLimitExpiry (bay : Bay)
  | recalibrateTimerExpiry (bay : Bay)
  | stopLimitExpiry (bay : Bay)
  | loadFault (bay : Bay)
  | retractLimitExpiry (bay : Bay)
  | parkHoldEnd (bay : Bay)
  | tachMark (bay : Bay) (elapsed : Nat)
  | startTimerExpiry (bay : Bay)
  | spinUpLimitExpiry (bay : Bay)
  | markSilence (bay : Bay)
  | driftTimerExpiry (bay : Bay)
  | stopTimerExpiry (bay : Bay)
  | pwmPeriodBoundary (bay : Bay)
  | indexPulse (bay : Bay) (elapsed : Nat)
  | indexMissing (bay : Bay)
  | idField (field : IdField)
  | dataFieldReadEnd (field : DataField)
  | dataFieldWriteEnd
  | layingEnd
  | dmaGrant
  | burstComplete (words : Vector Word 16)
  | pollTimerExpiry
  | refreshTimerExpiry (bay : Bay)
  | pulseTimerExpiry (bay : Bay)
  | leaveTimerExpiry (bay : Bay)
  | startBoundTimerExpiry (bay : Bay)
  | retryTimerExpiry (bay : Bay)
  | idleTimerExpiry (bay : Bay)
deriving DecidableEq, Repr

end Sys2Proof
end

