-- ==== Sys2Proof/Decode.lean ====
section
/-!
DEFINITION. Words and commands. spec/opcode_table.json gives no row any bits. The one encoding of commands
the spec gives is that of a write to the Command/Status port: its 16-bit value is the command's code
(R156, spec/11 section 11.8).
-/

namespace Sys2Proof

/-- R156: the command that a 16-bit write to the Command/Status port is. -/
def commandOfCode (code : Word) : Instr :=
  if code.toNat = 1 then .start
  else if code.toNat = 2 then .attention
  else if code.toNat = 3 then .abort
  else if code.toNat = 4 then .goOffline
  else if code.toNat = 5 then .partReset
  else .unknownCommand code

/-- The command a word spells: a word of 16 bits is one written to the Command/Status port, and no other
word spells a command (DESIGN CHOICE: log 32). -/
def decodeTableWord (nbits w : Nat) : Option Instr :=
  if nbits = 16 then some (commandOfCode (BitVec.ofNat 16 w)) else none

end Sys2Proof
end

