-- ==== Sys2Proof/Config.lean ====
section
/-!
DEFINITION. The constants of the part that its rules fix once, and the one free value: a choice the
spec leaves open.
-/

namespace Sys2Proof.Config

/-- R164: "When both became pending together, it serves either first." True means bay 0 is served
first. A FREE VALUE: it has no body, and is applied to `State.freeCount` for a fresh choice each time
(DESIGN CHOICE: log 9). -/
opaque recordFirst : Nat → Bool

/-- Limits in ms: load (R61), recalibrate (R63), seek and stop (R68, R75), settle (R69), retract and
park hold (R78). -/
def loadLimit : Nat := 500
def recalibrateLimit : Nat := 300
def seekLimit : Nat := 100
def stopLimit : Nat := 100
def settleLimit : Nat := 20
def retractLimit : Nat := 300
def parkHold : Nat := 50

/-- Limits in ms: start timer (R32), stop timer (R42), eject start bound, pulse and leave (R13),
retry (R17), refresh (R165), supply good (R172). -/
def startLimit : Nat := 2000
def spindleStop : Nat := 500
def startBound : Nat := 2000
def ejectPulse : Nat := 300
def ejectLeave : Nat := 2000
def retryInterval : Nat := 1000
def refreshInterval : Nat := 1000
def supplyGood : Nat := 100

/-- Limits in µs: mark silence (R40), crossing timer (R65), recomputation without a crossing (R67),
On Track sampling (R69). -/
def markSilence : Nat := 100000
def crossingSilence : Nat := 2000
def recomputeInterval : Nat := 500
def onTrackInterval : Nat := 100

/-- The mark timer and Measured Speed saturate here (R26, R28). -/
def markTop : Nat := 1048575

/-- R85: cylinders, the LSN range and the maintenance cylinder. -/
def lastCylinder : Nat := 638
def userSectors : Nat := 40448

/-- R105: entries of a Remap Table, and the spare indices. -/
def tableSize : Nat := 48
def spareSectors : Nat := 384

/-- R135: entries of the Task Queue. R119: the slots of the pool and a task's quota. -/
def queueSize : Nat := 8
def slotCount : Nat := 16
def slotQuota : Nat := 8

/-- R64: outward crossings that end a recalibrate. -/
def outwardLimit : Nat := 700

/-- Host memory is 16 MiB (R140). -/
def hostSize : Nat := 16777216

/-- Clock cycles per µs, per PWM period of 128 µs (R36), and per ms (8 MHz clock, spec/00 section 2). -/
def cyclesPerMicro : Nat := 8
def cyclesPerPwm : Nat := 1024
def cyclesPerMilli : Nat := 8000

end Sys2Proof.Config
end

