-- ==== Sys2Proof/Machine/State.lean ====
section
/-!
DEFINITION. The state of the JC220 as plain data: every item the chapters' state tables name, block by
block, the input levels, and the queue of commands that wait. `State.reset` is the machine right after
Bus Reset.
-/

namespace Sys2Proof.Machine

/-! ### Names of states and values (spec/11 section 11.7) -/

/-- Where a RELEASING bay is bound (R10). -/
inductive Destination where
  | seated
  | ejecting
deriving DecidableEq, Repr

/-- Bay State (spec/01 section 1.2). -/
inductive BayState where
  | empty
  | seated
  | locked
  | releasing (dest : Destination)
  | ejecting
  | fault
deriving DecidableEq, Repr

/-- Fault Class (spec/01 section 1.2, R20). -/
inductive FaultClass where
  | none
  | spinFault
  | speedLost
  | seekFault
  | loadFault
  | retractFault
  | headsOffRamp
  | unexpectedRemoval
deriving DecidableEq, Repr

/-- Spindle Phase (spec/02 section 2.1). -/
inductive Phase where
  | stopped
  | pending
  | starting
  | accelerating
  | locked
  | drifting
  | stopping
deriving DecidableEq, Repr

/-- Actuator State (spec/03 section 3.1). -/
inductive Actuator where
  | parked
  | loading
  | recalibrating
  | seeking
  | settling
  | following
  | stopping
  | retracting
  | fault
deriving DecidableEq, Repr

/-- Mount Status (spec/05 section 5.3). -/
inductive MountStatus where
  | none
  | mounting
  | valid
  | absent
  | damaged
deriving DecidableEq, Repr

/-- Link State (spec/08 section 8.3). -/
inductive LinkState where
  | offline
  | running
  | draining
  | stalled
  | halted
deriving DecidableEq, Repr

/-- Link Fault (R161). -/
inductive LinkFault where
  | none
  | misaligned
  | brokenChain
  | countSkew
deriving DecidableEq, Repr

/-- The results of a task (spec/07 section 7.7), in the order of their codes. -/
inductive Result where
  | complete
  | recovered
  | adjusted
  | badKind
  | badBay
  | outOfRange
  | badAddress
  | writeProtected
  | recordNotValid
  | tableFull
  | noMedia
  | mediaChanged
  | mediaNotReady
  | mediaRemoved
  | ejected
  | dataError
  | idNotFound
  | seekFault
  | speedLost
  | spinFault
  | indexFault
  | retractFault
  | ejectFailed
  | aborted
  | powerLoss
deriving DecidableEq, Repr

/-! ### Bay Controller (spec/01) -/

/-- A debounced input: the accepted value and the run of samples that differ from it (R1). -/
structure Debounced where
  accepted : Bool
  run : Nat
deriving DecidableEq, Repr

/-- A Bay Controller (spec/01 section 1.2). A timer is `some` count of ms while it runs. `idleStop` is
an idle stop under way (R21); `idleSpent` says that the idle timer has been stopped at the Idle Limit and its
conditions have held since; `runDownPark` is a Park order the run-down of a Part Reset has still to
give (R23). `presentUndecided` and `undecidedLevel` are the undecided Present of R24 and the level of
its run of equal samples; `sensing` says that samples are taken (R1, R174). -/
structure BayControl where
  present : Debounced
  presentUndecided : Bool
  undecidedLevel : Bool
  writeProtect : Debounced
  button : Debounced
  parkDetect : Debounced
  sensing : Bool
  state : BayState
  prevent : Bool
  ejectRequested : Bool
  ejectFailed : Bool
  generation : Nat
  faultClass : FaultClass
  idle : Option Nat
  startBound : Option Nat
  pulse : Option Nat
  leave : Option Nat
  retry : Option Nat
  idleStop : Bool
  idleSpent : Bool
  runDownPark : Bool
  lock : Bool
  eject : Bool
deriving DecidableEq, Repr

/-! ### Spindle Controller (spec/02) -/

/-- A Spindle Controller (spec/02 section 2.1). `markTimer` is `none` while it is stopped.
`brakePending` is a Brake to be asserted at the next PWM boundary (R42). `indexSince` is the time in µs
since the reference instant of R48, `none` before there is one. `tachLast` and `indexLast` are the last
samples of the two inputs, for their leading edges (R26, R48). -/
structure Spindle where
  phase : Phase
  history : List Nat
  markTimer : Option Nat
  revCount : Nat
  speed : Nat
  activeTarget : Nat
  integrator : Int
  dutyStaging : Nat
  dutyActive : Nat
  inBand : Nat
  startTimer : Option Nat
  spinUpTimer : Option Nat
  driftTimer : Option Nat
  stopTimer : Option Nat
  restartHeld : Bool
  brakeDeferred : Bool
  brakePending : Bool
  brake : Bool
  pwm : Bool
  indexArmed : Bool
  indexSince : Option Nat
  missCount : Nat
  tachLast : Bool
  indexLast : Bool
deriving DecidableEq, Repr

/-! ### Positioner (spec/03) -/

/-- The orders of spec/03 section 3.3 that are held or carried out over time. -/
inductive OrderKind where
  | loadRecalibrate
  | recalibrate
  | seek (cylinder head : Nat)
  | park
deriving DecidableEq, Repr

/-- The block that gave an order, to which its outcome is handed back: the mount sequence (whose load
the Bay Controller orders), a task by the name of its entry, or the Bay Controller, which waits for none. -/
inductive Giver where
  | mount
  | task (id : Nat)
  | bay
deriving DecidableEq, Repr

/-- An order in progress or held. -/
structure Order where
  kind : OrderKind
  giver : Giver
deriving DecidableEq, Repr

/-- What its giver knows of an order it gave: nothing outstanding, not ended yet, ended, failed by a
final Seek Fault or a Load Fault, refused by an actuator in FAULT (R59), or handed back as not carried
out. -/
inductive OrderState where
  | idle
  | outstanding
  | ended
  | failed
  | refused
  | returned
deriving DecidableEq, Repr

/-- One breakpoint of a Seek Profile (R66). -/
structure Breakpoint where
  distance : Nat
  velocity : Nat
deriving DecidableEq, Repr

/-- A Positioner (spec/03 section 3.1). `order`, `held` and `heldBehind` are the order in progress,
the held order, and the order waiting behind a held Park (R59). `pendingHead` is a head change that
waits for the bay's release of the channel (R60). `recalAfterStop` is the recalibrate that R73 makes
after a controlled stop. `retractTimer` counts only while there is no `parkHold` (R78). `rampRun`
is the run of Park Detect samples that differ from the park hold, in a retract of a bay whose sampling
has stopped (DEDUCED: log 34). -/
structure Positioner where
  state : Actuator
  counter : Int
  known : Bool
  target : Nat
  headSelect : Nat
  pendingHead : Option Nat
  crossTimer : Nat
  velTimer : Nat
  vmeas : Nat
  lastDirection : Direction
  dac : Int
  followEnable : Bool
  retract : Bool
  loadTimer : Option Nat
  recalTimer : Option Nat
  seekTimer : Option Nat
  settleLimit : Option Nat
  settleWait : Option Nat
  stopTimer : Option Nat
  retractTimer : Option Nat
  parkHold : Option Nat
  rampRun : Nat
  sampling : Bool
  sampleTimer : Nat
  onTrackCount : Nat
  outwardCount : Nat
  recalLeg : Direction
  reseekUsed : Bool
  order : Option Order
  held : Option Order
  heldBehind : Option Order
  recalAfterStop : Bool
  retractFromFault : Bool
  retractRetries : Nat
  kv : Nat
  profile : List Breakpoint
  outerGuard : Debounced
  crossA : Bool
  crossB : Bool
deriving DecidableEq, Repr

/-! ### Defect Map Unit (spec/05) -/

/-- One entry of a Remap Table (R105). -/
structure RemapEntry where
  lsn : Nat
  spare : Nat
deriving DecidableEq, Repr

/-- The step of a mount sequence in progress (R109, R110), or that there is none. -/
inductive MountStage where
  | idle
  | loading
  | seeking
  | atChannel
  | slip
  | recalibrating
deriving DecidableEq, Repr

/-- A Defect Map Unit (spec/05). -/
structure DefectMap where
  status : MountStatus
  table : List RemapEntry
  nextSpare : Nat
  softErrors : Nat
  marginal : Bool
  mountStage : MountStage
  mountOrder : OrderState
  mountRetries : Nat
deriving DecidableEq, Repr

/-! ### Read/Write Channel (spec/04) -/

/-- Search state (spec/04 section 4.3). -/
inductive Search where
  | idle
  | searching
  | reading
  | writing
  | formatting
deriving DecidableEq, Repr

/-- Format Sequencer (spec/04 section 4.3). -/
inductive FormatStep where
  | idle
  | arming
  | laying
  | closing
deriving DecidableEq, Repr

/-- A physical sector (R85). -/
structure Sector where
  cylinder : Nat
  head : Nat
  sector : Nat
deriving DecidableEq, Repr

/-- One sector of a run: the LSN it stands for, if it stands for one, and its number on the track. -/
structure RunSector where
  lsn : Option Nat
  sector : Nat
deriving DecidableEq, Repr

/-- A run: the sectors of one track still to be done for one bay, the first of them the Target (R88).
A Format Track's run has no sectors. -/
structure Run where
  bay : Bay
  cylinder : Nat
  head : Nat
  sectors : List RunSector
deriving DecidableEq, Repr

/-- The Read/Write Channel (spec/04 section 4.3). The Sector retry count is kept for each bay's Target
(DESIGN CHOICE: log 27). `slot` is the slot of the field in progress. -/
structure Channel where
  grant : Option Bay
  waiting : Option Bay
  search : Search
  target : Option Sector
  searchRevs : Nat
  retryCount : PerBay Nat
  format : FormatStep
  formatRevs : Nat
  formatPosition : Nat
  writeGate : Bool
  readGate : Bool
  baySelect : Bay
  headLine : Nat
  heldPress : Option Bay
  slot : Option Nat
deriving DecidableEq, Repr

/-- What the channel last put on the medium (DESIGN CHOICE: log 4): a whole data field of 529 bytes,
a field that was cut short, a whole track of 18,848 bytes, or a track left part-written after some
positions. -/
inductive MediumWrite where
  | field (bay : Bay) (place : Sector) (bytes : List Byte)
  | cutField (bay : Bay) (place : Sector)
  | track (bay : Bay) (cylinder head : Nat) (bytes : List Byte)
  | partTrack (bay : Bay) (cylinder head positions : Nat)
deriving DecidableEq, Repr

/-! ### Sector Buffer Pool and Bus Master (spec/06) -/

/-- Slot State (spec/06 section 6.1). -/
inductive SlotState where
  | free
  | filling
  | full
  | draining
deriving DecidableEq, Repr

/-- Slot Owner: a task by the name of its entry, or the mount of a bay. -/
inductive Owner where
  | task (id : Nat)
  | mount (bay : Bay)
deriving DecidableEq, Repr

/-- Slot Purpose. -/
inductive Purpose where
  | read
  | verify
  | write
  | copy
  | recordRead
  | recordWrite
  | settingsIn
  | settingsOut
deriving DecidableEq, Repr

/-- Slot Sector: an LSN, 638/0/0 for a record, or none. -/
inductive SlotSector where
  | none
  | lsn (n : Nat)
  | record
deriving DecidableEq, Repr

/-- A slot of the pool (spec/06 section 6.1) with its 512 bytes of the external RAM. -/
structure Slot where
  state : SlotState
  owner : Option Owner
  purpose : Option Purpose
  bay : Bay
  sector : SlotSector
  hostAddress : Option Nat
  wordsMoved : Nat
  age : Nat
  data : List Byte
deriving DecidableEq, Repr

/-- The task fields of a task block (R135, spec/11 section 11.4), each an unsigned number of its width
(R178). -/
structure TaskBlock where
  kind : Nat
  bay : Nat
  options : Byte
  expectedGeneration : Nat
  address : Nat
  count : Nat
  secondBay : Nat
  secondGeneration : Nat
  buffer : Nat
  parameter : Nat
deriving DecidableEq, Repr

/-- The work a burst does (R131): a slot's 16 words, one of the three writes of a finish, a record, or
an access of the fetcher. -/
inductive BurstWork where
  | slot (index : Nat)
  | finish (step : Nat)
  | record (bay : Bay) (sequence : Word) (raised : Bool)
  | startWrite
  | faultClear
  | reread
  | poll
  | readLink
  | readBlock (address : Nat)
  | stamp (address : Nat) (block : TaskBlock)
  | writeCursor
  | writeTaken
  | writeFault (fault : LinkFault)
deriving DecidableEq, Repr

/-- The burst in progress: its work, the host address it starts at, and the words it writes (none for a
read). `drop` says that its slot returns to FREE at its end (R129, R130). -/
structure Burst where
  work : BurstWork
  address : Nat
  words : List Word
  drop : Bool
deriving DecidableEq, Repr

/-! ### Task Queue (spec/07) -/

/-- Entry state (R136). -/
inductive EntryState where
  | queued
  | waiting
  | active
  | finishing
deriving DecidableEq, Repr

/-- What an ACTIVE task is doing (R143 to R149). -/
inductive Stage where
  | bayWait
  | slotWait
  | positioning
  | atChannel
  | slip
  | recalibrating
  | draining
  | parking
  | stopping
  | releasing
  | ejecting
  | settings
deriving DecidableEq, Repr

/-- What a task in its waits still waits for on one of its bays: the spindle (R143), then the mount
(R144), then nothing more. -/
inductive BayWait where
  | spindle
  | mount
  | passed
deriving DecidableEq, Repr

/-- The half of a Copy's group in hand (R126). -/
inductive CopyHalf where
  | reading
  | writing
deriving DecidableEq, Repr

/-- An entry of the Task Queue (R135). `ending` is the result once the task's end is decided (R145).
`waits` holds the waits of its bays.
`next` is the offset, from the task's first sector, of the next sector the medium side has to do;
`fetched` of the next sector a Write has to fetch, once `fetching`; `groupStart` and `groupLength` the
group of a Copy. `order` and `orderBay` are the order given and the bay it was given to; `awaitStop` is
the bay whose Positioner has a Stop order to report (R81). -/
structure Entry where
  id : Nat
  block : TaskBlock
  blockAddress : Nat
  state : EntryState
  aborted : Bool
  ending : Option Result
  sectorsDone : Nat
  detail : Nat
  retriesUsed : Nat
  stage : Stage
  waits : PerBay BayWait
  next : Nat
  fetching : Bool
  fetched : Nat
  half : CopyHalf
  groupStart : Nat
  groupLength : Nat
  run : Option Run
  order : OrderState
  orderBay : Bay
  awaitStop : Option Bay
  waitedMount : Bool
deriving DecidableEq, Repr

/-! ### Link Port (spec/08) -/

/-- Pending record write (spec/08 section 8.1). -/
inductive RecordWrite where
  | none
  | refresh
  | raised
deriving DecidableEq, Repr

/-- The chain walk's next access (R161, R162), or that there is none. -/
inductive Fetch where
  | idle
  | readLink
  | readBlock (address : Nat)
  | stamp (address : Nat) (block : TaskBlock)
  | writeCursor
  | writeTaken
  | writeFault (fault : LinkFault)
deriving DecidableEq, Repr

/-- The ports (R155): the anchor, Bad Command, and the data of the last status read. -/
structure Ports where
  anchor : BitVec 32
  badCommand : Bool
  dataOut : Word
deriving DecidableEq, Repr

/-- The counts the Link Port writes into the Communication Area (spec/08 section 8.1). -/
structure Counts where
  taken : Word
  finished : Word
  cursor : BitVec 32
  fault : LinkFault
  sequence : PerBay Word
deriving DecidableEq, Repr

/-- The last-read host fields (spec/08 section 8.1). -/
structure HostFields where
  posted : Word
  interruptEnable : Bool
  finishedSeen : Word
  conditionSeen : PerBay Word
  pollInterval : Word
deriving DecidableEq, Repr

/-- The rest of the Link Port (spec/08 section 8.1). `startWrite` and `faultClear` are the writes of
R158 and R159 still to be made; `pollDue` a poll that has fallen due (R160); `finishStep` the next write
of the oldest finish (R163). `haltedFrom` is the State before HALTED. -/
structure Link where
  state : LinkState
  haltedFrom : LinkState
  pendingRecord : PerBay RecordWrite
  recordOrder : List Bay
  refreshTimer : PerBay (Option Nat)
  pollTimer : Option Nat
  attentionHeld : Bool
  offlineHeld : Bool
  fetch : Fetch
  startWrite : Bool
  faultClear : Bool
  pollDue : Bool
  finishStep : Nat
  interruptLine : Bool
deriving DecidableEq, Repr

/-! ### Settings Store (spec/09) -/

/-- The settings in use (spec/09 section 9.1). -/
structure Settings where
  targetSpeed : Nat
  kp : Nat
  ki : Nat
  bias : Nat
  startDuty : Nat
  dutyFloor : Nat
  dutyCeiling : Nat
  hysteresis : Nat
  stability : Nat
  spinUpLimit : Nat
  relockLimit : Nat
  idleLimit : Nat
  retryLimit : Nat
  softThreshold : Nat
  presenceCount : Nat
  pressCount : Nat
  releaseCount : Nat
  settleTime : Nat
  onTrackCount : Nat
  kv : Nat
  autoLock : Bool
  autoSpin : Bool
  profile : List Breakpoint
deriving DecidableEq, Repr

/-! ### Supply Monitor and input levels -/

/-- The Supply Monitor input (spec/10 section 10.1). -/
structure Supply where
  accepted : Bool
  lowRun : Nat
  goodTimer : Option Nat
deriving DecidableEq, Repr

/-- The levels on one bay's harness inputs (spec/11 section 11.9). -/
structure BayPins where
  tach : Bool
  index : Bool
  crossA : Bool
  crossB : Bool
  outerGuard : Bool
  onTrack : Bool
  parkDetect : Bool
  present : Bool
  writeProtect : Bool
  ejectButton : Bool
deriving DecidableEq, Repr

/-- The levels on the sampled inputs. -/
structure Pins where
  supplyLow : Bool
  bays : PerBay BayPins
deriving DecidableEq, Repr

/-- Host memory as far as the part has written it: cells with strictly rising addresses. A byte that is
not listed has not been written by the part (DESIGN CHOICE: log 5). -/
abbrev Memory := List Host.Cell

/-! ### The machine -/

/-- No command stops the part: the spec turns every error into a result, a Fault Class, a Link Fault or
Bad Command. The type has no constructor, so no meaning can raise a fault. -/
inductive Fault where
deriving DecidableEq, Repr

/-- Refusals. -/
inductive Refusal where
  /-- Raised by an arm of `exec` that has no meaning yet. Safe: nothing is claimed of the command. No
  arm raises it now. -/
  | notModelled (mnemonic : String)
deriving DecidableEq, Repr

/-- The JC220, with the queue of commands that wait, first in, first out. -/
structure State where
  pending : List Instr
  cycle : Nat
  instant : Nat
  freeCount : Nat
  supply : Supply
  resetInProgress : Bool
  bays : PerBay BayControl
  spindles : PerBay Spindle
  permitHolder : Option Bay
  permitWaiting : Option Bay
  positioners : PerBay Positioner
  maps : PerBay DefectMap
  channel : Channel
  slots : List Slot
  waiters : List Nat
  burst : Option Burst
  dmaRequest : Bool
  entries : List Entry
  finishing : List Nat
  nextId : Nat
  ports : Ports
  counts : Counts
  hostFields : HostFields
  link : Link
  settings : Settings
  pins : Pins
  hostMem : Memory
  mediumOut : Option MediumWrite
deriving DecidableEq, Repr

/-! ### Values after Bus Reset -/

/-- The default Seek Profile (R66). -/
def defaultProfile : List Breakpoint :=
  [⟨1, 16⟩, ⟨2, 24⟩, ⟨4, 34⟩, ⟨8, 48⟩, ⟨16, 68⟩, ⟨32, 96⟩, ⟨64, 136⟩, ⟨128, 192⟩]

/-- The defaults of spec/09 section 9.1 (R168). -/
def Settings.default : Settings where
  targetSpeed := 3600
  kp := 48
  ki := 6
  bias := 512
  startDuty := 1023
  dutyFloor := 0
  dutyCeiling := 1023
  hysteresis := 576
  stability := 1
  spinUpLimit := 15
  relockLimit := 20
  idleLimit := 30
  retryLimit := 3
  softThreshold := 16
  presenceCount := 100
  pressCount := 20
  releaseCount := 10
  settleTime := 3
  onTrackCount := 10
  kv := 24
  autoLock := true
  autoSpin := true
  profile := defaultProfile

/-- An input accepted false with no run (R3, R57). -/
def Debounced.low : Debounced := ⟨false, 0⟩

/-- A Bay Controller after Bus Reset (spec/01 section 1.11, R3). -/
def BayControl.reset : BayControl where
  present := .low
  presentUndecided := false
  undecidedLevel := false
  writeProtect := .low
  button := .low
  parkDetect := .low
  sensing := true
  state := .empty
  prevent := false
  ejectRequested := false
  ejectFailed := false
  generation := 0
  faultClass := .none
  idle := none
  startBound := none
  pulse := none
  leave := none
  retry := none
  idleStop := false
  idleSpent := false
  runDownPark := false
  lock := false
  eject := false

/-- A Spindle Controller after Bus Reset (spec/02 section 2.12). -/
def Spindle.reset : Spindle where
  phase := .stopped
  history := []
  markTimer := none
  revCount := 0
  speed := 0
  activeTarget := 3600
  integrator := 0
  dutyStaging := 0
  dutyActive := 0
  inBand := 0
  startTimer := none
  spinUpTimer := none
  driftTimer := none
  stopTimer := none
  restartHeld := false
  brakeDeferred := false
  brakePending := false
  brake := false
  pwm := false
  indexArmed := false
  indexSince := none
  missCount := 0
  tachLast := false
  indexLast := false

/-- A Positioner after Bus Reset (spec/03 section 3.12); items the table does not give are log 22's. -/
def Positioner.reset : Positioner where
  state := .parked
  counter := 0
  known := false
  target := 0
  headSelect := 0
  pendingHead := none
  crossTimer := 0
  velTimer := 0
  vmeas := 0
  lastDirection := .inward
  dac := 0
  followEnable := false
  retract := false
  loadTimer := none
  recalTimer := none
  seekTimer := none
  settleLimit := none
  settleWait := none
  stopTimer := none
  retractTimer := none
  parkHold := none
  rampRun := 0
  sampling := false
  sampleTimer := 0
  onTrackCount := 0
  outwardCount := 0
  recalLeg := .outward
  reseekUsed := false
  order := none
  held := none
  heldBehind := none
  recalAfterStop := false
  retractFromFault := false
  retractRetries := 0
  kv := 24
  profile := defaultProfile
  outerGuard := .low
  crossA := false
  crossB := false

/-- A Defect Map Unit after Bus Reset (spec/05 section 5.8). -/
def DefectMap.reset : DefectMap where
  status := .none
  table := []
  nextSpare := 0
  softErrors := 0
  marginal := false
  mountStage := .idle
  mountOrder := .idle
  mountRetries := 0

/-- The Read/Write Channel after Bus Reset (spec/04 section 4.9). -/
def Channel.reset : Channel where
  grant := none
  waiting := none
  search := .idle
  target := none
  searchRevs := 0
  retryCount := .both 0
  format := .idle
  formatRevs := 0
  formatPosition := 0
  writeGate := false
  readGate := false
  baySelect := .bay0
  headLine := 0
  heldPress := none
  slot := none

/-- A FREE slot with the bytes the RAM holds: it holds bay 0 and Age 0 (DESIGN CHOICE: log 45). -/
def Slot.freed (data : List Byte) : Slot where
  state := .free
  owner := none
  purpose := none
  bay := .bay0
  sector := .none
  hostAddress := none
  wordsMoved := 0
  age := 0
  data := data

/-- The external RAM right after power-on: the spec gives no contents (DESIGN CHOICE: log 7). -/
def ramReset : List Byte := List.replicate 512 0#8

/-- The ports, counts and host fields after Bus Reset (spec/08 section 8.1). -/
def Ports.reset : Ports := ⟨0#32, false, 0#16⟩
def Counts.reset : Counts := ⟨0#16, 0#16, 0#32, .none, .both 0#16⟩
def HostFields.reset : HostFields := ⟨0#16, false, 0#16, .both 0#16, 0#16⟩

/-- The Link Port after Bus Reset (spec/08 section 8.1). -/
def Link.reset : Link where
  state := .offline
  haltedFrom := .offline
  pendingRecord := .both .none
  recordOrder := []
  refreshTimer := .both none
  pollTimer := none
  attentionHeld := false
  offlineHeld := false
  fetch := .idle
  startWrite := false
  faultClear := false
  pollDue := false
  finishStep := 0
  interruptLine := false

/-- Input levels with nothing asserted (DESIGN CHOICE: log 3). -/
def BayPins.idle : BayPins := ⟨false, false, false, false, false, false, false, false, false, false⟩
def Pins.idle : Pins := ⟨false, .both .idle⟩

/-- The machine right after Bus Reset (R177), nothing waiting. -/
def State.reset : State where
  pending := []
  cycle := 0
  instant := 0
  freeCount := 0
  supply := ⟨false, 0, none⟩
  resetInProgress := false
  bays := .both .reset
  spindles := .both .reset
  permitHolder := none
  permitWaiting := none
  positioners := .both .reset
  maps := .both .reset
  channel := .reset
  slots := List.replicate 16 (Slot.freed ramReset)
  waiters := []
  burst := none
  dmaRequest := false
  entries := []
  finishing := []
  nextId := 0
  ports := .reset
  counts := .reset
  hostFields := .reset
  link := .reset
  settings := .default
  pins := .idle
  hostMem := []
  mediumOut := none

/-! ### Access by bay -/

def State.bay (s : State) (b : Bay) : BayControl := s.bays.get b
def State.spindle (s : State) (b : Bay) : Spindle := s.spindles.get b
def State.positioner (s : State) (b : Bay) : Positioner := s.positioners.get b
def State.map (s : State) (b : Bay) : DefectMap := s.maps.get b

end Sys2Proof.Machine
end

