-- ==== Sys2Proof/Machine/Arith.lean ====
section
/-!
DEFINITION. The arithmetic of the two control laws: measured speed and the speed law (spec/02), the
measured velocity, the Seek Profile and the velocity loop (spec/03).
-/

namespace Sys2Proof.Machine

/-! ### The spindle -/

/-- R26: the recorded period of a mark that reads `t` on the mark timer. -/
def markPeriod (t : Nat) : Nat := max 1 (min t Config.markTop)

/-- R26: a period placed into the Mark History as the newest. -/
def pushPeriod (history : List Nat) (period : Nat) : List Nat :=
  if history.length < 8 then history ++ [period] else history.tail ++ [period]

/-- R28: Measured Speed of a Mark History. -/
def measuredSpeed (history : List Nat) : Nat :=
  if history.length < 8 then 0 else min Config.markTop (960000000 / history.sum)

/-- R34: the speed error E. -/
def speedError (activeTarget speed : Nat) : Int := (activeTarget : Int) * 16 - (speed : Int)

/-- R34: the clamped error Ec. -/
def clampedError (e : Int) : Int := clampInt e (-32768) 32767

/-- R39: Fly Speed, in 1/16 rpm. -/
def flySpeed (activeTarget : Nat) : Nat := activeTarget * 16 * 7 / 8

/-- R37: marks within the band that Stability Revolutions requires, read as 255 for code 3. -/
def stabilityMarks (code : Nat) : Nat := min 255 (8 * (4 * 2 ^ code))

/-- R35 step 2: the candidate integral. -/
def candidateIntegral (t : Settings) (i ec : Int) : Int :=
  clampInt (i + (t.ki : Int) * ec) (-1048576) 1048575

/-- R35 step 3: the raw duty. -/
def rawDuty (t : Settings) (i ec : Int) : Int :=
  (t.bias : Int) + floorDiv ((t.kp : Int) * ec) 64 + floorDiv (candidateIntegral t i ec) 1024

/-- R35 step 4: the duty written to Duty Staging. -/
def lawDuty (t : Settings) (i ec : Int) : Nat :=
  (clampInt (rawDuty t i ec) t.dutyFloor t.dutyCeiling).toNat

/-- R35 step 5: the Integrator after the mark. -/
def lawIntegrator (t : Settings) (i ec : Int) : Int :=
  if (rawDuty t i ec > t.dutyCeiling ∧ ec > 0) ∨ (rawDuty t i ec < t.dutyFloor ∧ ec < 0) then i
  else candidateIntegral t i ec

/-- R49: the expected index period and the half-window, in µs. -/
def indexPeriod (activeTarget : Nat) : Nat := 60000000 / activeTarget
def indexHalf (activeTarget : Nat) : Nat := indexPeriod activeTarget / 16

/-! ### The actuator -/

/-- R55: the Track Counter after a crossing, saturating at +1,023 and -1,024. -/
def countCrossing (d : Direction) (n : Int) : Int :=
  match d with
  | .inward => min 1023 (n + 1)
  | .outward => max (-1024) (n - 1)

/-- R55: the levels of A and B after a crossing, from the levels before it. -/
def quadratureNext (d : Direction) (ab : Bool × Bool) : Bool × Bool :=
  match d, ab with
  | .inward, (false, false) => (true, false)
  | .inward, (true, false) => (true, true)
  | .inward, (true, true) => (false, true)
  | .inward, (false, true) => (false, false)
  | .outward, (false, false) => (false, true)
  | .outward, (false, true) => (true, true)
  | .outward, (true, true) => (true, false)
  | .outward, (true, false) => (false, false)

/-- R65: Vmeas from a crossing interval in µs. -/
def crossingVelocity (interval : Nat) : Nat := 16000 / max 1 interval

/-- R66: the demand between the breakpoint `lo` and the breakpoints after it, at a distance not below
`lo`'s. -/
def profileFrom (lo : Breakpoint) (d : Nat) : List Breakpoint → Nat
  | [] => lo.velocity
  | hi :: rest =>
    if d < hi.distance then
      lo.velocity + (hi.velocity - lo.velocity) * (d - lo.distance) / (hi.distance - lo.distance)
    else profileFrom hi d rest

/-- R66: the demanded velocity at a remaining distance. -/
def profileVelocity (profile : List Breakpoint) (d : Nat) : Nat :=
  match profile with
  | [] => 0
  | first :: rest =>
    if d < first.distance then first.velocity * d / first.distance else profileFrom first d rest

/-- R65: the velocity in the direction of motion. -/
def signedVelocity (p : Positioner) (motion : Direction) : Int :=
  if p.lastDirection = motion then (p.vmeas : Int) else -(p.vmeas : Int)

/-- R67: the current demand A. -/
def currentDemand (kv : Nat) (v : Nat) (vt : Int) : Int :=
  clampInt (floorDiv ((kv : Int) * ((v : Int) - vt)) 16) (-127) 127

/-- R67: the direction in which the demand of a state pushes. -/
def motionDirection (p : Positioner) : Direction :=
  match p.state with
  | .seeking => if (p.target : Int) > p.counter then .inward else .outward
  | .recalibrating => p.recalLeg
  | _ => p.lastDirection

/-- R63, R66, R75: the demanded velocity of a state. -/
def motionDemand (p : Positioner) : Nat :=
  match p.state with
  | .seeking => profileVelocity p.profile ((p.target : Int) - p.counter).natAbs
  | .recalibrating => 32
  | _ => 0

/-- R67: the DAC value of the velocity loop. -/
def loopDac (p : Positioner) : Int :=
  let motion := motionDirection p
  let a := currentDemand p.kv (motionDemand p) (signedVelocity p motion)
  match motion with
  | .inward => a
  | .outward => -a

end Sys2Proof.Machine
end

