-- ==== Sys2Proof/Machine/Operands.lean ====
section
/-!
DEFINITION. The formats of spec/11: words and bytes, host structures (low byte first), medium
structures (high byte first), the two CRCs, the address translation of R104 and the sector placement of
R101.
-/

namespace Sys2Proof.Machine

/-! ### Words and bytes -/

/-- The two bytes of a word as host memory stores it, low byte first (spec/00 section 4.4). -/
def wordBytes (w : Word) : List Byte := [w.extractLsb' 0 8, w.extractLsb' 8 8]

/-- The bytes of a list of words, low byte first. -/
def wordsBytes (ws : List Word) : List Byte := ws.flatMap wordBytes

/-- Bytes paired into words, low byte first. -/
def bytesWords : List Byte → List Word
  | lo :: hi :: rest => (hi ++ lo) :: bytesWords rest
  | _ => []

/-- A number as `n` bytes, low byte first (host memory). -/
def lowFirst : Nat → Nat → List Byte
  | 0, _ => []
  | n + 1, x => BitVec.ofNat 8 x :: lowFirst n (x / 256)

/-- A number as `n` bytes, high byte first (the medium). -/
def highFirst (n x : Nat) : List Byte := (lowFirst n x).reverse

/-- The byte at an offset of a structure, as an unsigned number (R178). -/
def byteAt (bs : List Byte) (offset : Nat) : Nat := (bs.getD offset 0#8).toNat

/-- A 2-byte host field (R178). -/
def hostField2 (bs : List Byte) (offset : Nat) : Nat :=
  byteAt bs offset + 256 * byteAt bs (offset + 1)

/-- A 4-byte host field (R178). -/
def hostField4 (bs : List Byte) (offset : Nat) : Nat :=
  hostField2 bs offset + 65536 * hostField2 bs (offset + 2)

/-- A 2-byte medium item (spec/11: high byte first). -/
def mediumField2 (bs : List Byte) (offset : Nat) : Nat :=
  256 * byteAt bs offset + byteAt bs (offset + 1)

/-! ### The CRCs (R86, R87) -/

/-- One bit of the ID check's CRC: polynomial x^16 + x^12 + x^5 + 1. -/
def crc16Shift (c : BitVec 16) : BitVec 16 :=
  if c.msb then (c <<< 1) ^^^ 0x1021#16 else c <<< 1

/-- One byte of the ID check, most significant bit first. -/
def crc16Byte (c : BitVec 16) (b : Byte) : BitVec 16 :=
  Nat.repeat crc16Shift 8 (c ^^^ (b.zeroExtend 16 <<< 8))

/-- The ID check of R86: initial value all ones, no final inversion. -/
def crc16 (bs : List Byte) : BitVec 16 := bs.foldl crc16Byte 0xFFFF#16

/-- One bit of the data check's CRC: polynomial 04C11DB7 hex. -/
def crc32Shift (c : BitVec 32) : BitVec 32 :=
  if c.msb then (c <<< 1) ^^^ 0x04C11DB7#32 else c <<< 1

/-- One byte of the data check, most significant bit first. -/
def crc32Byte (c : BitVec 32) (b : Byte) : BitVec 32 :=
  Nat.repeat crc32Shift 8 (c ^^^ (b.zeroExtend 32 <<< 24))

/-- The data check of R87: initial value all ones, no final inversion. -/
def crc32 (bs : List Byte) : BitVec 32 := bs.foldl crc32Byte 0xFFFFFFFF#32

/-- The ID mark and the data mark (spec/11 section 11.6). -/
def idMark : Byte := 0x5C#8
def dataMark : Byte := 0x6A#8

/-- R86: the check recomputed over the six bytes as read equals the recorded one. -/
def idPasses (f : IdField) : Bool :=
  crc16 [f.mark, f.cylinderHigh, f.cylinderLow, f.head, f.sector, f.flags] == f.check

/-- The cylinder an ID field names, recorded high byte first (R86). -/
def idCylinder (f : IdField) : Nat := 256 * f.cylinderHigh.toNat + f.cylinderLow.toNat

/-- R87: the field carries the data mark and the recomputed check equals the recorded one. -/
def dataPasses (f : DataField) : Bool :=
  f.mark == dataMark && crc32 (f.mark :: f.bytes.toList) == f.check

/-! ### Fields and tracks as recorded (spec/11 section 11.6) -/

/-- The sync pattern. -/
def syncBytes : List Byte := List.replicate 12 0x00#8

/-- `n` gap bytes. -/
def gapBytes (n : Nat) : List Byte := List.replicate n 0x33#8

/-- A data field as written: sync, mark, data, check (R97). -/
def dataFieldBytes (data : List Byte) : List Byte :=
  syncBytes ++ dataMark :: data ++ highFirst 4 (crc32 (dataMark :: data)).toNat

/-- An ID field as Format Track records it, flags 0 (R86, R100). -/
def idFieldBytes (cylinder head sector : Nat) : List Byte :=
  let items := idMark :: highFirst 2 cylinder ++ highFirst 1 head ++ highFirst 1 sector ++ [0#8]
  syncBytes ++ items ++ highFirst 2 (crc16 items).toNat

/-- The first free position at or after `p`, modulo 32, among the positions already given out (R101). -/
def freePosition (taken : List Nat) : Nat → Nat → Nat
  | 0, p => p
  | tries + 1, p => if p ∈ taken then freePosition taken tries ((p + 1) % 32) else p

/-- R101: the positions of sectors s, s + 1, ... when the next is to stand at or after `p`. -/
def positionsFrom (k : Nat) : Nat → Nat → List Nat → List Nat
  | 0, _, taken => taken.reverse
  | left + 1, p, taken =>
    let q := freePosition taken 32 p
    positionsFrom k left ((q + k) % 32) (q :: taken)

/-- R101: the position of each sector 0 to 31 under interleave `k`. -/
def sectorPositions (k : Nat) : List Nat := positionsFrom k 32 0 []

/-- R101: the sector each position 0 to 31 holds under interleave `k`. -/
def interleave (k : Nat) : List Nat :=
  (List.range 32).map fun p => (sectorPositions k).findIdx (· == p)

/-- One sector position of a formatted track: 589 bytes (spec/11 section 11.6). -/
def positionBytes (cylinder head sector : Nat) (fill : Byte) : List Byte :=
  idFieldBytes cylinder head sector ++ gapBytes 16 ++
    dataFieldBytes (List.replicate 512 fill) ++ gapBytes 24

/-- The 32 positions of a formatted track (R100, R101). -/
def trackBytes (cylinder head k : Nat) (fill : Byte) : List Byte :=
  (interleave k).flatMap fun sector => positionBytes cylinder head sector fill

/-! ### Task blocks (spec/11 section 11.4) -/

/-- The options of a task block. -/
def TaskBlock.suppressRetries (t : TaskBlock) : Bool := t.options.getLsbD 0
def TaskBlock.preventOption (t : TaskBlock) : Bool := t.options.getLsbD 1
def TaskBlock.releaseOption (t : TaskBlock) : Bool := t.options.getLsbD 2

/-- Cylinder, head and interleave of the Address field of a Seek or Format Track. -/
def TaskBlock.cylinder (t : TaskBlock) : Nat := t.address % 65536
def TaskBlock.head (t : TaskBlock) : Nat := t.address / 65536 % 256
def TaskBlock.interleave (t : TaskBlock) : Nat := t.address / 16777216

/-- The fill byte of a Format Track. -/
def TaskBlock.fill (t : TaskBlock) : Byte := BitVec.ofNat 8 t.parameter

/-- The task fields of a 32-byte block as read (R162 step 1, R178). -/
def parseBlock (bs : List Byte) : TaskBlock where
  kind := byteAt bs 4
  bay := byteAt bs 5
  options := bs.getD 6 0#8
  expectedGeneration := byteAt bs 7
  address := hostField4 bs 8
  count := hostField2 bs 12
  secondBay := byteAt bs 14
  secondGeneration := byteAt bs 15
  buffer := hostField4 bs 16
  parameter := hostField4 bs 20

/-! ### Settings Records (spec/11 section 11.5, R169, R171) -/

/-- A scalar clamped to its setting's range, with the adjustment it counts (R169). -/
def clampSetting (lo hi x : Nat) : Nat × Nat :=
  if x < lo then (lo, 1) else if x > hi then (hi, 1) else (x, 0)

/-- The eight breakpoints of a record. -/
def recordProfile (bs : List Byte) : List Breakpoint :=
  (List.range 8).map fun i => ⟨hostField2 bs (28 + 2 * i), byteAt bs (44 + i)⟩

/-- R169, R66: distances strictly increasing in 1-638, velocities non-decreasing in 1-255. -/
def profileAcceptable (p : List Breakpoint) : Bool :=
  p.length == 8 &&
  p.all (fun x => decide (1 ≤ x.distance ∧ x.distance ≤ 638 ∧ 1 ≤ x.velocity ∧ x.velocity ≤ 255)) &&
  (p.zip p.tail).all (fun x => decide (x.1.distance < x.2.distance ∧ x.1.velocity ≤ x.2.velocity))

/-- R169: the record taken over the settings in use, with the count of adjustments. -/
def takeSettings (old : Settings) (bs : List Byte) : Settings × Nat :=
  let targetSpeed := clampSetting 1800 4200 (hostField2 bs 0)
  let bias := clampSetting 0 1023 (hostField2 bs 2)
  let startDuty := clampSetting 256 1023 (hostField2 bs 4)
  let dutyFloor := clampSetting 0 511 (hostField2 bs 6)
  let dutyCeiling := clampSetting 512 1023 (hostField2 bs 8)
  let hysteresis := clampSetting 16 1600 (hostField2 bs 10)
  let stability := clampSetting 0 3 (byteAt bs 14)
  let spinUpLimit := clampSetting 4 30 (byteAt bs 15)
  let relockLimit := clampSetting 1 50 (byteAt bs 16)
  let retryLimit := clampSetting 0 7 (byteAt bs 18)
  let presenceCount := clampSetting 20 255 (byteAt bs 20)
  let pressCount := clampSetting 5 255 (byteAt bs 21)
  let releaseCount := clampSetting 5 255 (byteAt bs 22)
  let settleTime := clampSetting 1 15 (byteAt bs 23)
  let onTrackCount := clampSetting 2 63 (byteAt bs 24)
  let kv := clampSetting 1 255 (byteAt bs 25)
  let profile := recordProfile bs
  let accepted := profileAcceptable profile
  ({ targetSpeed := targetSpeed.1
     kp := byteAt bs 12
     ki := byteAt bs 13
     bias := bias.1
     startDuty := startDuty.1
     dutyFloor := dutyFloor.1
     dutyCeiling := dutyCeiling.1
     hysteresis := hysteresis.1
     stability := stability.1
     spinUpLimit := spinUpLimit.1
     relockLimit := relockLimit.1
     idleLimit := byteAt bs 17
     retryLimit := retryLimit.1
     softThreshold := byteAt bs 19
     presenceCount := presenceCount.1
     pressCount := pressCount.1
     releaseCount := releaseCount.1
     settleTime := settleTime.1
     onTrackCount := onTrackCount.1
     kv := kv.1
     autoLock := (bs.getD 26 0#8).getLsbD 0
     autoSpin := (bs.getD 26 0#8).getLsbD 1
     profile := if accepted then profile else old.profile },
   targetSpeed.2 + bias.2 + startDuty.2 + dutyFloor.2 + dutyCeiling.2 + hysteresis.2 + stability.2 +
     spinUpLimit.2 + relockLimit.2 + retryLimit.2 + presenceCount.2 + pressCount.2 + releaseCount.2 +
     settleTime.2 + onTrackCount.2 + kv.2 + (if accepted then 0 else 1))

/-- R171: the settings in use as a 64-byte Settings Record, zeros in every byte that carries none. -/
def settingsBytes (t : Settings) : List Byte :=
  lowFirst 2 t.targetSpeed ++ lowFirst 2 t.bias ++ lowFirst 2 t.startDuty ++ lowFirst 2 t.dutyFloor ++
  lowFirst 2 t.dutyCeiling ++ lowFirst 2 t.hysteresis ++
  ([t.kp, t.ki, t.stability, t.spinUpLimit, t.relockLimit, t.idleLimit, t.retryLimit, t.softThreshold,
    t.presenceCount, t.pressCount, t.releaseCount, t.settleTime, t.onTrackCount, t.kv,
    (if t.autoLock then 1 else 0) + (if t.autoSpin then 2 else 0), 0]).map (BitVec.ofNat 8) ++
  t.profile.flatMap (fun x => lowFirst 2 x.distance) ++
  t.profile.map (fun x => BitVec.ofNat 8 x.velocity) ++
  List.replicate 12 0#8

/-! ### Defect Records (R106, R107, spec/11 section 11.6) -/

/-- The Record Mark. -/
def recordMark : Nat := 0xD5E3

/-- The first `n` entries of a Defect Record. -/
def recordEntries (bs : List Byte) (n : Nat) : List RemapEntry :=
  (List.range n).map fun i => ⟨mediumField2 bs (8 + 4 * i), mediumField2 bs (10 + 4 * i)⟩

/-- R107: the LSNs strictly ascend and are below 40,448, the spare indices are below Next Spare and no
two are the same. -/
def tableAcceptable (entries : List RemapEntry) (nextSpare : Nat) : Bool :=
  entries.all (fun e => decide (e.lsn < Config.userSectors ∧ e.spare < nextSpare)) &&
  (entries.zip entries.tail).all (fun x => decide (x.1.lsn < x.2.lsn)) &&
  decide ((entries.map RemapEntry.spare).Nodup)

/-- R107: the table and Next Spare of a well-formed record, or none if the record is malformed. -/
def readRecord (bs : List Byte) : Option (List RemapEntry × Nat) :=
  let count := mediumField2 bs 2
  let nextSpare := mediumField2 bs 4
  let entries := recordEntries bs count
  if mediumField2 bs 0 = recordMark ∧ count ≤ Config.tableSize ∧ nextSpare ≤ Config.spareSectors ∧
      tableAcceptable entries nextSpare then
    some (entries, nextSpare)
  else none

/-- R106: the 512 bytes of the record of a table, zeros after the last entry. -/
def recordBytes (entries : List RemapEntry) (nextSpare : Nat) : List Byte :=
  let used := highFirst 2 recordMark ++ highFirst 2 entries.length ++ highFirst 2 nextSpare ++
    highFirst 2 0 ++ entries.flatMap (fun e => highFirst 2 e.lsn ++ highFirst 2 e.spare)
  used ++ List.replicate (512 - used.length) 0#8

/-- R114: the entries with `lsn` paired with `spare`: replaced in place if present, else inserted at
its place in ascending order. -/
def remap (lsn spare : Nat) : List RemapEntry → List RemapEntry
  | [] => [⟨lsn, spare⟩]
  | e :: rest =>
    if e.lsn = lsn then ⟨lsn, spare⟩ :: rest
    else if lsn < e.lsn then ⟨lsn, spare⟩ :: e :: rest
    else e :: remap lsn spare rest

/-! ### Address translation (R104) and runs (R88) -/

/-- R104: the spare sector of a spare index. -/
def spareSector (i : Nat) : Sector := ⟨632 + i / 64, i % 64 / 32, i % 32⟩

/-- R104: the home sector of an LSN. -/
def homeSector (lsn : Nat) : Sector := ⟨lsn / 64, lsn % 64 / 32, lsn % 32⟩

/-- The table's entry for an LSN, if it holds one. -/
def findEntry (table : List RemapEntry) (lsn : Nat) : Option RemapEntry :=
  table.find? (fun e => e.lsn == lsn)

/-- R104: the physical sector of an LSN under a Remap Table. -/
def translate (table : List RemapEntry) (lsn : Nat) : Sector :=
  match findEntry table lsn with
  | some e => spareSector e.spare
  | none => homeSector lsn

/-- R88: how many of the next `left` LSNs from `lsn` the table does not redirect and lie on the track
of the first. -/
def sameTrack (table : List RemapEntry) (first : Nat) : Nat → Nat → Nat
  | 0, _ => 0
  | left + 1, lsn =>
    if (findEntry table lsn).isNone ∧ lsn / 32 = first / 32 then
      sameTrack table first left (lsn + 1) + 1
    else 0

/-- R88: the next run of a task on a bay: one redirected LSN by itself, or the longest sequence on one
track of at most `most` of the `left` LSNs from `lsn`. -/
def formRun (b : Bay) (table : List RemapEntry) (lsn left most : Nat) : Run :=
  let first := translate table lsn
  let n := if (findEntry table lsn).isSome then 1 else sameTrack table lsn (min left most) lsn
  { bay := b
    cylinder := first.cylinder
    head := first.head
    sectors := (List.range n).map fun i => ⟨some (lsn + i), (translate table (lsn + i)).sector⟩ }

/-- The run of one sector at 638/0/0 (R88). -/
def recordRun (b : Bay) : Run := ⟨b, Config.lastCylinder, 0, [⟨none, 0⟩]⟩

/-! ### Host memory -/

/-- A host address has 24 significant bits (spec/00 section 4.4; DEDUCED: log 6). -/
def hostWrap (address : Nat) : Nat := address % Config.hostSize

/-- The byte the part has written at an address, if it has written one. -/
def Memory.read (m : Memory) (address : Nat) : Option Byte :=
  match m with
  | [] => none
  | c :: rest => if c.1 = address then some c.2 else Memory.read rest address

/-- One byte written, the addresses kept strictly rising. -/
def Memory.write (m : Memory) (address : Nat) (v : Byte) : Memory :=
  match m with
  | [] => [(address, v)]
  | c :: rest =>
    if c.1 = address then (address, v) :: rest
    else if address < c.1 then (address, v) :: c :: rest
    else c :: Memory.write rest address v

/-- Bytes written at ascending host addresses. -/
def Memory.writeBytes (m : Memory) : Nat → List Byte → Memory
  | _, [] => m
  | address, b :: rest => Memory.writeBytes (m.write (hostWrap address) b) (address + 1) rest

/-- The canonical form: strictly rising addresses. -/
def Memory.wf : Memory → Bool
  | [] => true
  | [_] => true
  | c :: d :: rest => decide (c.1 < d.1) && Memory.wf (d :: rest)

end Sys2Proof.Machine
end

