-- ==== Sys2Proof/Machine/Flags.lean ====
section
/-!
DEFINITION. What the rules read from the state: the codes of spec/11 section 11.7, the status word, the
Condition Record, the interrupt condition, and the conditions and classes the blocks share.
-/

namespace Sys2Proof.Machine

/-! ### Codes (spec/11 section 11.7) -/

def bayStateCode : BayState → Nat
  | .empty => 0
  | .seated => 1
  | .locked => 2
  | .releasing .seated => 3
  | .releasing .ejecting => 4
  | .ejecting => 5
  | .fault => 6

def phaseCode : Phase → Nat
  | .stopped => 0
  | .pending => 1
  | .starting => 2
  | .accelerating => 3
  | .locked => 4
  | .drifting => 5
  | .stopping => 6

def actuatorCode : Actuator → Nat
  | .parked => 0
  | .loading => 1
  | .recalibrating => 2
  | .seeking => 3
  | .settling => 4
  | .following => 5
  | .stopping => 6
  | .retracting => 7
  | .fault => 8

def mountCode : MountStatus → Nat
  | .none => 0
  | .mounting => 1
  | .valid => 2
  | .absent => 3
  | .damaged => 4

def faultClassCode : FaultClass → Nat
  | .none => 0
  | .spinFault => 1
  | .speedLost => 2
  | .seekFault => 3
  | .loadFault => 4
  | .retractFault => 5
  | .headsOffRamp => 6
  | .unexpectedRemoval => 7

def linkStateCode : LinkState → Nat
  | .offline => 0
  | .running => 1
  | .draining => 2
  | .stalled => 3
  | .halted => 4

def linkFaultCode : LinkFault → Nat
  | .none => 0
  | .misaligned => 1
  | .brokenChain => 2
  | .countSkew => 3

def resultCode : Result → Nat
  | .complete => 1
  | .recovered => 2
  | .adjusted => 3
  | .badKind => 4
  | .badBay => 5
  | .outOfRange => 6
  | .badAddress => 7
  | .writeProtected => 8
  | .recordNotValid => 9
  | .tableFull => 10
  | .noMedia => 11
  | .mediaChanged => 12
  | .mediaNotReady => 13
  | .mediaRemoved => 14
  | .ejected => 15
  | .dataError => 16
  | .idNotFound => 17
  | .seekFault => 18
  | .speedLost => 19
  | .spinFault => 20
  | .indexFault => 21
  | .retractFault => 22
  | .ejectFailed => 23
  | .aborted => 24
  | .powerLoss => 25

/-! ### Classes of states -/

/-- The loaded states (R54). -/
def Actuator.loaded : Actuator → Bool
  | .loading | .recalibrating | .seeking | .settling | .following | .stopping => true
  | .parked | .retracting | .fault => false

/-- The loaded states in which the heads move or settle, where an order is held (R59). -/
def Actuator.moving : Actuator → Bool
  | .loading | .recalibrating | .seeking | .settling | .stopping => true
  | .parked | .following | .retracting | .fault => false

/-- The phases in which the spindle regulates (R17, R40). -/
def Phase.regulates : Phase → Bool
  | .locked | .drifting => true
  | _ => false

/-- Mount Status once a mount has ended (R144). -/
def MountStatus.mounted : MountStatus → Bool
  | .valid | .absent | .damaged => true
  | .none | .mounting => false

/-- Link States in which Condition Records are written (spec/08 section 8.3). -/
def LinkState.reports : LinkState → Bool
  | .running | .draining | .stalled => true
  | .offline | .halted => false

/-- A task is unfinished while it is QUEUED, WAITING or ACTIVE (R136). -/
def Entry.unfinished (e : Entry) : Bool := e.state != .finishing

/-- A task the Dispatcher has started and that has not finished. -/
def Entry.started (e : Entry) : Bool := e.state == .active

/-! ### Task kinds (spec/07 section 7.1) -/

/-- The fifteen kinds. -/
inductive TaskKind where
  | read
  | write
  | verify
  | copy
  | seek
  | recalibrate
  | spinUp
  | spinDown
  | lock
  | eject
  | formatTrack
  | reassign
  | resetRecord
  | setParameters
  | readSettings
deriving DecidableEq, Repr

/-- The kind a Kind field names, if it names one. -/
def taskKind : Nat → Option TaskKind
  | 1 => some .read
  | 2 => some .write
  | 3 => some .verify
  | 4 => some .copy
  | 5 => some .seek
  | 6 => some .recalibrate
  | 7 => some .spinUp
  | 8 => some .spinDown
  | 9 => some .lock
  | 10 => some .eject
  | 11 => some .formatTrack
  | 12 => some .reassign
  | 13 => some .resetRecord
  | 14 => some .setParameters
  | 15 => some .readSettings
  | _ => none

/-- The kind of an entry. -/
def Entry.kind (e : Entry) : Option TaskKind := taskKind e.block.kind

/-- The medium tasks (R22). -/
def TaskKind.medium : TaskKind → Bool
  | .read | .write | .verify | .copy | .seek | .recalibrate | .formatTrack | .reassign
  | .resetRecord => true
  | _ => false

/-- The part-wide tasks. -/
def TaskKind.partWide : TaskKind → Bool
  | .setParameters | .readSettings => true
  | _ => false

/-- The kinds that honour the Suppress Retries option (spec/07 section 7.1). -/
def TaskKind.mayAskNoRetries : TaskKind → Bool
  | .read | .write | .verify | .copy | .formatTrack | .reassign | .resetRecord => true
  | _ => false

/-- R137: the bays a task names, for ordering. -/
def namedBays (t : TaskBlock) : List Bay :=
  match taskKind t.kind with
  | none => []
  | some k =>
    if k.partWide then []
    else
      match Bay.ofNat? t.bay with
      | none => []
      | some b =>
        if k = .copy then
          match Bay.ofNat? t.secondBay with
          | none => []
          | some c => if b = c then [b] else [b, c]
        else [b]

/-- R137: whether an entry names a bay. -/
def Entry.names (e : Entry) (b : Bay) : Bool := decide (b ∈ namedBays e.block)

/-- Whether an entry is a part-wide task. -/
def Entry.partWide (e : Entry) : Bool :=
  match e.kind with
  | some k => k.partWide
  | none => false

/-- The bay of a one-bay task, or the source bay of a Copy. -/
def Entry.bay (e : Entry) : Bay := (Bay.ofNat? e.block.bay).getD .bay0

/-- The destination bay of a Copy. -/
def Entry.secondBay (e : Entry) : Bay := (Bay.ofNat? e.block.secondBay).getD .bay0

/-- R99, R142 check 7: whether the task writes to the medium of a bay. -/
def Entry.writesTo (e : Entry) (b : Bay) : Bool :=
  match e.kind with
  | some .write | some .formatTrack | some .reassign | some .resetRecord => e.bay == b
  | some .copy => e.secondBay == b
  | _ => false

/-- R10, R11: a Lock (Release) or Eject, the tasks that release a bay. -/
def Entry.releases (e : Entry) : Bool :=
  match e.kind with
  | some .eject => true
  | some .lock => e.block.releaseOption
  | _ => false

/-! ### What the blocks ask of the state -/

/-- The entry of a name. -/
def State.entry? (s : State) (id : Nat) : Option Entry := s.entries.find? (fun e => e.id == id)

/-- Slots a task holds. -/
def State.slotsOf (s : State) (id : Nat) : Nat :=
  s.slots.countP (fun x => x.owner == some (Owner.task id))

/-- The lowest-numbered FREE slot (R120). -/
def State.freeSlot? (s : State) : Option Nat := s.slots.findIdx? (fun x => x.state == .free)

/-- The purposes whose data goes to the medium (R124, R126, R128). -/
def toMedium : Option Purpose → Bool
  | some .write | some .copy | some .recordWrite => true
  | _ => false

/-- The slot a task holds for a sector it writes (R97). -/
def State.slotFor? (s : State) (id : Nat) (sector : SlotSector) : Option Nat :=
  s.slots.findIdx? (fun x =>
    x.owner == some (Owner.task id) && x.sector == sector && toMedium x.purpose)

/-- Whether a task waits at the channel with a run on a bay. -/
def Entry.atChannelOn (e : Entry) (b : Bay) : Bool :=
  e.state == .active && e.stage == .atChannel && e.run.any (fun r => r.bay == b)

/-- The user of the channel on a bay: its mount or a task with a run there. -/
def State.client? (s : State) (b : Bay) : Option Giver :=
  if (s.map b).mountStage = .atChannel then some .mount
  else (s.entries.find? (fun e => e.atChannelOn b)).map (fun e => .task e.id)

/-- The run of a user of the channel. -/
def State.clientRun? (s : State) (b : Bay) : Giver → Option Run
  | .mount => some (recordRun b)
  | .task id => (s.entry? id).bind (fun e => e.run)
  | .bay => none

/-- A field being read or written, or a track being laid, for a bay (R88). -/
def State.fieldInProgress (s : State) (b : Bay) : Bool :=
  s.channel.grant == some b &&
    (s.channel.search == .reading || s.channel.search == .writing ||
      (s.channel.search == .formatting && s.channel.format == .laying))

/-- R89: the actuator stands FOLLOWING on a run's cylinder with its head selected. -/
def State.headsAt (s : State) (b : Bay) (cylinder head : Nat) : Bool :=
  let p := s.positioner b
  p.state == .following && p.known && p.counter == (cylinder : Int) && p.headSelect == head &&
    p.pendingHead.isNone

/-- R89: the conditions of a request for a run. -/
def State.requestAllowed (s : State) (r : Run) : Bool :=
  (s.bay r.bay).state == .locked && (s.spindle r.bay).phase == .locked &&
    s.headsAt r.bay r.cylinder r.head && !s.supply.accepted

/-- R98: the conditions of the write gate for a bay and the cylinder of the field. -/
def State.gateAllowed (s : State) (b : Bay) (cylinder : Nat) : Bool :=
  s.channel.grant == some b && (s.bay b).state == .locked && (s.spindle b).phase == .locked &&
    (s.positioner b).state == .following && (s.positioner b).counter == (cylinder : Int) &&
    !(s.bay b).writeProtect.accepted && !s.supply.accepted

/-- R97: a task is writing to a bay's medium while the write gate is asserted for that bay, or a format
from its arming index to the end of its last data field. -/
def State.writingTo (s : State) (b : Bay) : Bool :=
  s.channel.grant == some b && (s.channel.writeGate || s.channel.format == .laying)

/-- R13: the four conditions of the Eject solenoid. -/
def State.ejectAllowed (s : State) (b : Bay) : Bool :=
  (s.bay b).parkDetect.accepted && (s.spindle b).phase == .stopped && !(s.bay b).lock &&
    !s.writingTo b

/-- R50: the Index Unreliable condition. -/
def State.indexUnreliable (s : State) (b : Bay) : Bool := decide (2 ≤ (s.spindle b).missCount)

/-- R93: the retries a task is allowed on a sector. -/
def State.allowance (s : State) (e : Entry) : Nat :=
  if e.block.suppressRetries && (e.kind.any TaskKind.mayAskNoRetries) then 0
  else s.settings.retryLimit

/-- R8: the bay is LOCKED and its spindle LOCKED. -/
def State.ready (s : State) (b : Bay) : Bool :=
  (s.bay b).state == .locked && (s.spindle b).phase == .locked

/-! ### Ports, interrupt and records -/

/-- R166: when the interrupt line is asserted. -/
def State.interruptDue (s : State) : Bool :=
  s.hostFields.interruptEnable &&
    (s.counts.finished != s.hostFields.finishedSeen ||
      s.counts.sequence.bay0 != s.hostFields.conditionSeen.bay0 ||
      s.counts.sequence.bay1 != s.hostFields.conditionSeen.bay1 ||
      s.counts.fault != .none)

/-- A bit of the status word. -/
def statusBit (b : Bool) (weight : Nat) : Nat := if b then weight else 0

/-- The status a read of the Command/Status port returns (R155, spec/11 section 11.8). -/
def State.statusWord (s : State) : Word :=
  BitVec.ofNat 16 (linkStateCode s.link.state + statusBit s.link.interruptLine 8 +
    statusBit s.supply.accepted 16 + statusBit s.ports.badCommand 32 +
    statusBit s.resetInProgress 64)

/-- A read of the Anchor Low or Anchor High port (R155; DESIGN CHOICE: log 23). -/
def State.anchorRead (s : State) : AnchorHalf → Word
  | .low => s.ports.anchor.extractLsb' 0 16
  | .high => s.ports.anchor.extractLsb' 16 16

/-- R158: an anchor that Start takes: not 0, a multiple of 16, upper byte 0. -/
def anchorValid (a : BitVec 32) : Bool :=
  decide (a.toNat ≠ 0 ∧ a.toNat % 16 = 0 ∧ a.toNat < Config.hostSize)

/-- The Cylinder field of a Condition Record (R58): FFFF hex while Cylinder Known is false. -/
def cylinderField (p : Positioner) : Nat := if p.known then (p.counter % 65536).toNat else 0xFFFF

/-- The flags byte of a Condition Record (spec/11 section 11.3). -/
def flagsByte (c : BayControl) (m : DefectMap) : Nat :=
  statusBit c.prevent 1 + statusBit c.writeProtect.accepted 2 + statusBit c.ejectRequested 4 +
    statusBit m.marginal 8 + statusBit c.ejectFailed 16

/-- The 16 bytes of a bay's Condition Record with a sequence (R164, spec/11 section 11.3). -/
def State.recordImage (s : State) (b : Bay) (sequence : Word) : List Byte :=
  let c := s.bay b
  let p := s.positioner b
  let m := s.map b
  lowFirst 2 sequence.toNat ++ lowFirst 1 (bayStateCode c.state) ++
    lowFirst 1 (phaseCode (s.spindle b).phase) ++ lowFirst 4 (s.spindle b).speed ++
    lowFirst 2 (cylinderField p) ++ lowFirst 1 (actuatorCode p.state) ++ lowFirst 1 c.generation ++
    lowFirst 1 (mountCode m.status) ++ lowFirst 1 (flagsByte c m) ++
    lowFirst 1 (faultClassCode c.faultClass) ++ lowFirst 1 m.softErrors

/-! ### The request set of the Bus Master (R131) -/

/-- Whether a slot has a request standing. -/
def slotRequests (x : Slot) : Bool :=
  match x.purpose with
  | some .read | some .settingsOut => x.state == .full || x.state == .draining
  | some .write | some .settingsIn => x.state == .filling
  | _ => false

/-- R132: the older of two requesting slots, the first one given at equal Age. -/
def olderSlot (best : Option (Nat × Nat)) (x : Nat × Nat) : Option (Nat × Nat) :=
  match best with
  | none => some x
  | some y => if x.2 < y.2 then some x else some y

/-- R132 item 1: the requesting slot with the oldest Age, the lowest-numbered among equals. -/
def State.oldestRequest (s : State) : Option Nat :=
  ((((List.range s.slots.length).zip s.slots).filter (fun x => slotRequests x.2)).map
    (fun x => (x.1, x.2.age))).foldl olderSlot none |>.map (fun x => x.1)

/-- What the fetcher would do next (R158 to R162): the Start write and the clearing of a Link Fault come
first, then an access already begun, then a held Attention, then a poll that is due. A poll that was due
before the Attention arrived comes after its re-read, which does not serve it (DESIGN CHOICE: log 66). -/
def State.fetchWork (s : State) : Option BurstWork :=
  if s.link.startWrite then some .startWrite
  else if s.link.faultClear then some .faultClear
  else
    match s.link.fetch with
    | .readLink => some .readLink
    | .readBlock a => some (.readBlock a)
    | .stamp a t => some (.stamp a t)
    | .writeCursor => some .writeCursor
    | .writeTaken => some .writeTaken
    | .writeFault f => some (.writeFault f)
    | .idle =>
      if s.link.attentionHeld then some .reread
      else if s.link.pollDue then some .poll
      else none

/-- Whether the Bus Master's request set is not empty (R131). -/
def State.requesting (s : State) : Bool :=
  s.slots.any slotRequests || !s.finishing.isEmpty || !s.link.recordOrder.isEmpty ||
    s.fetchWork.isSome

end Sys2Proof.Machine
end

