-- ==== Sys2Proof/Machine/Ops.lean ====
section
/-!
DEFINITION. The named updates of the state: one block's record of one bay changed, with the notable
changes of R25, R53, R84 and R118 handed to the Link Port; the slots of the pool; the entries of the
Task Queue; and the handing back of an order's outcome.
-/

namespace Sys2Proof.Machine

/-! ### Notable changes (R25, R53, R84, R118, R164) -/

/-- R164: a bay's pending record write becomes raised, and takes its place in the order in which the
writes became pending (DESIGN CHOICE: log 33). -/
def raiseRecord (b : Bay) (l : Link) : Link :=
  { l with
    pendingRecord := l.pendingRecord.update b (fun _ => .raised)
    recordOrder := if b ∈ l.recordOrder then l.recordOrder else l.recordOrder ++ [b] }

/-- R164: a notable change handed over. "In OFFLINE and HALTED the hand-over is not kept." -/
def State.notable (s : State) (b : Bay) : State :=
  if s.link.state.reports then { s with link := raiseRecord b s.link } else s

/-- A notable change handed over if there was one. -/
def State.report (s : State) (b : Bay) (changed : Bool) : State := if changed then s.notable b else s

/-- What of a Bay Controller is notable (R25). -/
def bayReported (c : BayControl) : BayState × Nat × FaultClass × Bool × Bool × Bool × Bool :=
  (c.state, c.generation, c.faultClass, c.prevent, c.writeProtect.accepted, c.ejectRequested,
    c.ejectFailed)

/-- R84: "entry to PARKED; leaving PARKED; entry to FAULT." -/
def actuatorNotable (x y : Actuator) : Bool :=
  x != y && (x == .parked || y == .parked || y == .fault)

/-! ### One block's record changed -/

/-- A change of one Bay Controller, reported by R25. -/
def State.modBay (s : State) (b : Bay) (f : BayControl → BayControl) : State :=
  State.report { s with bays := s.bays.update b f } b
    (decide (bayReported (f (s.bay b)) ≠ bayReported (s.bay b)))

/-- A change of one Spindle Controller, reported by R53. -/
def State.modSpindle (s : State) (b : Bay) (f : Spindle → Spindle) : State :=
  State.report { s with spindles := s.spindles.update b f } b
    (decide ((f (s.spindle b)).phase ≠ (s.spindle b).phase))

/-- A change of one Positioner, reported by R84. -/
def State.modPositioner (s : State) (b : Bay) (f : Positioner → Positioner) : State :=
  State.report { s with positioners := s.positioners.update b f } b
    (actuatorNotable (s.positioner b).state (f (s.positioner b)).state)

/-- A change of one Defect Map Unit, reported by R118. -/
def State.modMap (s : State) (b : Bay) (f : DefectMap → DefectMap) : State :=
  State.report { s with maps := s.maps.update b f } b
    (decide ((f (s.map b)).status ≠ (s.map b).status ∨ (f (s.map b)).marginal ≠ (s.map b).marginal))

/-- A change of the Read/Write Channel. -/
def State.modChannel (s : State) (f : Channel → Channel) : State := { s with channel := f s.channel }

/-- A change of the Link Port. -/
def State.modLink (s : State) (f : Link → Link) : State := { s with link := f s.link }

/-- A change of one slot. -/
def State.modSlot (s : State) (i : Nat) (f : Slot → Slot) : State :=
  { s with slots := s.slots.modify i f }

/-- A change of one entry of the Task Queue. -/
def State.modEntry (s : State) (id : Nat) (f : Entry → Entry) : State :=
  { s with entries := s.entries.map (fun e => if e.id = id then f e else e) }

/-- A change of every entry of the Task Queue. -/
def State.modEntries (s : State) (f : Entry → Entry) : State := { s with entries := s.entries.map f }

/-- The Fault Class of a bay, which holds the most recent fault (R20). -/
def State.recordFault (s : State) (b : Bay) (f : FaultClass) : State :=
  s.modBay b (fun c => { c with faultClass := f })

/-! ### Slots (R119, R120, R129) -/

/-- R119: a slot returns to FREE, with its data left in the RAM. -/
def State.freeSlot (s : State) (i : Nat) : State := s.modSlot i (fun x => Slot.freed x.data)

/-- Whether the burst in progress moves a slot. -/
def State.burstOn (s : State) (i : Nat) : Bool :=
  s.burst.any (fun b => b.work == BurstWork.slot i)

/-- R129, R130: a slot returns to FREE, at the end of its burst if one is in progress. -/
def State.dropSlot (s : State) (i : Nat) : State :=
  if s.burstOn i then { s with burst := s.burst.map (fun b => { b with drop := true }) }
  else s.freeSlot i

/-- The indices of the slots that satisfy a condition. -/
def State.slotsWhere (s : State) (p : Nat → Slot → Bool) : List Nat :=
  (List.range s.slots.length).filter (fun i => s.slots[i]?.any (p i))

/-- The slots of a condition dropped, one after another. -/
def State.dropSlots (s : State) (p : Nat → Slot → Bool) : State :=
  (s.slotsWhere p).foldl State.dropSlot s

/-- R119: a take. The slot has its owner, purpose, bay, sector and host address, no words moved, and
its Age is this instant (DEDUCED: log 8). -/
def State.takeSlot (s : State) (i : Nat) (state : SlotState) (owner : Owner) (purpose : Purpose)
    (bay : Bay) (sector : SlotSector) (host : Option Nat) : State :=
  s.modSlot i (fun x =>
    { x with
      state := state, owner := some owner, purpose := some purpose, bay := bay, sector := sector
      hostAddress := host, wordsMoved := 0, age := s.instant })

/-- R120: the slot a take would be given: the lowest-numbered FREE one, unless the taker is a task that
holds its quota. -/
def State.slotForTake (s : State) : Owner → Option Nat
  | .mount _ => s.freeSlot?
  | .task id => if s.slotsOf id < Config.slotQuota then s.freeSlot? else none

/-! ### Orders -/

/-- An order's outcome told to the block that gave it, if that block still waits for it. -/
def State.handBack (s : State) (b : Bay) (o : Order) (outcome : OrderState) : State :=
  match o.giver with
  | .bay => s
  | .mount =>
    s.modMap b (fun m => if m.mountOrder = .outstanding then { m with mountOrder := outcome } else m)
  | .task id =>
    s.modEntry id (fun e => if e.order = .outstanding then { e with order := outcome } else e)

/-- The same for an order that may be absent. -/
def State.handBack? (s : State) (b : Bay) (o : Option Order) (outcome : OrderState) : State :=
  match o with
  | none => s
  | some o => s.handBack b o outcome

/-- R150: Retries Used raised, saturating at 255. -/
def retryCounted (e : Entry) : Entry := { e with retriesUsed := raiseTo 255 e.retriesUsed }

/-- R109: Mount Retries raised, saturating at 255. A mount sequence that has failed keeps its count
(R111). -/
def mountRetryCounted (m : DefectMap) : DefectMap :=
  { m with mountRetries := if m.mountStage = .idle then m.mountRetries else raiseTo 255 m.mountRetries }

/-- R93: one retry handed to the user of the channel. -/
def State.countRetry (s : State) (b : Bay) : Giver → State
  | .bay => s
  | .mount => s.modMap b mountRetryCounted
  | .task id => s.modEntry id retryCounted

/-- R73: the automatic re-seek counted for the giver of the order. "A task that ends by any other result
keeps the Retries Used it had reached" (R150). -/
def State.countReseek (s : State) (b : Bay) : Giver → State
  | .bay => s
  | .mount => s.modMap b mountRetryCounted
  | .task id => s.modEntry id (fun e => if e.ending = none then retryCounted e else e)

/-! ### The end of a task decided (R145) -/

/-- Whether a result is a completion or one of the two ends that R153 turns to Aborted for a marked
Spin Down, Lock (Release) or Eject (DEDUCED: log 20). -/
def turnsAborted (k : Option TaskKind) : Result → Bool
  | .complete | .recovered | .adjusted => true
  | .retractFault | .ejectFailed => k == some .spinDown || k == some .lock || k == some .eject
  | _ => false

/-- R145, R153: the first event to reach an ACTIVE task decides its result; a marked task that would
otherwise have finished finishes Aborted, with Detail 0. -/
def decided (result : Result) (detail : Nat) (e : Entry) : Entry :=
  if e.state = .active ∧ e.ending = none then
    if e.aborted && turnsAborted e.kind result then
      { e with ending := some .aborted, detail := 0 }
    else { e with ending := some result, detail := detail }
  else e

/-- The end of one task decided. -/
def State.decideEnd (s : State) (id : Nat) (result : Result) (detail : Nat) : State :=
  s.modEntry id (decided result detail)

/-- R150: a task reaches its completion: Complete, or Complete, Recovered with Retries Used above 0. -/
def completed (e : Entry) : Entry :=
  decided (if 0 < e.retriesUsed then .recovered else .complete) 0 e

/-- The completion of one task. -/
def State.complete (s : State) (id : Nat) : State := s.modEntry id completed

end Sys2Proof.Machine
end

