-- ==== Sys2Proof/Machine/ChannelOps.lean ====
section
/-!
DEFINITION. The operations of the Read/Write Channel (spec/04), of the mount's read (spec/05) and of the
sectors a run gets done (spec/06): release and cut, failures and retries, targets, takes at an ID match,
and what the end of a field brings.
-/

namespace Sys2Proof.Machine

/-! ### Release and cut (R91, R99) -/

/-- R91: "At the release Read Gate is deasserted and the Search state becomes IDLE." The channel holds no
Target until its next grant; the run keeps it (DESIGN CHOICE: log 42). -/
def releasedChannel (c : Channel) : Channel :=
  { c with
    grant := none, search := .idle, target := none, searchRevs := 0, format := .idle, formatRevs := 0
    formatPosition := 0, writeGate := false, readGate := false, slot := none }

/-- The holder releases the channel. -/
def State.releaseChannel (s : State) : State := s.modChannel releasedChannel

/-- The release of a bay that may not be the holder any more. -/
def State.releaseOf (s : State) (b : Bay) : State :=
  if s.channel.grant = some b then s.releaseChannel else s

/-- The run of the user of the channel on a bay. -/
def State.channelRun (s : State) (b : Bay) : Option Run := (s.client? b).bind (s.clientRun? b)

/-- R98, R125: a data field cut short. A slot that was being filled returns to FREE with the bytes it held
before the field (DESIGN CHOICE: log 48), one that was being written keeps its data FULL; the medium is
left with a field or a track cut short. -/
def State.cutField (s : State) (b : Bay) : State :=
  match s.channel.search, s.channel.slot with
  | .reading, some i => s.freeSlot i
  | .writing, some i =>
    { s.modSlot i (fun x => { x with state := .full }) with
      mediumOut := (s.channel.target.map (fun t => MediumWrite.cutField b t)).or s.mediumOut }
  | .formatting, _ =>
    if s.channel.format = .laying then
      { s with
        mediumOut :=
          ((s.channelRun b).map
            (fun r => MediumWrite.partTrack b r.cylinder r.head s.channel.formatPosition)).or
            s.mediumOut }
    else s
  | _, _ => s

/-- R98, R99: the bay loses the channel at once, in the middle of a field if need be. No failure is
counted. -/
def State.loseChannel (s : State) (b : Bay) : State :=
  if s.channel.grant = some b then (s.cutField b).releaseChannel else s

/-- R89: a request of a bay that waits is withdrawn. -/
def State.withdrawWaiting (s : State) (b : Bay) : State :=
  if s.channel.waiting = some b then s.modChannel (fun c => { c with waiting := none }) else s

/-! ### The mount's read (R110, R111) -/

/-- The slots a mount holds returned to FREE. -/
def State.freeMountSlots (s : State) (b : Bay) : State :=
  s.dropSlots (fun _ x => x.owner == some (Owner.mount b))

/-- R111: what is done at every end of a mount sequence before its read has ended: "it sets Mount Status
back to NONE if it was MOUNTING", frees its slot, releases the channel and marks the sequence no longer
in progress. Mount Retries keeps its count. -/
def State.endMount (s : State) (b : Bay) : State :=
  if (s.map b).mountStage = .idle then s
  else
    let cut := if (s.map b).mountStage = .atChannel then (s.loseChannel b).withdrawWaiting b else s
    (cut.freeMountSlots b).modMap b (fun m =>
      { m with
        status := if m.status = .mounting then .none else m.status
        mountStage := .idle, mountOrder := .idle })

/-- R110: the mount's read has ended with a Mount Status and what the table takes. -/
def State.mountReadEnd (s : State) (b : Bay) (status : MountStatus) (table : List RemapEntry)
    (nextSpare : Nat) : State :=
  ((s.modMap b (fun m =>
    { m with
      status := status, table := table, nextSpare := nextSpare, mountStage := .idle
      mountOrder := .idle })).freeMountSlots b).releaseOf b

/-- R108: Mount Status becomes NONE, the Remap Table empty, Next Spare 0, and a mount sequence ends. -/
def State.clearMount (s : State) (b : Bay) : State :=
  (s.endMount b).modMap b (fun m => { m with status := .none, table := [], nextSpare := 0 })

/-! ### Failures (R93, R94) -/

/-- The three kinds of failure of R93. -/
inductive FailKind where
  | id
  | data
  | interrupted
deriving DecidableEq, Repr

/-- R93: the allowance of the user of the channel. -/
def State.allowanceOf (s : State) : Giver → Nat
  | .task id =>
    match s.entry? id with
    | some e => s.allowance e
    | none => s.settings.retryLimit
  | _ => s.settings.retryLimit

/-- Whether a user's work still goes on: the end of a task has not been decided. -/
def State.stillTrying (s : State) : Giver → Bool
  | .task id =>
    match s.entry? id with
    | some e => e.ending.isNone
    | none => false
  | _ => true

/-- R94, R102, R115: the result of a task whose retries are exhausted. -/
def exhaustedResult (k : Option TaskKind) (f : FailKind) : Result :=
  match k with
  | some .reassign | some .resetRecord | some .formatTrack => .dataError
  | _ => if f = .data then .dataError else .idNotFound

/-- R94, R102, R115, R116, R151: its Detail, the LSN concerned. -/
def exhaustedDetail (e : Entry) : Nat :=
  match e.kind with
  | some .reassign => e.block.address
  | some .resetRecord | some .formatTrack => 0
  | _ => ((e.run.bind (fun r => r.sectors.head?)).bind RunSector.lsn).getD 0

/-- R94, R110: the retries on the Target are exhausted. -/
def State.exhausted (s : State) (b : Bay) (g : Giver) (f : FailKind) : State :=
  match g with
  | .task id =>
    s.modEntry id (fun e => decided (exhaustedResult e.kind f) (exhaustedDetail e) e)
  | .mount => s.mountReadEnd b (if f = .data then .damaged else .absent) [] 0
  | .bay => s

/-- R93: an attempt on the Target of a bay fails. The sector retry count is raised, one retry is handed
to the user, and the count is compared with the allowance. A task whose end is decided already keeps its
result (R145). A marked task whose field ends as the failure that exhausts its retries ends by R94 and not by
the mark: its safe point (R153) comes at the same moment and is taken second (DESIGN CHOICE: log 73). -/
def State.failAttempt (s : State) (b : Bay) (g : Giver) (f : FailKind) : State :=
  let counted :=
    (s.modChannel (fun c => { c with retryCount := c.retryCount.update b (raiseTo 8) })).countRetry b g
  if counted.channel.retryCount.get b ≤ s.allowanceOf g then counted else counted.exhausted b g f

/-- R93, R99, R102: the bay loses the channel to a drift or to an actuator that leaves FOLLOWING; a field
or a laying cut short is a failure of the interrupted kind, counted before a press held over the field is
delivered (R98; DESIGN CHOICE: log 68). -/
def State.interruptChannel (s : State) (b : Bay) : State :=
  if s.channel.grant = some b then
    match s.client? b with
    | some g =>
      if s.fieldInProgress b then (s.loseChannel b).failAttempt b g .interrupted else s.loseChannel b
    | none => s.loseChannel b
  else s

/-! ### Targets -/

/-- R92: the search for the first sector of a run begins: "the Search state becomes SEARCHING and the
search revolutions are set to 0". -/
def State.beginSearch (s : State) (r : Run) : State :=
  s.modChannel (fun c =>
    { c with
      search := .searching, searchRevs := 0, slot := none, writeGate := false, readGate := true
      target := r.sectors.head?.map (fun x => ⟨r.cylinder, r.head, x.sector⟩) })

/-- A new Target of a bay: its sector retry count is 0 (R93). -/
def State.newTarget (s : State) (b : Bay) : State :=
  s.modChannel (fun c => { c with retryCount := c.retryCount.update b (fun _ => 0) })

/-- R91: at a grant, Bay Select and Head Select take the bay and its head, Read Gate is asserted, and the
run begins: the ID search, or for a Format Track (a run of no sectors) the arming. -/
def State.grantChannel (s : State) (b : Bay) : State :=
  let held := s.modChannel (fun c =>
    { c with
      grant := some b, baySelect := b, headLine := (s.positioner b).headSelect, readGate := true
      waiting := if c.waiting = some b then none else c.waiting })
  match s.channelRun b with
  | none => held
  | some r =>
    if r.sectors.isEmpty then
      held.modChannel (fun c =>
        { c with search := .formatting, format := .arming, formatRevs := 0, formatPosition := 0 })
    else held.beginSearch r

/-- R90: the Channel Arbiter takes a request. -/
def State.requestChannel (s : State) (b : Bay) : State :=
  if s.channel.grant = none then s.grantChannel b
  else s.modChannel (fun c => { c with waiting := some b })

/-! ### Soft errors (R117) -/

/-- R117: the Soft Error Count raised, saturating at 255, and compared with the threshold. -/
def softErrorRaised (threshold : Nat) (m : DefectMap) : DefectMap :=
  let n := raiseTo 255 m.softErrors
  { m with softErrors := n, marginal := m.marginal || decide (threshold ≠ 0 ∧ threshold < n) }

/-- R94: a sector that succeeds with a sector retry count of 1 or more is a soft error of its bay. -/
def State.countSoftError (s : State) (b : Bay) : State :=
  if 0 < s.channel.retryCount.get b then s.modMap b (softErrorRaised s.settings.softThreshold) else s

/-! ### The end of a field -/

/-- The first sector of a task's run is done: the run goes on with the sectors after it, and a run with
none left is over. -/
def runPopped (e : Entry) : Entry :=
  match e.run with
  | none => e
  | some r =>
    if r.sectors.length ≤ 1 then { e with run := none, stage := .positioning, order := .idle }
    else { e with run := some { r with sectors := r.sectors.tail } }

/-- R91: the channel takes the next Target of the task's run, or is released at the end of the run. -/
def State.nextTarget (s : State) (b : Bay) (id : Nat) : State :=
  match (s.entry? id).bind Entry.run with
  | some r => s.beginSearch r
  | none => s.releaseOf b

/-- R122, R123, R125, R127, R151: one more sector of the medium side done, counted in Sectors Done where
the kind counts it there; a task whose last sector that was completes. -/
def sectorCounted (counts : Bool) (e : Entry) : Entry :=
  let f := { e with next := e.next + 1, sectorsDone := e.sectorsDone + (if counts then 1 else 0) }
  if counts && decide (f.sectorsDone = e.block.count) then completed f else f

/-- R96, R97: the sector in hand of a task is done: the soft error if there was one, the counts, and the
next Target. -/
def State.sectorDone (s : State) (b : Bay) (id : Nat) (f : Entry → Entry) : State :=
  ((((s.countSoftError b).newTarget b).modEntry id f).modEntry id runPopped).nextTarget b id

/-- R114: the table a Reassign establishes. -/
def reassigned (lsn : Nat) (m : DefectMap) : DefectMap :=
  { m with table := remap lsn m.nextSpare m.table, nextSpare := m.nextSpare + 1 }

/-- R116: what a Reset Defect Record establishes. -/
def recordReset (m : DefectMap) : DefectMap := { m with status := .valid, table := [], nextSpare := 0 }

/-! ### The target of a search (R96, R97) -/

/-- The slot purpose of a task that reads at its target. -/
def readPurpose (e : Entry) : Option Purpose :=
  match e.kind with
  | some .read => some .read
  | some .verify => some .verify
  | some .copy => if e.half = .reading then some .copy else none
  | _ => none

/-- R121, R122: where a sector of a Read or Write lies in host memory. -/
def hostPlace (t : TaskBlock) (lsn : Nat) : Nat := t.buffer + 512 * (lsn - t.address)

/-- The slot sector of the Target of a run. -/
def slotSector (x : RunSector) : SlotSector :=
  match x.lsn with
  | some n => .lsn n
  | none => .record

/-- R96: "No slot can be taken ... This is a slip." The channel is released and the user waits for one
revolution event. -/
def State.slip (s : State) (b : Bay) : Giver → State
  | .task id => (s.modEntry id (fun e => { e with stage := .slip })).releaseChannel
  | .mount => (s.modMap b (fun m => { m with mountStage := .slip })).releaseChannel
  | .bay => s

/-- R96: a data field begins to be read into a slot. -/
def State.readInto (s : State) (b : Bay) (g : Giver) (owner : Owner) (purpose : Purpose)
    (sector : SlotSector) (host : Option Nat) : State :=
  match s.slotForTake owner with
  | none => s.slip b g
  | some i =>
    (s.takeSlot i .filling owner purpose b sector host).modChannel (fun c =>
      { c with search := .reading, slot := some i })

/-- R97, R125: a data field begins to be written from the task's slot for the sector, if that slot is
FULL and every condition of the write gate holds (DEDUCED: log 25). -/
def State.writeFrom (s : State) (b : Bay) (id : Nat) (cylinder : Nat) (sector : SlotSector) : State :=
  match s.slotFor? id sector with
  | none => s.slip b (.task id)
  | some i =>
    if s.slots[i]?.any (fun x => x.state == .full) && s.gateAllowed b cylinder then
      (s.modSlot i (fun x => { x with state := .draining })).modChannel (fun c =>
        { c with search := .writing, slot := some i, writeGate := true, readGate := false })
    else s.slip b (.task id)

/-- R92: the ID field of the Target has been matched. -/
def State.targetMatched (s : State) (b : Bay) (g : Giver) (r : Run) : State :=
  match g, r.sectors with
  | .mount, x :: _ => s.readInto b .mount (.mount b) .recordRead (slotSector x) none
  | .task id, x :: _ =>
    match s.entry? id with
    | none => s
    | some e =>
      match readPurpose e with
      | some p =>
        s.readInto b (.task id) (.task id) p (slotSector x)
          (if p = .read then x.lsn.map (hostPlace e.block) else none)
      | none => s.writeFrom b id r.cylinder (slotSector x)
  | _, _ => s

/-! ### Format Track (R100, R102) -/

/-- R100: the format ends with Index Fault. -/
def State.indexFault (s : State) (b : Bay) : State :=
  match s.client? b with
  | some (.task id) =>
    ((s.cutField b).modEntry id (decided .indexFault 0)).releaseChannel
  | _ => s

/-- R100: a revolution event in a format: two without an accepted index end it. -/
def State.formatRevolution (s : State) (b : Bay) : State :=
  let n := s.channel.formatRevs + 1
  if 2 ≤ n then s.indexFault b else s.modChannel (fun c => { c with formatRevs := n })

/-- R100, R102: the arming index: LAYING, the write gate asserted, and the Defect Record lost where the
track is 638/0. An index at which a condition of R98 fails arms nothing (DEDUCED: log 25). -/
def State.beginLaying (s : State) (b : Bay) (r : Run) : State :=
  if s.gateAllowed b r.cylinder then
    let laid := s.modChannel (fun c =>
      { c with
        format := .laying, formatRevs := 0, formatPosition := 0, writeGate := true, readGate := false })
    if r.cylinder = Config.lastCylinder ∧ r.head = 0 then
      laid.modMap b (fun m => { m with status := .absent, table := [], nextSpare := 0 })
    else laid
  else s

/-- R100: an accepted index reaches the channel of a format. -/
def State.formatIndex (s : State) (b : Bay) : State :=
  if s.channel.grant = some b ∧ s.channel.search = .formatting then
    match s.channel.format, s.channelRun b, s.client? b with
    | .arming, some r, _ => s.beginLaying b r
    | .laying, _, _ => s.indexFault b
    | .closing, _, some (.task id) => (s.modEntry id completed).releaseChannel
    | _, _, _ => s
  else s

/-! ### Revolution events (R27, R92, R96) -/

/-- R96: a task or mount that slipped on a bay requests again after one revolution event. -/
def slipOver (b : Bay) (e : Entry) : Entry :=
  if e.state = .active ∧ e.stage = .slip ∧ e.run.any (fun r => r.bay == b) then
    { e with stage := .atChannel }
  else e

/-- R92: a revolution event while SEARCHING. At the second the search has failed: an ID failure, and the
search begins again if the allowance lasts. -/
def State.searchRevolution (s : State) (b : Bay) : State :=
  let n := s.channel.searchRevs + 1
  if 2 ≤ n then
    match s.client? b with
    | some g => (s.modChannel (fun c => { c with searchRevs := 0 })).failAttempt b g .id
    | none => s
  else s.modChannel (fun c => { c with searchRevs := n })

/-- R27: a revolution event of a bay's spindle, given to the channel. -/
def State.revolution (s : State) (b : Bay) : State :=
  let slid := (s.modEntries (slipOver b)).modMap b (fun m =>
    if m.mountStage = .slip then { m with mountStage := .atChannel } else m)
  if s.channel.grant = some b then
    match s.channel.search with
    | .searching => slid.searchRevolution b
    | .formatting => slid.formatRevolution b
    | _ => slid
  else slid

end Sys2Proof.Machine
end

