-- ==== Sys2Proof/Machine/PositionerOps.lean ====
section
/-!
DEFINITION. The operations of the Positioner (spec/03): its motions, the orders it takes, the Seek Fault
with its automatic retry, the controlled stop, and the retract onto the ramp.
-/

namespace Sys2Proof.Machine

/-! ### Motions on the Positioner's own record -/

/-- The timers of every motion stopped. -/
def motionTimersStopped (p : Positioner) : Positioner :=
  { p with
    loadTimer := none, recalTimer := none, seekTimer := none, settleLimit := none, settleWait := none
    stopTimer := none, retractTimer := none, parkHold := none, rampRun := 0, sampling := false
    sampleTimer := 0, onTrackCount := 0 }

/-- R67: the demand recomputed, from which the next 500 µs run, also where it is that of the start of a
motion between two crossings (DESIGN CHOICE: log 58). -/
def demandComputed (p : Positioner) : Positioner := { p with dac := loopDac p, velTimer := 0 }

/-- R61: the start of a load. -/
def loadBegun (p : Positioner) : Positioner :=
  { motionTimersStopped p with
    state := .loading, known := false, dac := 40, followEnable := false, retract := false
    loadTimer := some 0 }

/-- R63: the start of a recalibrate, on the leg that Outer Guard gives. Kv and the profile are taken here
(DEDUCED: log 38). -/
def recalibrateBegun (t : Settings) (p : Positioner) : Positioner :=
  demandComputed
    { motionTimersStopped p with
      state := .recalibrating, known := false, followEnable := false, retract := false
      recalTimer := some 0, outwardCount := 0, recalAfterStop := false, kv := t.kv, profile := t.profile
      recalLeg := if p.outerGuard.accepted then .inward else .outward }

/-- R68: the start of a seek, from FOLLOWING. -/
def seekBegun (t : Settings) (cylinder : Nat) (p : Positioner) : Positioner :=
  demandComputed
    { motionTimersStopped p with
      state := .seeking, target := cylinder, followEnable := false, kv := t.kv, profile := t.profile
      seekTimer := some 0 }

/-- R69: entry to SETTLING. The Settle Time is read here; the settle limit runs on from the first entry
within one motion. -/
def settlingEntered (t : Settings) (p : Positioner) : Positioner :=
  { p with
    state := .settling, dac := 0, followEnable := true, settleWait := some t.settleTime
    settleLimit := p.settleLimit.or (some 0), sampling := false, sampleTimer := 0, onTrackCount := 0 }

/-- R63: the edge of a recalibrate. -/
def edgeFound (t : Settings) (p : Positioner) : Positioner :=
  settlingEntered t
    { p with counter := 0, known := true, recalTimer := none, target := 0, seekTimer := some 0 }

/-- R70: a crossing in SETTLING, or in FOLLOWING, where the profile is taken afresh and the seek timer
starts. -/
def reseekBegun (t : Settings) (p : Positioner) : Positioner :=
  demandComputed
    { p with
      state := .seeking, followEnable := false, settleWait := none, sampling := false, sampleTimer := 0
      onTrackCount := 0
      kv := if p.state = .following then t.kv else p.kv
      profile := if p.state = .following then t.profile else p.profile
      seekTimer := if p.state = .following then some 0 else p.seekTimer.or (some 0) }

/-- R75: the start of a controlled stop. -/
def stopBegun (t : Settings) (p : Positioner) : Positioner :=
  demandComputed
    { motionTimersStopped p with
      state := .stopping, followEnable := false, kv := t.kv, profile := t.profile, stopTimer := some 0 }

/-- R78: entry to RETRACTING. Where Park Detect is accepted already, the park hold starts with it
(DEDUCED: log 14). A head change that still waits for the release is dropped with the Seek order that an
emergency retract ends (R77), also where that retract releases the channel (DESIGN CHOICE: log 67). -/
def retractBegun (parked : Bool) (p : Positioner) : Positioner :=
  { motionTimersStopped p with
    state := .retracting, known := false, followEnable := false, retract := true, dac := -80
    retractTimer := some 0, parkHold := if parked then some 0 else none
    retractFromFault := p.state == .fault, recalAfterStop := false, pendingHead := none }

/-- R78: the end of the park hold, entry to PARKED. -/
def parkEnded (p : Positioner) : Positioner :=
  { motionTimersStopped p with
    state := .parked, dac := 0, retract := false, followEnable := false, known := false, headSelect := 0
    pendingHead := none, vmeas := 0, crossTimer := 0, counter := 0, recalAfterStop := false }

/-- R79: a failed retract. -/
def retractFailed (p : Positioner) : Positioner :=
  { motionTimersStopped p with
    state := .fault, dac := 0, retract := false, followEnable := false, known := false
    retractRetries := if p.retractFromFault then raiseTo 3 p.retractRetries else p.retractRetries }

/-- R79: the actuator of a bay found with its heads off the ramp at an insertion. R17 names the Bay
Controller's signal, at which R79 sets the retract retry count to 0, for RETRACT FAULT only; the class here is
HEADS OFF RAMP, and the count stands (DESIGN CHOICE: log 71). -/
def strandedActuator (p : Positioner) : Positioner :=
  { motionTimersStopped p with
    state := .fault, dac := 0, followEnable := false, retract := false, known := false
    pendingHead := none, order := none, held := none, heldBehind := none, recalAfterStop := false }

/-! ### Head Select and the end of an order (R59, R60) -/

/-- R60: Head Select takes a head, at the bay's next release if it holds the channel. -/
def State.selectHead (s : State) (b : Bay) (head : Nat) : State :=
  s.modPositioner b (fun p =>
    if s.channel.grant = some b ∧ p.headSelect ≠ head then { p with pendingHead := some head }
    else { p with headSelect := head, pendingHead := none })

/-- The order in progress ends with an outcome, handed back to its giver. -/
def State.endOrder (s : State) (b : Bay) (outcome : OrderState) : State :=
  (s.handBack? b (s.positioner b).order outcome).modPositioner b (fun p => { p with order := none })

/-- The orders held for a bay handed back with an outcome. -/
def State.dropHeld (s : State) (b : Bay) (outcome : OrderState) : State :=
  ((s.handBack? b (s.positioner b).held outcome).handBack? b (s.positioner b).heldBehind outcome)
    |>.modPositioner b (fun p => { p with held := none, heldBehind := none })

/-- R60: a Seek order that stands on its cylinder ends as soon as Head Select holds its head. -/
def State.endSeekIfThere (s : State) (b : Bay) : State :=
  let p := s.positioner b
  match p.order with
  | some ⟨.seek c h, _⟩ =>
    if p.state = .following ∧ p.known ∧ p.counter = (c : Int) ∧ p.headSelect = h ∧ p.pendingHead = none
    then s.endOrder b .ended
    else s
  | _ => s

/-! ### Retract (R77 to R79) -/

/-- R78: entry to RETRACTING, the order in progress being what it is. -/
def State.beginRetract (s : State) (b : Bay) : State :=
  s.modPositioner b (retractBegun (s.bay b).parkDetect.accepted)

/-- R77: an Emergency Retract. "The order in progress and any held order are handed back as not carried
out." -/
def State.emergencyRetract (s : State) (b : Bay) : State :=
  if (s.positioner b).state.loaded then
    ((((s.loseChannel b).endOrder b .returned).dropHeld b .returned).beginRetract b)
  else s

/-- R44: a deferred Brake asserted. -/
def deferredBrake (q : Spindle) : Spindle :=
  if q.brakeDeferred then { q with brake := true, brakeDeferred := false } else q

/-! ### Seek Fault (R72 to R75) -/

/-- R75: the end of the velocity leg: a recalibrate where one is called for or the count is lost, else
the settle on the track the heads came to rest on. -/
def velocityLegEnded (t : Settings) (p : Positioner) : Positioner :=
  if p.recalAfterStop || !p.known then recalibrateBegun t { p with dac := 0 }
  else settlingEntered t { p with dac := 0, target := p.counter.toNat }

/-- R75: a controlled stop. "Heads already at rest when the stop begins, with Vmeas at 0, end it at
once." -/
def State.controlledStop (s : State) (b : Bay) : State :=
  let begun := s.modPositioner b (stopBegun s.settings)
  if (s.positioner b).vmeas = 0 then begun.modPositioner b (velocityLegEnded s.settings) else begun

/-- R72: what every Seek Fault does: the Fault Class, and the timers of the failed motion stopped. -/
def State.recordSeekFault (s : State) (b : Bay) : State :=
  (s.recordFault b .seekFault).modPositioner b (fun p =>
    { p with
      seekTimer := none, settleLimit := none, settleWait := none, recalTimer := none, sampling := false
      onTrackCount := 0 })

/-- R73: the automatic retry of a motion made for an order in progress, or its final failure. -/
def State.retryMotion (s : State) (b : Bay) (o : Order) : State :=
  if (s.positioner b).reseekUsed then
    ((s.endOrder b .failed).modPositioner b (fun p => { p with recalAfterStop := false })).controlledStop
      b
  else
    ((s.modPositioner b (fun p => { p with reseekUsed := true, recalAfterStop := true })).countReseek b
      o.giver).controlledStop b

/-- R72: a Seek Fault. `stops` says that a motion made for no order takes a controlled stop, as R75 says
of a Crossing Error in FOLLOWING, instead of the park of R74 (DEDUCED: log 13). -/
def State.seekFault (s : State) (b : Bay) (stops : Bool) : State :=
  let left := (if (s.positioner b).state = .following then s.interruptChannel b else s).recordSeekFault b
  match (s.positioner b).order with
  | some o => left.retryMotion b o
  | none => if stops then left.controlledStop b else left.beginRetract b

/-- R71: an Overrun: Cylinder Known false and a Seek Fault. -/
def State.overrun (s : State) (b : Bay) : State :=
  (s.modPositioner b (fun p => { p with known := false })).seekFault b false

/-! ### Entry to FOLLOWING and orders carried out (R59, R68, R69) -/

/-- An order taken in FOLLOWING becomes the order in progress and its motion begins. A Seek with the
count lost recalibrates first. -/
def State.carryOut (s : State) (b : Bay) (o : Order) : State :=
  let taken := s.modPositioner b (fun p => { p with order := some o })
  match o.kind with
  | .loadRecalibrate | .recalibrate => taken.modPositioner b (recalibrateBegun s.settings)
  | .seek c h =>
    let headed := taken.selectHead b h
    if (s.positioner b).known then
      if (s.positioner b).counter = (c : Int) then headed.endSeekIfThere b
      else headed.modPositioner b (seekBegun s.settings c)
    else headed.modPositioner b (recalibrateBegun s.settings)
  | .park => taken.beginRetract b

/-- R61: an order taken in PARKED with the spindle LOCKED becomes the order in progress and loads. The
load ends at the next acceptance of Outer Guard true, also where it is accepted true already (DEDUCED:
log 39). -/
def State.loadFor (s : State) (b : Bay) (o : Order) : State :=
  let taken := s.modPositioner b (fun p => loadBegun { p with order := some o })
  match o.kind with
  | .seek _ h => taken.selectHead b h
  | _ => taken

/-- R69: entry to FOLLOWING. The settle timers and the seek timer stop, and the order bound for this
Target ends; a Seek whose recalibrate has just ended elsewhere seeks on (R68), also where a Park is held,
which is then taken at the end of that seek (DESIGN CHOICE: log 41). -/
def State.enterFollowing (s : State) (b : Bay) : State :=
  let there := s.modPositioner b (fun p => { motionTimersStopped p with state := .following })
  match (s.positioner b).order with
  | some ⟨.seek c _, _⟩ =>
    if (s.positioner b).counter = (c : Int) then there.endSeekIfThere b
    else there.modPositioner b (seekBegun s.settings c)
  | some ⟨.park, _⟩ => there
  | some _ => there.endOrder b .ended
  | none => there

/-! ### Orders at their arrival (R59, R76, R81, R82) -/

/-- Of the givers of two Park orders joined in one, the one to report to: a task waits for its own. -/
def joinedGiver (x y : Giver) : Giver :=
  match y with
  | .task id => .task id
  | _ => x

/-- R59: an order held. A newer order replaces an older one, which is handed back as not carried out,
but an order that finds a Park held waits behind it. -/
def State.holdOrder (s : State) (b : Bay) (o : Order) : State :=
  match (s.positioner b).held with
  | some ⟨.park, _⟩ =>
    (s.handBack? b (s.positioner b).heldBehind .returned).modPositioner b (fun p =>
      { p with heldBehind := some o })
  | older => (s.handBack? b older .returned).modPositioner b (fun p => { p with held := some o })

/-- R59, R82: a Load and Recalibrate, Recalibrate or Seek order at its arrival. -/
def State.giveOrder (s : State) (b : Bay) (o : Order) : State :=
  if s.supply.accepted then s.handBack b o .refused
  else
    match (s.positioner b).state with
    | .fault => s.handBack b o .refused
    | .following =>
      if (s.positioner b).held = none ∧ (s.positioner b).order = none then s.carryOut b o
      else s.holdOrder b o
    | .parked =>
      if (s.spindle b).phase = .locked ∧ (s.positioner b).held = none then s.loadFor b o
      else s.holdOrder b o
    | _ => s.holdOrder b o

/-- R76: a Park order that replaces or joins what is held. -/
def State.holdPark (s : State) (b : Bay) (g : Giver) : State :=
  match (s.positioner b).held with
  | some ⟨.park, g0⟩ =>
    s.modPositioner b (fun p => { p with held := some ⟨.park, joinedGiver g0 g⟩ })
  | older => (s.handBack? b older .returned).modPositioner b (fun p => { p with held := some ⟨.park, g⟩ })

/-- R76: a Park order that joins a retract, or that finds the actuator PARKED, replaces a held order of
another kind, "handed back as not carried out". -/
def State.replaceHeld (s : State) (b : Bay) : State :=
  match (s.positioner b).held with
  | some ⟨.park, _⟩ => s
  | older => (s.handBack? b older .returned).modPositioner b (fun p => { p with held := none })

/-- R76, R82: a Park order at its arrival. In PARKED it ends at once, and an order held there for its load
is replaced as in the other states (DEDUCED: log 40). A mount sequence in progress ends where the Park is
taken (R111), which is at its arrival in PARKED, RETRACTING and FAULT (DEDUCED: log 70). -/
def State.givePark (s : State) (b : Bay) (g : Giver) : State :=
  match (s.positioner b).state with
  | .parked => ((s.replaceHeld b).endMount b).handBack b ⟨.park, g⟩ .ended
  | st =>
    if s.supply.accepted then s.handBack b ⟨.park, g⟩ .returned
    else
      match st with
      | .retracting =>
        ((s.replaceHeld b).endMount b).modPositioner b (fun p =>
          { p with
            order := some ⟨.park, match p.order with
              | some ⟨.park, g0⟩ => joinedGiver g0 g
              | _ => g⟩ })
      | .fault =>
        ((s.endMount b).modPositioner b (fun p => { p with order := some ⟨.park, g⟩ })).beginRetract b
      | _ => s.holdPark b g

/-- R76: a held Park is taken in FOLLOWING once the channel is not granted to the bay. An order still
in progress is handed back, and a mount sequence in progress ends (R111). An order that waits behind the
Park becomes the held order, and stays so where its giver's work has ended (DESIGN CHOICE: log 44). -/
def State.takePark (s : State) (b : Bay) : State :=
  (((s.endOrder b .returned).endMount b).modPositioner b (fun p =>
    { p with order := p.held, held := p.heldBehind, heldBehind := none })).beginRetract b

/-- R81: a giver's orders withdrawn from what is held, without a word to the giver, who asked for it. The
held Park of a Spin Down is not withdrawn: it stands, and is taken in FOLLOWING (DESIGN CHOICE: log 65). -/
def withdrawHeld (g : Giver) (p : Positioner) : Positioner :=
  let behind := if p.heldBehind.any (fun o => o.giver == g) then none else p.heldBehind
  if p.held.any (fun o => o.giver == g && o.kind != .park) then { p with held := behind, heldBehind := none }
  else { p with heldBehind := behind }

/-- R81: the effect of a Stop order by the Actuator State. -/
def State.stopMotion (s : State) (b : Bay) : State :=
  match (s.positioner b).state with
  | .seeking => s.controlledStop b
  | .stopping => s.modPositioner b (fun p => { p with recalAfterStop := false })
  | .following => s.modPositioner b (fun p => { p with pendingHead := none })
  | _ => s

/-- R81: "The order in progress is withdrawn", whoever gave it, with the orders the stopped task has held.
A Park in progress is RETRACTING, on which a Stop order has no effect. -/
def ordersWithdrawn (g : Giver) (p : Positioner) : Positioner :=
  withdrawHeld g (if p.order.any (fun o => o.kind != .park) then { p with order := none } else p)

/-- R81: a Stop order for a task. "The order in progress is withdrawn, and the motion then runs on for no
order", also where an order left by a task or a mount that has ended is in progress. Supply Low refuses it
(R82). -/
def State.stopOrder (s : State) (b : Bay) (g : Giver) : State :=
  if s.supply.accepted then s else (s.modPositioner b (ordersWithdrawn g)).stopMotion b

/-- A final failure of an order that its own motion brings: R62's Load Fault. -/
def State.loadFaulted (s : State) (b : Bay) : State :=
  ((s.recordFault b .loadFault).endOrder b .failed).beginRetract b

/-- R78, R59: entry to PARKED handed to the Spindle Controller and to the orders: a Park in progress ends,
and so does a held one (R76), which is taken there and ends a mount sequence in progress (R111). -/
def State.enterParked (s : State) (b : Bay) : State :=
  let parked := ((s.modPositioner b parkEnded).modSpindle b deferredBrake).endOrder b .ended
  match (s.positioner b).held with
  | some ⟨.park, g⟩ =>
    ((parked.endMount b).handBack b ⟨.park, g⟩ .ended).modPositioner b (fun p =>
      { p with held := p.heldBehind, heldBehind := none })
  | _ => parked

/-- R79: entry to FAULT handed to the Spindle Controller and to the orders. -/
def State.failRetract (s : State) (b : Bay) : State :=
  (((s.modPositioner b retractFailed).modSpindle b deferredBrake).endOrder b .failed).dropHeld b .refused

end Sys2Proof.Machine
end

