-- ==== Sys2Proof/Machine/SpindleOps.lean ====
section
/-!
DEFINITION. The operations of the Spindle Controller and of the Spin-Up Permit (spec/02): marks and the
speed law on a controller's own record, requests, the permit, braking and the stop.
-/

namespace Sys2Proof.Machine

/-! ### Marks on the controller's own record (R26 to R28, R32, R34 to R39) -/

/-- Whether a mark in this phase is processed at all (R26). -/
def Phase.takesMarks : Phase → Bool
  | .stopped | .pending => false
  | _ => true

/-- Whether the law runs at marks in this phase (spec/02 section 2.1). -/
def Phase.runsLaw : Phase → Bool
  | .accelerating | .locked | .drifting => true
  | _ => false

/-- R26, R28: the period of a mark recorded and Measured Speed recomputed. The first mark after the
history has been cleared starts the mark timer and records nothing. -/
def markRecorded (elapsed : Nat) (q : Spindle) : Spindle :=
  match q.markTimer with
  | none => { q with markTimer := some 0 }
  | some t =>
    let history := pushPeriod q.history (markPeriod (t + elapsed))
    { q with markTimer := some 0, history := history, speed := measuredSpeed history }

/-- R27: the revolution count advanced by a mark. -/
def markCounted (q : Spindle) : Spindle := { q with revCount := (q.revCount + 1) % 8 }

/-- R27: whether a mark gives a revolution event. -/
def markTurns (q : Spindle) : Bool := q.revCount == 7

/-- R32, R43: a mark restarts the start timer or the stop timer; the mark that fills the history ends
STARTING. -/
def markTimed (q : Spindle) : Spindle :=
  match q.phase with
  | .starting =>
    if q.history.length < 8 then { q with startTimer := some 0 }
    else { q with phase := .accelerating, startTimer := none, integrator := 0, inBand := 0 }
  | .stopping => { q with stopTimer := some 0 }
  | _ => q

/-- R34: the speed error E of a controller. -/
def errorOf (q : Spindle) : Int := speedError q.activeTarget q.speed

/-- R37: the in-band count after a mark in ACCELERATING or DRIFTING. -/
def stabilityCounted (t : Settings) (q : Spindle) : Spindle :=
  { q with inBand := if (errorOf q).natAbs ≤ t.hysteresis then raiseTo 255 q.inBand else 0 }

/-- R37: whether the in-band count meets the requirement, which is read as 255 for code 3. -/
def stabilityMet (t : Settings) (q : Spindle) : Bool :=
  decide (min 255 (stabilityMarks t.stability) ≤ q.inBand)

/-- R38: whether a mark in LOCKED leaves the wider band. -/
def bandLeft (t : Settings) (q : Spindle) : Bool := decide (2 * t.hysteresis < (errorOf q).natAbs)

/-- R38, R48: entry to LOCKED on the controller's own record. -/
def lockedEntered (q : Spindle) : Spindle :=
  { q with
    phase := .locked, inBand := 0, spinUpTimer := none, driftTimer := none, indexArmed := true
    indexSince := none, missCount := 0 }

/-- R38, R48: entry to DRIFTING on the controller's own record. -/
def driftingEntered (q : Spindle) : Spindle :=
  { q with
    phase := .drifting, inBand := 0, driftTimer := some 0, indexArmed := false, indexSince := none
    missCount := 0 }

/-- R39: whether a mark in DRIFTING is a Speed Lost. -/
def speedLost (q : Spindle) : Bool := decide (q.speed < flySpeed q.activeTarget)

/-- R35: one run of the speed law. -/
def lawRun (t : Settings) (q : Spindle) : Spindle :=
  if q.phase.runsLaw then
    let ec := clampedError (errorOf q)
    { q with dutyStaging := lawDuty t q.integrator ec, integrator := lawIntegrator t q.integrator ec }
  else q

/-! ### Phases (R31, R42, R43) -/

/-- R31: entry to STARTING at the grant of the permit. -/
def startingEntered (t : Settings) (q : Spindle) : Spindle :=
  { q with
    phase := .starting, activeTarget := t.targetSpeed, history := [], speed := 0, revCount := 0
    inBand := 0, markTimer := none, dutyStaging := t.startDuty, brake := false, brakePending := false
    startTimer := some 0, spinUpTimer := some 0 }

/-- R42: entry to STOPPING; the Brake comes at the next PWM boundary. -/
def stoppingEntered (q : Spindle) : Spindle :=
  { q with
    phase := .stopping, dutyStaging := 0, startTimer := none, spinUpTimer := none, driftTimer := none
    indexArmed := false, indexSince := none, missCount := 0, stopTimer := some 0, brakePending := true }

/-- R43, R47: entry to STOPPED. -/
def stoppedEntered (q : Spindle) : Spindle :=
  { q with
    phase := .stopped, history := [], markTimer := none, speed := 0, integrator := 0, inBand := 0
    revCount := 0, dutyStaging := 0, brake := false, brakePending := false, brakeDeferred := false
    stopTimer := none, restartHeld := false }

/-! ### The Spin-Up Permit (R45 to R47) -/

/-- R45, R31: the permit granted to a bay whose spindle is PENDING, which enters STARTING. -/
def State.grantPermit (s : State) (b : Bay) : State :=
  { s with permitHolder := some b }.modSpindle b (startingEntered s.settings)

/-- R45: a spindle enters PENDING and requests the permit. -/
def State.requestPermit (s : State) (b : Bay) : State :=
  let asking := s.modSpindle b (fun q => { q with phase := .pending })
  if s.permitHolder = none then asking.grantPermit b else { asking with permitWaiting := some b }

/-- R46: the holder releases the permit, which is granted to the waiting bay if there is one. -/
def State.releasePermit (s : State) (b : Bay) : State :=
  if s.permitHolder = some b then
    match s.permitWaiting with
    | some w => { s with permitHolder := none, permitWaiting := none }.grantPermit w
    | none => { s with permitHolder := none }
  else s

/-- R47: a spindle that leaves PENDING for STOPPED gives up its place. -/
def State.leavePending (s : State) (b : Bay) : State :=
  (if s.permitWaiting = some b then { s with permitWaiting := none } else s).modSpindle b stoppedEntered

/-! ### Requests (R29, R30) and the stop -/

/-- R61: "If the spindle enters STOPPING or STOPPED first, the held order is handed back as not carried
out": an order held in PARKED for a load. -/
def State.dropLoad (s : State) (b : Bay) : State :=
  if (s.positioner b).state = .parked then s.dropHeld b .returned else s

/-- R42: entry to STOPPING. The permit is released, the bay loses the channel and loaded heads retract. -/
def State.enterStopping (s : State) (b : Bay) : State :=
  ((((s.modSpindle b stoppingEntered).releasePermit b).loseChannel b).emergencyRetract b).dropLoad b

/-- R29: a spin-up request. "While Supply Low is accepted, spin-up requests are not acted on." -/
def State.spinUpRequest (s : State) (b : Bay) : State :=
  if s.supply.accepted then s
  else
    match (s.spindle b).phase with
    | .stopped => s.requestPermit b
    | .stopping => s.modSpindle b (fun q => { q with restartHeld := true })
    | _ => s

/-- R30: a stop request. -/
def State.stopRequest (s : State) (b : Bay) : State :=
  match (s.spindle b).phase with
  | .stopped => s
  | .pending => (s.leavePending b).dropLoad b
  | .stopping => s.modSpindle b (fun q => { q with restartHeld := false })
  | _ => s.enterStopping b

/-- R43: entry to STOPPED when the stop timer expires; Restart Held passes on at once to PENDING. -/
def State.enterStopped (s : State) (b : Bay) : State :=
  let stopped := (s.modSpindle b stoppedEntered).dropLoad b
  if (s.spindle b).restartHeld then stopped.requestPermit b else stopped

/-! ### PWM (R36, R42) -/

/-- R36, R42: the start of a PWM period: Duty Active takes Duty Staging, and a Brake that waits for the
boundary is asserted. -/
def periodBegun (q : Spindle) : Spindle :=
  { q with dutyActive := q.dutyStaging, brake := q.brake || q.brakePending, brakePending := false }

end Sys2Proof.Machine
end

