-- ==== Sys2Proof/Machine/BayOps.lean ====
section
/-!
DEFINITION. The operations of the Bay Controller (spec/01), of the mount sequence (spec/05 section 5.4),
and the events that end the tasks of a bay: insertion, locking, release, eject, removal, FAULT, Spin Fault.
-/

namespace Sys2Proof.Machine

/-! ### Tasks ended by an event on a bay (R145) -/

/-- The ends of the ACTIVE tasks that name a bay and satisfy a condition decided, with Detail 0. -/
def State.endTasksOn (s : State) (b : Bay) (p : Entry → Bool) (result : Result) : State :=
  s.modEntries (fun e => if e.names b && p e then decided result 0 e else e)

/-- R41, R145: whether a Spin Fault ends a task: one that waits for the spindle or uses it, which is not
so of a Spin Down (R146), of a Lock or Eject (R11), or of a Read that only drains its slots (DEDUCED:
log 29). -/
def usesSpindle (e : Entry) : Bool :=
  match e.kind with
  | some .spinUp => true
  | some .read => e.stage != .draining
  | some k => k.medium
  | none => false

/-- R81: a task that waits for a Positioner order to end is stopped: a Stop order, whose outcome the task
then awaits. -/
def State.stopTask (s : State) (e : Entry) : State :=
  if e.order = .outstanding then
    (s.stopOrder e.orderBay (.task e.id)).modEntry e.id (fun f =>
      { f with order := .idle, awaitStop := some f.orderBay })
  else s

/-- R10: every started task on the bay that does not release it ends Ejected, a Stop order given where it
waits for the Positioner. -/
def State.ejectTasks (s : State) (b : Bay) : State :=
  ((s.entries.filter (fun e =>
      e.state == .active && e.ending.isNone && e.names b && !e.releases)).foldl State.stopTask s).endTasksOn
    b (fun e => !e.releases) .ejected

/-! ### The mount sequence (R8, R109, R111, R112) -/

/-- The conditions under which a mount sequence begins (R8, R112). None begins while Reset in Progress
shows (DEDUCED: log 53). -/
def State.mountable (s : State) (b : Bay) : Bool :=
  s.ready b && (s.map b).status == .none && (s.map b).mountStage == .idle && !s.resetInProgress &&
    !s.supply.accepted

/-- An order that an ended mount sequence has left at the Positioner: no sequence waits for its outcome any
more (DESIGN CHOICE: log 44). -/
def orderLeft (o : Order) : Order := if o.giver = .mount then { o with giver := .bay } else o

/-- R109: Reseek Used cleared for a new mount sequence (R59). The orders an earlier sequence has left are
none of the new one's, so that neither their end nor their replacement reaches it (DESIGN CHOICE: log 44). -/
def mountAwaited (p : Positioner) : Positioner :=
  { p with
    reseekUsed := false, order := p.order.map orderLeft, held := p.held.map orderLeft
    heldBehind := p.heldBehind.map orderLeft }

/-- R109, R112: a mount sequence begins, with the Load and Recalibrate order of the Bay Controller, "taken
from the actuator's present state by R59". -/
def State.beginMount (s : State) (b : Bay) : State :=
  ((s.modMap b (fun m =>
      { m with mountStage := .loading, mountRetries := 0, mountOrder := .outstanding })).modPositioner b
    mountAwaited).giveOrder b ⟨.loadRecalibrate, .mount⟩

/-- R8: a mount sequence begins where it may. -/
def State.mountIfDue (s : State) (b : Bay) : State := if s.mountable b then s.beginMount b else s

/-- R111: a mount sequence fails, and the tasks that wait for it finish with a result. -/
def State.failMount (s : State) (b : Bay) (result : Result) : State :=
  (s.endMount b).endTasksOn b (fun e => e.stage == .bayWait && e.waits.get b == .mount) result

/-! ### Insertion and locking (R4, R5, R7) -/

/-- R4: Media Generation raised: "a raise from 255 gives 1". -/
def generationRaised (g : Nat) : Nat := if g < 255 then g + 1 else 1

/-- R7: entry to LOCKED energizes the Lock solenoid. -/
def State.lockBay (s : State) (b : Bay) : State :=
  s.modBay b (fun c => { c with state := .locked, lock := true })

/-- R7: the bay locked and its spindle asked to spin up. -/
def State.lockAndSpin (s : State) (b : Bay) : State := (s.lockBay b).spinUpRequest b

/-- R5: the insertion procedure. -/
def State.insert (s : State) (b : Bay) : State :=
  let counted := s.modBay b (fun c =>
    { c with
      generation := generationRaised c.generation, ejectRequested := false, ejectFailed := false
      prevent := false, faultClass := .none, idle := none, idleStop := false })
  let cleared := (counted.clearMount b).modMap b (fun m => { m with softErrors := 0, marginal := false })
  if (s.bay b).parkDetect.accepted then
    let seated := cleared.modBay b (fun c => { c with state := .seated })
    let parked :=
      if (s.positioner b).state = .fault then
        (seated.modPositioner b parkEnded).modSpindle b deferredBrake
      else seated
    if s.settings.autoLock then parked.lockAndSpin b else parked
  else
    ((cleared.modBay b (fun c =>
        { c with state := .fault, lock := true, faultClass := .headsOffRamp })).loseChannel b).modPositioner
      b strandedActuator

/-! ### Release and eject (R10 to R13) -/

/-- R10: entry to RELEASING. -/
def State.enterReleasing (s : State) (b : Bay) (d : Destination) : State :=
  ((s.modBay b (fun c =>
      { c with
        state := .releasing d, prevent := false, idle := none, idleStop := false
        ejectRequested := if d = .ejecting then false else c.ejectRequested })).clearMount b).ejectTasks b

/-- R13: entry to EJECTING. -/
def ejectingEntered (c : BayControl) : BayControl :=
  { c with
    state := .ejecting, ejectRequested := false, ejectFailed := false, prevent := false, eject := false
    startBound := some 0, pulse := none, leave := none }

/-- R13: the eject timers stopped and the solenoid off. -/
def ejectStopped (c : BayControl) : BayControl :=
  { c with eject := false, startBound := none, pulse := none, leave := none }

/-- R11, R148: the end of a Lock (Release) at the release of the lock, and the next stage of an Eject. -/
def releaseReached (b : Bay) (e : Entry) : Entry :=
  if e.state = .active ∧ e.stage = .releasing ∧ e.names b then
    if e.kind = some .eject then { e with stage := .ejecting } else completed e
  else e

/-- R11: the lock is released and the bay enters its destination. In a Part Reset run-down nothing is
ejected (R23; DEDUCED: log 19). -/
def State.releaseLock (s : State) (b : Bay) (d : Destination) : State :=
  if s.resetInProgress then
    (s.modBay b (fun c => { c with lock := false, state := .seated })).modEntries (fun e =>
      if e.stage = .releasing ∧ e.names b then completed e else e)
  else
    (match d with
      | .seated => s.modBay b (fun c => { c with lock := false, state := .seated, prevent := false })
      | .ejecting => s.modBay b (fun c => ejectingEntered { c with lock := false })).modEntries
      (releaseReached b)

/-- R13: the pulse begins. -/
def pulseBegun (c : BayControl) : BayControl :=
  { c with eject := true, pulse := some 0, leave := some 0, startBound := none }

/-- R13: an eject ends with the bay SEATED and Eject Failed. -/
def State.failEject (s : State) (b : Bay) : State :=
  (s.modBay b (fun c => { ejectStopped c with state := .seated, ejectFailed := true })).endTasksOn b
    (fun e => e.stage == .ejecting) .ejectFailed

/-! ### Presses (R2, R9, R12, R19) -/

/-- R2: a press taken by the rule of the Bay State in force. -/
def State.press (s : State) (b : Bay) : State :=
  if s.resetInProgress || (s.bay b).presentUndecided || s.supply.accepted then s
  else
    match (s.bay b).state with
    | .empty => s
    | .seated => s.modBay b ejectingEntered
    | .locked =>
      if (s.bay b).prevent then s.modBay b (fun c => { c with ejectRequested := true })
      else s.enterReleasing b .ejecting
    | .releasing .seated => s.modBay b (fun c => { c with state := .releasing .ejecting })
    | .releasing .ejecting => s
    | .ejecting => s
    | .fault => s.modBay b (fun c => { c with ejectRequested := true })

/-! ### Removal (R14, R15, R23) -/

/-- R14: an ordinary removal. An Eject that caused the eject completes. In a Part Reset run-down (R23)
the bay may have been locked, so that a write gate drops, and a release ends there. Mount Status, the
Remap Table and a mount in progress stand until the run-down ends (DEDUCED: log 43), and the Lock stays
energized in EMPTY until the spindle is STOPPED (DESIGN CHOICE: log 63). -/
def State.ordinaryRemoval (s : State) (b : Bay) : State :=
  ((s.loseChannel b).modBay b (fun c =>
      { ejectStopped c with state := .empty, prevent := false, idle := none, idleStop := false })).modEntries
    (fun e => if e.names b && (e.stage == .ejecting || e.stage == .releasing) then completed e else e)

/-- R127: whether the user of the channel on the other bay is a task that names this bay too: a Copy. -/
def State.copyBeside (s : State) (b : Bay) : Bool :=
  match s.client? b.other with
  | some (.task id) => (s.entry? id).any (fun e => e.names b)
  | _ => false

/-- R127, R129: a removal or a Spin Fault of one bay of a Copy cuts its field on the other bay. A failed
retract does not (DEDUCED: log 52). -/
def State.cutCopy (s : State) (b : Bay) : State :=
  if s.copyBeside b then s.loseChannel b.other else s

/-- R15: an unexpected removal. -/
def State.unexpectedRemoval (s : State) (b : Bay) : State :=
  ((((((((s.cutCopy b).loseChannel b).withdrawWaiting b).emergencyRetract b).stopRequest b).endTasksOn b
      (fun _ => true) .mediaRemoved).clearMount b)).modBay b (fun c =>
    { ejectStopped c with
      lock := false, prevent := false, idle := none, retry := none, idleStop := false
      faultClass := .unexpectedRemoval, state := .empty })

/-! ### FAULT (R16 to R18) -/

/-- R16: a bay enters FAULT with RETRACT FAULT. -/
def State.enterBayFault (s : State) (b : Bay) : State :=
  (((s.modBay b (fun c =>
      { c with
        state := .fault, faultClass := .retractFault, idle := none, idleStop := false, retry := some 0
        ejectRequested := c.ejectRequested || c.state == .releasing .ejecting })).modPositioner b
    (fun p => { p with retractRetries := 0 })).clearMount b).endTasksOn b (fun _ => true) .retractFault

/-- R18: the retract of a HEADS OFF RAMP recovery has failed (DEDUCED: log 15). -/
def State.failRecovery (s : State) (b : Bay) : State :=
  (((s.modBay b (fun c =>
      { c with
        faultClass := .retractFault
        retry := if (s.spindle b).phase.regulates then some 0 else none })).modPositioner b (fun p =>
    { p with retractRetries := 0 })).endTasksOn b (fun e => e.kind == some .spinUp) .retractFault)

/-- R16 to R18, R23, R24, R79: the Bay Controller takes its actuator's entry to FAULT. -/
def State.takeActuatorFault (s : State) (b : Bay) : State :=
  if s.resetInProgress then s
  else
    match (s.bay b).state with
    | .locked | .releasing _ => s.enterBayFault b
    | .fault =>
      if (s.bay b).faultClass = .headsOffRamp then s.failRecovery b
      else if (s.bay b).faultClass = .retractFault ∧ (s.spindle b).phase.regulates ∧
          (s.positioner b).retractRetries < 3 then
        s.modBay b (fun c => { c with retry := some 0 })
      else s
    | _ => s

/-- R17, R18: a retract that ends PARKED takes a bay from FAULT to LOCKED, and the mount follows. -/
def State.returnToLocked (s : State) (b : Bay) : State :=
  (s.modBay b (fun c => { c with state := .locked, retry := none })).mountIfDue b

/-! ### Entry to LOCKED, DRIFTING and a Spin Fault of the spindle (R37, R38, R41) -/

/-- R37, R38: the spindle enters LOCKED and hands the entry to its bay: the mount sequence, or the
retract of R18. -/
def State.enterSpindleLocked (s : State) (b : Bay) : State :=
  let entered := ((s.modSpindle b lockedEntered).releasePermit b).mountIfDue b
  if (s.bay b).state = .fault ∧ (s.bay b).faultClass = .headsOffRamp then entered.givePark b .bay
  else entered

/-- R38, R99: the spindle enters DRIFTING and its bay loses the channel. -/
def State.enterDrifting (s : State) (b : Bay) : State :=
  (s.modSpindle b driftingEntered).interruptChannel b

/-- The result of a Spin Fault (R41). -/
def spinResult : FaultClass → Result
  | .speedLost => .speedLost
  | _ => .spinFault

/-- R41, R146: "A Spin Down is the exception: it completes at STOPPED with Complete". A Spin Down whose
spindle has a Spin Fault waits for its stop alone from then on, and no more for its park to end. -/
def stopAwaited (b : Bay) (e : Entry) : Entry :=
  if e.kind = some .spinDown ∧ e.names b = true ∧ e.state = .active ∧ e.ending = none ∧ e.stage = .parking then
    { e with stage := .stopping, order := .idle }
  else e

/-- R41: a Spin Fault. A bay in FAULT then has its stranded heads retracted once more (R17, R18). -/
def State.spinFault (s : State) (b : Bay) (f : FaultClass) : State :=
  let stopped :=
    (((((s.recordFault b f).cutCopy b).endMount b).enterStopping b).endTasksOn b usesSpindle
      (spinResult f)).modEntries (stopAwaited b)
  if (s.bay b).state = .fault ∧ (s.positioner b).state = .fault then stopped.givePark b .bay else stopped

end Sys2Proof.Machine
end

