-- ==== Sys2Proof/Machine/DispatchOps.lean ====
section
/-!
DEFINITION. The Task Queue and Dispatcher (spec/07): the turn rule, the dispatch checks, the start of a
task, and how a started task goes on when what it waits for is there.
-/

namespace Sys2Proof.Machine

/-! ### Turns (R137 to R139) -/

/-- The entries older than an entry. -/
def State.olderThan (s : State) (id : Nat) : List Entry := s.entries.takeWhile (fun e => e.id != id)

/-- R138: no older unfinished task names one of the entry's bays. -/
def State.bayTurn (s : State) (e : Entry) : Bool :=
  (s.olderThan e.id).all (fun o => !o.unfinished || (namedBays e.block).all (fun b => !o.names b))

/-- R139: each of the entry's bays has restarted sensing and has its accepted Present decided. An entry
that a Part Reset has marked does not wait for it (DEDUCED: log 30). -/
def State.presentTurn (s : State) (e : Entry) : Bool :=
  (s.resetInProgress && e.aborted) ||
    (namedBays e.block).all (fun b => (s.bay b).sensing && !(s.bay b).presentUndecided)

/-- R138: part-wide order does not hold the entry back. -/
def State.partWideTurn (s : State) (e : Entry) : Bool :=
  (s.olderThan e.id).all (fun o => !o.unfinished || (!e.partWide && !o.partWide))

/-- R138: the turn of an entry has come. -/
def State.turnCome (s : State) (e : Entry) : Bool :=
  s.bayTurn e && s.presentTurn e && s.partWideTurn e

/-! ### Dispatch checks (R140 to R142) -/

/-- Check 2: whether the Bay fields are in order. -/
def baysInOrder (k : TaskKind) (t : TaskBlock) : Bool :=
  k.partWide || (decide (t.bay ≤ 1) && (k != .copy || decide (t.secondBay ≤ 1)))

/-- Check 3: the ranges of R140. -/
def inRange (k : TaskKind) (t : TaskBlock) : Bool :=
  match k with
  | .read | .write | .verify =>
    decide (1 ≤ t.count ∧ t.count ≤ 128 ∧ t.address + t.count ≤ Config.userSectors)
  | .copy =>
    decide (1 ≤ t.count ∧ t.count ≤ 128 ∧ t.address + t.count ≤ Config.userSectors ∧
      t.parameter + t.count ≤ Config.userSectors)
  | .seek => decide (t.cylinder ≤ Config.lastCylinder ∧ t.head ≤ 1)
  | .formatTrack =>
    decide (t.cylinder ≤ Config.lastCylinder ∧ t.head ≤ 1 ∧ 1 ≤ t.interleave ∧ t.interleave ≤ 31)
  | .reassign => decide (t.address < Config.userSectors)
  | _ => true

/-- Check 4: the Buffer Address of R140. -/
def bufferInOrder (k : TaskKind) (t : TaskBlock) : Bool :=
  match k with
  | .read | .write =>
    decide (t.buffer % 2 = 0 ∧ t.buffer < Config.hostSize ∧ t.buffer + 512 * t.count ≤ Config.hostSize)
  | .setParameters | .readSettings =>
    decide (t.buffer % 2 = 0 ∧ t.buffer < Config.hostSize ∧ t.buffer + 64 ≤ Config.hostSize)
  | _ => true

/-- Check 5 for one bay (R141). -/
def State.generationMatches (s : State) (expected : Nat) (b : Bay) : Bool :=
  expected == 0 || expected == (s.bay b).generation

/-- Check 5 (R141). -/
def State.generationsMatch (s : State) (e : Entry) : Bool :=
  s.generationMatches e.block.expectedGeneration e.bay &&
    (e.kind != some .copy || s.generationMatches e.block.secondGeneration e.secondBay)

/-- Check 6: what the gate of R22 makes of a task on one bay: a result that finishes it, or none where
the task passes. -/
def State.gateResult (s : State) (k : TaskKind) (release : Bool) (b : Bay) : Option Result :=
  match (s.bay b).state with
  | .empty => some .noMedia
  | .seated =>
    match k with
    | .spinDown => some .complete
    | .lock => if release then some .complete else none
    | .eject => none
    | _ => if s.settings.autoSpin then none else some .mediaNotReady
  | .locked => none
  | .fault =>
    if k = .spinUp ∧ (s.bay b).faultClass = .headsOffRamp then none else some .mediaNotReady
  | _ => some .mediaNotReady

/-- R22: "The Dispatcher applies the table to the source bay and then to the destination bay, and the
first bay that gives a result decides." -/
def State.gate (s : State) (k : TaskKind) (e : Entry) : Option Result :=
  (s.gateResult k e.block.releaseOption e.bay).or
    (if k = .copy then s.gateResult k false e.secondBay else none)

/-- R113: the checks of a Reassign against the table of its bay. -/
def reassignResult (lsn : Nat) (m : DefectMap) : Option Result :=
  if m.status ≠ .valid then some .recordNotValid
  else if m.nextSpare = Config.spareSectors then some .tableFull
  else if findEntry m.table lsn = none ∧ Config.tableSize ≤ m.table.length then some .tableFull
  else none

/-- Checks 5 to 8 of a task that names a bay. -/
def State.bayChecks (s : State) (k : TaskKind) (e : Entry) : Option Result :=
  if !s.generationsMatch e then some .mediaChanged
  else
    match s.gate k e with
    | some r => some r
    | none =>
      if (namedBays e.block).any (fun b => e.writesTo b && (s.bay b).writeProtect.accepted) then
        some .writeProtected
      else if k = .reassign ∧ (s.map e.bay).status.mounted then
        reassignResult e.block.address (s.map e.bay)
      else none

/-- R140 to R142: the first check that fails decides the result. -/
def State.checkResult (s : State) (e : Entry) : Option Result :=
  match e.kind with
  | none => some .badKind
  | some k =>
    if !baysInOrder k e.block then some .badBay
    else if !inRange k e.block then some .outOfRange
    else if !bufferInOrder k e.block then some .badAddress
    else if k.partWide then none
    else s.bayChecks k e

/-! ### The start of a task (R138, R142, R146 to R148) -/

/-- R22: a SEATED bay is locked and asked to spin up. -/
def State.lockIfSeated (s : State) (b : Bay) : State :=
  if (s.bay b).state = .seated then s.lockAndSpin b else s

/-- R59: "When the Dispatcher ... begins a new task ..., it has the Positioner clear Reseek Used."
(DEDUCED: log 36) -/
def State.clearReseek (s : State) (b : Bay) : State :=
  s.modPositioner b (fun p => { p with reseekUsed := false })

/-- R7, R148: a Lock with the Release option clear. -/
def State.engage (s : State) (e : Entry) : State :=
  (((if (s.bay e.bay).state = .seated then s.lockBay e.bay else s).modBay e.bay (fun c =>
    { c with prevent := e.block.preventOption })).complete e.id)

/-- The bays a task names, bay 0 first: the order in which what it asks of both at one moment is taken
(R45). -/
def bayOrder (t : TaskBlock) : List Bay := [Bay.bay0, Bay.bay1].filter (fun b => b ∈ namedBays t)

/-- R22: the SEATED bays of a task locked and asked to spin up. -/
def State.lockNamed (s : State) (e : Entry) : State := (bayOrder e.block).foldl State.lockIfSeated s

/-- The work of a task that has passed its checks begun, by its kind. -/
def State.beginWork (s : State) (k : TaskKind) (e : Entry) : State :=
  let b := e.bay
  let enter (t : State) (x : Stage) : State := t.modEntry e.id (fun f => { f with stage := x })
  match k with
  | .setParameters | .readSettings => enter s .slotWait
  | .spinDown => enter s .parking
  | .lock =>
    if e.block.releaseOption then (enter s .releasing).enterReleasing b .seated else s.engage e
  | .eject =>
    if (s.bay b).state = .seated then (enter s .ejecting).modBay b ejectingEntered
    else (enter s .releasing).enterReleasing b .ejecting
  | _ => enter (s.lockNamed e) .bayWait

/-- A task whose turn has come becomes ACTIVE; a marked one finishes Aborted (R152), one that fails a check
with its result, and any other begins its work. -/
def State.start (s : State) (e : Entry) : State :=
  let active := s.modEntry e.id (fun f => { f with state := .active })
  if e.aborted then active.modEntry e.id (fun f => { f with ending := some .aborted })
  else
    match s.checkResult e with
    | some r => active.modEntry e.id (fun f => { f with ending := some r })
    | none =>
      match e.kind with
      | none => active
      | some k => ((namedBays e.block).foldl State.clearReseek active).beginWork k e

/-! ### The end of a task (R129, R136) -/

/-- R129: the slots a task keeps once its end is decided: those still moved on to host memory, a settings
transfer, and the slot of the field in progress. -/
def State.keepsSlot (s : State) (i : Nat) (x : Slot) : Bool :=
  match x.purpose with
  | some .read => x.state == .full || x.state == .draining || s.channel.slot == some i
  | some .settingsIn | some .settingsOut => true
  | _ => s.channel.slot == some i

/-- R129: whether a slot is one that a task lets go of. A slot whose burst is in progress goes at its
end. -/
def State.letsGo (s : State) (id : Nat) (i : Nat) (x : Slot) : Bool :=
  x.owner == some (Owner.task id) && !s.keepsSlot i x &&
    !(s.burst.any (fun b => b.work == BurstWork.slot i && b.drop))

/-- Whether a task is the user of the channel on its run's bay with a field in progress. -/
def State.inField (s : State) (e : Entry) : Bool :=
  e.stage == .atChannel && e.run.any (fun r => s.fieldInProgress r.bay)

/-- A task that is the user of the channel on its run's bay gives it up, holding or waiting. -/
def State.leaveChannel (s : State) (e : Entry) : State :=
  match e.stage, e.run with
  | .atChannel, some r => (s.releaseOf r.bay).withdrawWaiting r.bay
  | _, _ => s

/-- R129, R145: an ended task lets go of its slots, its place among the slot waiters and, once no field
of its is in progress, of the channel. None where there is nothing to let go of. -/
def State.tidyEntry (s : State) (e : Entry) : Option State :=
  if e.state = .active ∧ e.ending.isSome then
    if e.id ∈ s.waiters ∨ (s.slotsWhere (s.letsGo e.id)) ≠ [] then
      some ({ s with waiters := s.waiters.filter (fun w => w != e.id) }.dropSlots (s.letsGo e.id))
    else if e.stage ≠ .draining ∧ !s.inField e then
      some ((s.leaveChannel e).modEntry e.id (fun f =>
        { f with stage := .draining, run := none, order := .idle, fetching := false }))
    else none
  else none

/-- The states in which a Positioner reports the outcome of a Stop order (R81). -/
def Actuator.atRest : Actuator → Bool
  | .following | .parked | .fault => true
  | _ => false

/-- R81: "The Positioner tells the Dispatcher when the actuator reaches FOLLOWING, PARKED or FAULT". -/
def State.reportStop (s : State) (e : Entry) : Option State :=
  match e.awaitStop with
  | none => none
  | some b =>
    if (s.positioner b).state.atRest then some (s.modEntry e.id (fun f => { f with awaitStop := none }))
    else none

/-- R136: the hand-over of a result: the end decided, no slot held, the channel released, any Stop order
reported. Tasks that end under Supply Low finish in taken order, also after the recovery (R154). -/
def State.handsOver (s : State) (e : Entry) : Bool :=
  e.unfinished && e.ending.isSome && s.slotsOf e.id == 0 && !s.waiters.contains e.id &&
    (e.state != .active || e.stage == .draining) && e.awaitStop.isNone &&
    ((!s.supply.accepted && e.ending != some .powerLoss) ||
      (s.olderThan e.id).all (fun o => !o.unfinished))

/-- R21: a task naming the bay finishes: the idle timer is set to 0 and runs on. -/
def State.restartIdle (s : State) (b : Bay) : State :=
  s.modBay b (fun c => { c with idle := c.idle.map (fun _ => 0) })

/-- R136, R163: the entry enters FINISHING and its result goes to the finisher. -/
def State.handOver (s : State) (e : Entry) : State :=
  let finished := s.modEntry e.id (fun f => { f with state := .finishing })
  (namedBays e.block).foldl State.restartIdle { finished with finishing := finished.finishing ++ [e.id] }

/-! ### Waits of a started task (R143, R144, R146) -/

/-- R143: the bays whose spindle a task asks to spin up again. -/
def State.needsSpin (s : State) (b : Bay) : Bool :=
  (s.spindle b).phase == .stopped ||
    ((s.spindle b).phase == .stopping && !(s.spindle b).restartHeld)

/-- R143: the phases in which a task without Auto Spin finishes Media Not Ready. -/
def Phase.endsWait : Phase → Bool
  | .stopped | .stopping => true
  | _ => false

/-- The wait of a task on one bay passes on. -/
def State.setWait (s : State) (e : Entry) (b : Bay) (w : BayWait) : State :=
  s.modEntry e.id (fun f => { f with stage := .bayWait, waits := f.waits.update b (fun _ => w) })

/-- R143, R146: the wait for the spindle of one bay. -/
def State.waitSpindle (s : State) (e : Entry) (b : Bay) : Option State :=
  if (s.spindle b).phase = .locked then some (s.setWait e b .mount)
  else if s.supply.accepted then none
  else if e.kind = some .spinUp ∨ s.settings.autoSpin then
    if s.needsSpin b then some (s.spinUpRequest b) else none
  else if (s.spindle b).phase.endsWait then some (s.decideEnd e.id .mediaNotReady 0)
  else none

/-- R146: a Spin Up completes, with the retries of the mount it waited for. -/
def State.completeSpinUp (s : State) (e : Entry) : State :=
  let b := e.bay
  let retries := if e.waitedMount then (s.map b).mountRetries else 0
  let done := s.modEntry e.id (fun f => completed { f with retriesUsed := min 255 (f.retriesUsed + retries) })
  if e.aborted then done else done.modBay b (fun c => { c with faultClass := .none })

/-- R128, R144: where a record write goes on from its mount wait: to its one take, or past it where it
holds the slot of that take already. -/
def State.recordStage (s : State) (e : Entry) : Stage :=
  if s.slotsOf e.id = 0 then .slotWait else .positioning

/-- R144, R113: a task goes on when each of its bays has passed its spindle and mount waits. -/
def State.afterMount (s : State) (e : Entry) : State :=
  let enter (x : Stage) : State := s.modEntry e.id (fun f => { f with stage := x })
  match e.kind with
  | some .spinUp => s.completeSpinUp e
  | some .write => s.modEntry e.id (fun f => { f with stage := .positioning, fetching := true })
  | some .reassign =>
    match reassignResult e.block.address (s.map e.bay) with
    | some r => s.decideEnd e.id r 0
    | none => enter (s.recordStage e)
  | some .resetRecord => enter (s.recordStage e)
  | _ => enter .positioning

/-- R144, R112, R146: the wait for the mount of one bay. A spindle that has stopped puts the bay back to
its spindle wait. -/
def State.waitMount (s : State) (e : Entry) (b : Bay) : Option State :=
  let again := if s.needsSpin b then some (s.setWait e b .spindle) else none
  if (s.map b).status.mounted then
    if e.kind = some .spinUp ∧ (s.spindle b).phase ≠ .locked then again
    else some (s.setWait e b .passed)
  else if !e.waitedMount then some (s.modEntry e.id (fun f => { f with waitedMount := true }))
  else if s.mountable b then some (s.beginMount b)
  else again

/-- R143, R144: the waits of one bay of a task. -/
def State.waitBay (s : State) (e : Entry) (b : Bay) : Option State :=
  match e.waits.get b with
  | .spindle => s.waitSpindle e b
  | .mount => s.waitMount e b
  | .passed => none

/-- R143, R144: a task in its waits. A Copy waits for each of its bays on its own, "until both bays have
passed their spindle and mount waits". -/
def State.waitBays (s : State) (e : Entry) : Option State :=
  if (bayOrder e.block).all (fun b => e.waits.get b == .passed) then some (s.afterMount e)
  else (bayOrder e.block).findSome? (s.waitBay e)

/-! ### Slots taken ahead of need (R120, R124, R128) -/

/-- The record image a Reassign or Reset Defect Record writes (R106, R114, R116). -/
def recordImageOf (e : Entry) (m : DefectMap) : List Byte :=
  match e.kind with
  | some .reassign => recordBytes (remap e.block.address m.nextSpare m.table) (m.nextSpare + 1)
  | _ => recordBytes [] 0

/-- A slot taken for a task: WRITE fetch-ahead, RECORD WRITE with its image, SETTINGS IN, or SETTINGS OUT
with the settings in use (R171). The slot of a settings transfer holds bay 0 (DESIGN CHOICE: log 46). -/
def State.takeFor (s : State) (e : Entry) (i : Nat) : State :=
  let own := Owner.task e.id
  match e.kind with
  | some .write =>
    let lsn := e.block.address + e.fetched
    (s.takeSlot i .filling own .write e.bay (.lsn lsn) (some (hostPlace e.block lsn))).modEntry e.id
      (fun f => { f with fetched := f.fetched + 1 })
  | some .setParameters =>
    (s.takeSlot i .filling own .settingsIn .bay0 .none (some e.block.buffer)).modEntry e.id
      (fun f => { f with stage := .settings })
  | some .readSettings =>
    ((s.takeSlot i .full own .settingsOut .bay0 .none (some e.block.buffer)).modSlot i (fun x =>
      { x with data := settingsBytes s.settings ++ x.data.drop 64 })).modEntry e.id
      (fun f => { f with stage := .settings })
  | _ =>
    ((s.takeSlot i .full own .recordWrite e.bay .record none).modSlot i (fun x =>
      { x with data := recordImageOf e (s.map e.bay) })).modEntry e.id
      (fun f => { f with stage := .positioning })

/-- Whether a task makes a take ahead of need now. -/
def wantsSlot (e : Entry) : Bool :=
  e.state == .active && e.ending.isNone &&
    (e.stage == .slotWait || (e.fetching && decide (e.fetched < e.block.count)))

/-- R120: a take ahead of need: the slot given, or a place among the waiters. -/
def State.takeAhead (s : State) (e : Entry) : Option State :=
  if wantsSlot e && !s.waiters.contains e.id && decide (s.slotsOf e.id < Config.slotQuota) then
    match s.freeSlot? with
    | some i => some (s.takeFor e i)
    | none => some { s with waiters := s.waiters ++ [e.id] }
  else none

/-- R120: a FREE slot given at once to the oldest waiter whose quota allows a take. -/
def State.serveWaiter (s : State) : Option State :=
  match s.freeSlot?, s.waiters.find? (fun w => decide (s.slotsOf w < Config.slotQuota)) with
  | some i, some w =>
    match s.entry? w with
    | some e => some ({ s with waiters := s.waiters.filter (fun x => x != w) }.takeFor e i)
    | none => some { s with waiters := s.waiters.filter (fun x => x != w) }
  | _, _ => none

/-! ### Positioner orders of a task (R144, R59) -/

/-- An order given for a task. -/
def State.orderFor (s : State) (e : Entry) (b : Bay) (k : OrderKind) : State :=
  (s.modEntry e.id (fun f => { f with order := .outstanding, orderBay := b })).giveOrder b ⟨k, .task e.id⟩

/-- A new run of a task: its first sector is a new Target. -/
def State.setRun (s : State) (e : Entry) (r : Run) (length : Nat) : State :=
  (s.newTarget r.bay).modEntry e.id (fun f => { f with run := some r, groupLength := length })

/-- R126: a Copy's slots renamed to the destination. -/
def renamedSlot (e : Entry) (x : Slot) : Slot :=
  if x.owner = some (Owner.task e.id) ∧ x.purpose = some .copy then
    { x with
      bay := e.secondBay
      sector := match x.sector with
        | .lsn n => .lsn (e.block.parameter + (n - e.block.address))
        | other => other }
  else x

/-- R126: the read half of a Copy's group is whole, and the write half begins. -/
def State.beginWriteHalf (s : State) (e : Entry) : State :=
  { s with slots := s.slots.map (renamedSlot e) }.modEntry e.id (fun f =>
    { f with half := .writing, next := f.groupStart })

/-- R88, R126: a task forms its next run, or passes on where no run is left. -/
def State.nextRun (s : State) (e : Entry) : State :=
  let t := e.block
  match e.kind with
  | some .formatTrack => s.setRun e ⟨e.bay, t.cylinder, t.head, []⟩ 0
  | some .reassign | some .resetRecord => s.setRun e (recordRun e.bay) 0
  | some .copy =>
    match e.half with
    | .reading =>
      if e.groupLength = 0 then
        let r := formRun e.bay (s.map e.bay).table (t.address + e.groupStart) (t.count - e.groupStart) 8
        s.setRun e r r.sectors.length
      else s.beginWriteHalf e
    | .writing =>
      if e.next < e.groupStart + e.groupLength then
        s.setRun e (formRun e.secondBay (s.map e.secondBay).table (t.parameter + e.next)
          (e.groupStart + e.groupLength - e.next) 8) e.groupLength
      else
        s.modEntry e.id (fun f => { f with half := .reading, groupStart := f.next, groupLength := 0 })
  | _ =>
    if e.next < t.count then
      s.setRun e (formRun e.bay (s.map e.bay).table (t.address + e.next) (t.count - e.next) 32) 0
    else s.modEntry e.id (fun f => { f with stage := .draining })

/-- R143, R144: the order a task gives next. A bay whose spindle has stopped since the task passed it is
woken first (DEDUCED: log 16). -/
def State.orderNext (s : State) (e : Entry) (b : Bay) (k : OrderKind) : State :=
  if s.needsSpin b then s.setWait e b .spindle else s.orderFor e b k

/-- R144: with no order outstanding, a task gives its next order, forms its next run, or is there. -/
def State.giveNext (s : State) (e : Entry) : State :=
  match e.kind with
  | some .seek => s.orderNext e e.bay (.seek e.block.cylinder e.block.head)
  | some .recalibrate => s.orderNext e e.bay .recalibrate
  | _ =>
    match e.run with
    | none => s.nextRun e
    | some r =>
      if s.headsAt r.bay r.cylinder r.head then
        s.modEntry e.id (fun f => { f with stage := .atChannel })
      else s.orderNext e r.bay (.seek r.cylinder r.head)

/-- R59, R145: an order has ended, failed, been refused or been handed back (DEDUCED: log 16). -/
def State.waitPositioner (s : State) (e : Entry) : Option State :=
  match e.order with
  | .outstanding => none
  | .idle => some (s.giveNext e)
  | .failed => some (s.decideEnd e.id .seekFault 0)
  | .refused => some (s.decideEnd e.id .mediaNotReady 0)
  | .returned =>
    let back := s.modEntry e.id (fun f => { f with order := .idle, stage := .positioning })
    some (if s.needsSpin e.orderBay then back.setWait e e.orderBay .spindle else back)
  | .ended =>
    if e.kind = some .seek ∨ e.kind = some .recalibrate then some (s.complete e.id)
    else
      some (s.modEntry e.id (fun f =>
        { f with order := .idle, stage := if e.stage = .recalibrating then .positioning else .atChannel }))

/-- R74, R89: a task that waits for the channel with its heads gone gives its Seek order again. -/
def State.waitChannel (s : State) (e : Entry) : Option State :=
  match e.run with
  | none => none
  | some r =>
    let p := s.positioner r.bay
    if s.channel.grant ≠ some r.bay ∧
        (p.state = .parked ∨ p.state = .fault ∨
          (p.state = .following ∧ p.pendingHead = none ∧ !s.headsAt r.bay r.cylinder r.head)) then
      some (s.modEntry e.id (fun f => { f with stage := .positioning, order := .idle }))
    else none

/-- R122, R149: a Read whose last sector has been delivered and whose last slot is FREE completes. -/
def State.waitDrain (s : State) (e : Entry) : Option State :=
  if e.ending = none ∧ s.slotsOf e.id = 0 then some (s.complete e.id) else none

/-! ### Spin Down (R146) -/

/-- R146: the park of a Spin Down. -/
def State.waitPark (s : State) (e : Entry) : Option State :=
  match e.order with
  | .outstanding => none
  | .ended =>
    some ((s.modEntry e.id (fun f => { f with order := .idle, stage := .stopping })).stopRequest e.bay)
  | .failed | .refused => some (s.decideEnd e.id .retractFault 0)
  | .idle | .returned =>
    some ((s.modEntry e.id (fun f => { f with order := .outstanding, orderBay := e.bay })).givePark e.bay
      (.task e.id))

/-- R146: the stop of a Spin Down. -/
def State.waitStop (s : State) (e : Entry) : Option State :=
  match (s.spindle e.bay).phase with
  | .stopped => some (s.complete e.id)
  | .stopping => none
  | _ => some (s.stopRequest e.bay)

/-! ### One step of a started task -/

/-- What an ACTIVE task does next, if it can do anything. -/
def State.advanceEntry (s : State) (e : Entry) : Option State :=
  if e.state = .active ∧ e.ending = none then
    match e.stage with
    | .bayWait => s.waitBays e
    | .positioning | .recalibrating => s.waitPositioner e
    | .atChannel => s.waitChannel e
    | .draining => s.waitDrain e
    | .parking => s.waitPark e
    | .stopping => s.waitStop e
    | .slotWait | .slip | .releasing | .ejecting | .settings => none
  else none

/-! ### Abort (R152, R153) -/

/-- R153: whether the safe point of a marked ACTIVE task is at hand. A task that waits for a Positioner
order is stopped by R81 at once. -/
def State.safePoint (s : State) (e : Entry) : Bool :=
  match e.kind with
  | none => true
  | some .spinDown | some .lock | some .eject => false
  | some .setParameters | some .readSettings => e.stage == .slotWait
  | some _ => !s.inField e

/-- R153: a marked task at its safe point finishes Aborted. -/
def State.abortEntry (s : State) (e : Entry) : Option State :=
  if e.state = .active ∧ e.ending = none ∧ e.aborted ∧ s.safePoint e then
    some ((s.stopTask e).decideEnd e.id .aborted 0)
  else none

end Sys2Proof.Machine
end

