-- ==== Sys2Proof/Machine/LinkOps.lean ====
section
/-!
DEFINITION. The Bus Master and the Link Port (spec/06 section 6.8, spec/08): which burst a grant begins,
what the end of a burst brings to its requester, the chain walk, finishes and Condition Records.
-/

namespace Sys2Proof.Machine

/-! ### The next burst (R130 to R132, R163, R164, R179) -/

/-- Words of a slot to be moved: 256, or 32 for a settings transfer (R128). -/
def wordsToMove (x : Slot) : Nat :=
  match x.purpose with
  | some .settingsIn | some .settingsOut => 32
  | _ => 256

/-- The words of a burst toward the host: the slot's next 16 (R122). -/
def slotWords (x : Slot) : List Word := bytesWords ((x.data.drop (2 * x.wordsMoved)).take 32)

/-- Whether a slot's bursts go toward the host. -/
def slotOut (x : Slot) : Bool :=
  match x.purpose with
  | some .read | some .settingsOut => true
  | _ => false

/-- The burst of a slot: 16 words at its host address plus what it has moved (R122, R124). -/
def slotBurst (i : Nat) (x : Slot) : Burst where
  work := .slot i
  address := x.hostAddress.getD 0 + 2 * x.wordsMoved
  words := if slotOut x then slotWords x else []
  drop := false

/-- The Marker values of a task block (spec/11 section 11.4). -/
def markerTaken : Nat := 1
def markerDone : Nat := 2

/-- R163: the words of one of the three writes of a finish, with N the Finished Count before it. -/
def finishWords (e : Entry) (n : Word) : Nat → List Byte
  | 0 => lowFirst 2 e.sectorsDone ++ lowFirst 2 e.detail ++ lowFirst 1 e.retriesUsed ++
      lowFirst 1 (n + 1#16).toNat
  | 1 => lowFirst 1 markerDone ++ lowFirst 1 (resultCode (e.ending.getD .complete))
  | _ => wordBytes (n + 1#16)

/-- R163, R179: where each of the three is written. -/
def finishAddress (e : Entry) (anchor : Nat) : Nat → Nat
  | 0 => e.blockAddress + 26
  | 1 => e.blockAddress + 24
  | _ => anchor + 18

/-- The offset of a bay's Condition Record in the area (spec/11 section 11.2). -/
def recordOffset : Bay → Nat
  | .bay0 => 32
  | .bay1 => 48

/-- The address the next fetch reads: the Chain Head, or the Link field of the Cursor block (R161). -/
def State.fetchAddress (s : State) : Nat :=
  if s.counts.cursor = 0#32 then s.ports.anchor.toNat else s.counts.cursor.toNat

/-- R161, R162, R158 to R160, R179: the burst of an access of the fetcher. -/
def State.fetchBurst (s : State) (w : BurstWork) : Burst :=
  let anchor := s.ports.anchor.toNat
  let burst (address : Nat) (bytes : List Byte) : Burst := ⟨w, address, bytesWords bytes, false⟩
  match w with
  | .startWrite =>
    burst (anchor + 16)
      (wordBytes s.counts.taken ++ wordBytes s.counts.finished ++ lowFirst 4 s.counts.cursor.toNat ++
        lowFirst 2 (linkFaultCode s.counts.fault))
  | .faultClear => burst (anchor + 24) (lowFirst 2 (linkFaultCode .none))
  | .reread | .poll => burst (anchor + 4) []
  | .readLink => burst s.fetchAddress []
  | .readBlock a => burst a []
  | .stamp a _ => burst (a + 24) (lowFirst 1 markerTaken ++ [0#8])
  | .writeCursor => burst (anchor + 20) (lowFirst 4 s.counts.cursor.toNat)
  | .writeTaken => burst (anchor + 16) (wordBytes s.counts.taken)
  | .writeFault f => burst (anchor + 24) (lowFirst 2 (linkFaultCode f))
  | _ => burst anchor []

/-- R164: the record write begins: the sequence formed, the pending write set to none, the bay's state
taken as it stands. -/
def State.beginRecord (s : State) (b : Bay) : State :=
  let raised := s.link.pendingRecord.get b == .raised
  let sequence := s.counts.sequence.get b + (if raised then 1#16 else 0#16)
  { s with
    link := { s.link with
      pendingRecord := s.link.pendingRecord.update b (fun _ => .none)
      recordOrder := s.link.recordOrder.filter (fun x => x != b) }
    burst := some ⟨.record b sequence raised, s.ports.anchor.toNat + recordOffset b,
      bytesWords (s.recordImage b sequence), false⟩ }

/-- R132: at a grant the Bus Master serves sector data first, oldest Age first, then the finish, then a
Condition Record, then the fetcher. Without a request nothing begins. -/
def State.beginBurst (s : State) : State :=
  match s.oldestRequest with
  | some i =>
    match s.slots[i]? with
    | some x =>
      { s.modSlot i (fun y => { y with state := if y.state = .full then .draining else y.state }) with
        burst := some (slotBurst i x) }
    | none => s
  | none =>
    match (s.finishing.head?).bind s.entry? with
    | some e =>
      { s with
        burst := some ⟨.finish s.link.finishStep, finishAddress e s.ports.anchor.toNat s.link.finishStep,
          bytesWords (finishWords e s.counts.finished s.link.finishStep), false⟩ }
    | none =>
      match s.link.recordOrder with
      | b :: _ => s.beginRecord b
      | [] =>
        match s.fetchWork with
        | some w =>
          { s with
            burst := some (s.fetchBurst w)
            link := { s.link with
              attentionHeld := s.link.attentionHeld && w != .reread
              pollDue := s.link.pollDue && w != .poll
              startWrite := s.link.startWrite && w != .startWrite
              faultClear := s.link.faultClear && w != .faultClear } }
        | none => s

/-! ### The end of a slot's burst (R122, R124, R128) -/

/-- Words read from the host placed into a slot at the words already moved. -/
def wordsPlaced (ws : List Word) (x : Slot) : Slot :=
  { x with data := x.data.take (2 * x.wordsMoved) ++ wordsBytes ws ++ x.data.drop (2 * x.wordsMoved + 32) }

/-- R169, R170: the Settings Store takes the record: every change at one moment, and each idle timer set
to 0 where the Idle Limit changes. -/
def State.takeSettingsRecord (s : State) (id : Nat) (data : List Byte) : State :=
  let taken := takeSettings s.settings data
  let stored := { s with settings := taken.1 }
  let timed :=
    if taken.1.idleLimit = s.settings.idleLimit then stored
    else (stored.restartIdle .bay0).restartIdle .bay1
  timed.modEntry id (decided (if 0 < taken.2 then .adjusted else .complete) taken.2)

/-- What the last word of a slot's transfer brings (R122, R124, R128). -/
def State.slotMoved (s : State) (i : Nat) (x : Slot) : State :=
  match x.purpose, x.owner with
  | some .read, some (.task id) =>
    (s.freeSlot i).modEntry id (fun e => { e with sectorsDone := e.sectorsDone + 1 })
  | some .settingsOut, some (.task id) => (s.freeSlot i).modEntry id (decided .complete 0)
  | some .settingsIn, some (.task id) => (s.freeSlot i).takeSettingsRecord id (x.data.take 64)
  | _, _ => s.modSlot i (fun y => { y with state := .full })

/-- The end of a burst of a slot. A slot that was to be dropped returns to FREE now (R129), and the words
that a burst into it brought are not kept (DESIGN CHOICE: log 59). -/
def State.endSlotBurst (s : State) (i : Nat) (drop : Bool) (ws : List Word) : State :=
  match s.slots[i]? with
  | none => s
  | some x =>
    if drop then s.freeSlot i
    else
      let placed := if slotOut x then x else wordsPlaced ws x
      let moved := { placed with wordsMoved := placed.wordsMoved + 16 }
      let stored := s.modSlot i (fun _ => moved)
      if moved.wordsMoved < wordsToMove moved then stored else stored.slotMoved i moved

/-! ### The end of a finish write (R163) -/

/-- R163: the end of one of the three writes; after the third the count is raised and the entry leaves. -/
def State.endFinish (s : State) (step : Nat) : State :=
  if step < 2 then s.modLink (fun l => { l with finishStep := step + 1 })
  else
    match s.finishing with
    | [] => s
    | id :: rest =>
      { s with
        counts := { s.counts with finished := s.counts.finished + 1#16 }
        finishing := rest
        entries := s.entries.filter (fun e => e.id != id)
        link := { s.link with finishStep := 0 } }

/-! ### The end of an access of the fetcher (R159 to R162) -/

/-- R159: the host fields from Posted Count to Poll Interval as the re-read brings them. -/
def hostFieldsRead (ws : List Word) : HostFields where
  posted := ws.getD 0 0#16
  interruptEnable := (ws.getD 1 0#16).getLsbD 0
  finishedSeen := ws.getD 2 0#16
  conditionSeen := ⟨ws.getD 3 0#16, ws.getD 4 0#16⟩
  pollInterval := ws.getD 5 0#16

/-- R159: the re-read ends. A re-read that ends in OFFLINE brings nothing (DEDUCED: log 18); one begun before
OFFLINE that ends after a new Start counts (DESIGN CHOICE: log 61). "In RUNNING the fetcher then checks the
new Posted Count for skew and fetches": `beginFetch`, in the same instant. -/
def State.endReread (s : State) (ws : List Word) : State :=
  if s.link.state = .offline then s
  else
    let fields := hostFieldsRead ws
    let changed := fields.pollInterval != s.hostFields.pollInterval
    { s with
      hostFields := fields
      link := { s.link with
        pollTimer := if changed then s.link.pollTimer.map (fun _ => 0) else s.link.pollTimer } }

/-- R160: the re-read of the Posted Count ends, in OFFLINE and after a new Start as that of R159 (log 18,
log 61). "The fetcher checks it and fetches": `beginFetch`, in the same instant. -/
def State.endPoll (s : State) (ws : List Word) : State :=
  if s.link.state = .offline then s
  else { s with hostFields := { s.hostFields with posted := ws.getD 0 0#16 } }

/-- R161: the address read is checked. A link that has left RUNNING takes nothing (R162; DEDUCED:
log 18). -/
def linkRead (running : Bool) (a : Nat) : Fetch :=
  if !running then .idle
  else if a = 0 then .writeFault .brokenChain
  else if Config.hostSize ≤ a ∨ a % 16 ≠ 0 then .writeFault .misaligned
  else .readBlock a

/-- Whether a take is in progress: from its link read to its write of Taken Count (R161, R162; DEDUCED:
log 57). -/
def Fetch.inTake : Fetch → Bool
  | .readLink | .readBlock _ | .stamp .. | .writeCursor | .writeTaken => true
  | .idle | .writeFault _ => false

/-- Whether the fetcher may begin a take: RUNNING, no Part Reset under way (R161, R175). -/
def State.mayFetch (s : State) : Bool := s.link.state == .running && !s.resetInProgress

/-- R135, R154, R175: an entry as it joins the queue. Under Supply Low it finishes Power Loss, and in a
Part Reset run-down Aborted at its turn. -/
def newEntry (id : Nat) (t : TaskBlock) (a : Nat) (marked lost : Bool) : Entry where
  id := id
  block := t
  blockAddress := a
  state := .queued
  aborted := marked
  ending := if lost then some .powerLoss else none
  sectorsDone := 0
  detail := 0
  retriesUsed := 0
  stage := .bayWait
  waits := .both .spindle
  next := 0
  fetching := false
  fetched := 0
  half := .reading
  groupStart := 0
  groupLength := 0
  run := none
  order := .idle
  orderBay := .bay0
  awaitStop := none
  waitedMount := false

/-- R162 step 3: Taken Count raised, the Cursor set, and the block joins the queue. -/
def State.joinQueue (s : State) (a : Nat) (t : TaskBlock) : State :=
  { s with
    counts := { s.counts with taken := s.counts.taken + 1#16, cursor := BitVec.ofNat 32 a }
    entries := s.entries ++ [newEntry s.nextId t a s.resetInProgress s.supply.accepted]
    nextId := s.nextId + 1
    link := { s.link with fetch := .writeCursor } }

/-- R161: "At the end of that write the Link Fault takes the value, and a link still RUNNING enters
STALLED." A poll that is due stays due there (DESIGN CHOICE: log 49). -/
def State.endFaultWrite (s : State) (f : LinkFault) : State :=
  { s with
    counts := { s.counts with fault := f }
    link := { s.link with
      fetch := .idle
      state := if s.link.state = .running then .stalled else s.link.state } }

/-- The end of a burst, by its work (R130, R131). -/
def State.endBurst (s : State) (w : BurstWork) (drop : Bool) (ws : List Word) : State :=
  match w with
  | .slot i => s.endSlotBurst i drop ws
  | .finish step => s.endFinish step
  | .record b sequence raised =>
    if raised then
      { s with counts := { s.counts with sequence := s.counts.sequence.update b (fun _ => sequence) } }
    else s
  | .startWrite | .faultClear => s
  | .reread => s.endReread ws
  | .poll => s.endPoll ws
  | .readLink =>
    s.modLink (fun l =>
      if l.fetch = .readLink then
        { l with fetch := linkRead (s.link.state == .running) ((ws.getD 0 0#16).toNat + 65536 * (ws.getD 1 0#16).toNat) }
      else l)
  | .readBlock a => s.modLink (fun l => { l with fetch := .stamp a (parseBlock (wordsBytes ws)) })
  | .stamp a t => s.joinQueue a t
  | .writeCursor => s.modLink (fun l => { l with fetch := .writeTaken })
  | .writeTaken => s.modLink (fun l => { l with fetch := .idle })
  | .writeFault f => s.endFaultWrite f

/-- The words a burst writes kept in host memory, low byte at the lower address (R122, R179). -/
def State.storeWords (s : State) (x : Burst) : State :=
  { s with hostMem := s.hostMem.writeBytes x.address (wordsBytes x.words) }

/-! ### Link States (R157, R161, R167) -/

/-- R157: entry to OFFLINE (DEDUCED: log 37). -/
def State.enterOffline (s : State) : State :=
  { s with
    hostFields := .reset
    link := { s.link with
      state := .offline, pendingRecord := .both .none, recordOrder := [], refreshTimer := .both none
      pollTimer := none, attentionHeld := false, pollDue := false, startWrite := false
      faultClear := false, fetch := .idle } }

/-- R166: the interrupt line and the DMA request line follow their conditions (R130). The DMA request
falls at once where the last request is withdrawn before a grant (DESIGN CHOICE: log 55). -/
def State.linesUpdated (s : State) : State :=
  { s with
    link := { s.link with interruptLine := s.interruptDue }
    dmaRequest := s.burst.isSome || s.requesting }

end Sys2Proof.Machine
end

