-- ==== Sys2Proof/Machine/Settle.lean ====
section
/-!
DEFINITION. What the blocks do of their own accord once an event has been taken. Each rule here is a wait
of one of the spec's rules: it answers the state after it where its condition has come to hold. `perform`
takes an event and then lets every wait that has ended go on (DESIGN CHOICE: log 10).
-/

namespace Sys2Proof.Machine

/-! ### The channel -/

/-- R98: a Held press is delivered when the write gate is no longer asserted for the bay. What cut the field
has been taken whole by then: a drift or a crossing has counted its failure, and Write Protect, an Index
Fault, a Spin Fault, a removal or an Abort in a laying has decided the task's end, which the press then finds
decided (DESIGN CHOICE: log 68). -/
def deliverPress (s : State) : Option State :=
  match s.channel.heldPress with
  | none => none
  | some b =>
    if s.channel.grant = some b ∧ s.channel.writeGate then none
    else some ((s.modChannel (fun c => { c with heldPress := none })).press b)

/-- R91: a grant whose user has gone is released. -/
def releaseOrphan (s : State) : Option State :=
  match s.channel.grant with
  | none => none
  | some b => if s.client? b = none then some (s.loseChannel b) else none

/-- R89: whether the user of a bay has a request standing. -/
def State.requestStands (s : State) (b : Bay) : Bool :=
  match s.client? b with
  | none => false
  | some g => s.stillTrying g && (s.clientRun? b g).any s.requestAllowed

/-- R89, R90: the Waiting bay's request is withdrawn, or granted once the channel is free. -/
def serveWaitingBay (s : State) : Option State :=
  match s.channel.waiting with
  | none => none
  | some b =>
    if !s.requestStands b then some (s.withdrawWaiting b)
    else if s.channel.grant = none then some (s.grantChannel b)
    else none

/-- R89: a bay requests the channel for its next run. -/
def makeRequest (b : Bay) (s : State) : Option State :=
  if s.channel.grant ≠ some b ∧ s.channel.waiting ≠ some b ∧ s.requestStands b then
    some (s.requestChannel b)
  else none

/-- R100: a format for which Index Unreliable holds ends with Index Fault. -/
def endUnreliable (s : State) : Option State :=
  match s.channel.grant with
  | none => none
  | some b =>
    if s.channel.search = .formatting ∧ s.indexUnreliable b ∧
        (s.client? b).any s.stillTrying then
      some (s.indexFault b)
    else none

/-! ### Supply recovery (R24, R167, R174) -/

/-- R24: a bay restarts sensing: Present undecided, the other inputs at their Bus Reset values. -/
def sensingRestarted (c : BayControl) : BayControl :=
  { c with
    sensing := true, presentUndecided := true, undecidedLevel := false
    present := { c.present with run := 0 }
    writeProtect := .low, button := .low, parkDetect := .low }

/-- R174: "Each bay restarts sensing when its actuator is not RETRACTING." -/
def restartSensing (b : Bay) (s : State) : Option State :=
  if !s.supply.accepted ∧ !(s.bay b).sensing ∧ (s.positioner b).state ≠ .retracting then
    some (s.modBay b sensingRestarted)
  else none

/-- R158, R164, R167: both bays' record writes become raised together; which is served first is left
open (DESIGN CHOICE: log 9). -/
def State.raiseBoth (s : State) : State :=
  let first := if Config.recordFirst s.freeCount then Bay.bay0 else Bay.bay1
  { s with freeCount := s.freeCount + 1, link := raiseRecord first.other (raiseRecord first s.link) }

/-- R167: the return from HALTED. -/
def State.returnFromHalted (s : State) : State :=
  let back := if s.link.offlineHeld then LinkState.draining else s.link.haltedFrom
  { s with
    link := { s.link with
      state := back, offlineHeld := false
      attentionHeld := back == LinkState.running } }.raiseBoth

/-- R174: the link returns from HALTED when both bays have restarted sensing; in Reset in Progress it
does not (R176). -/
def leaveHalted (s : State) : Option State :=
  if s.link.state = .halted ∧ !s.supply.accepted ∧ !s.resetInProgress ∧ (s.bay .bay0).sensing ∧
      (s.bay .bay1).sensing then
    some s.returnFromHalted
  else none

/-! ### The Positioner -/

/-- R60: a head change held for the release is made. -/
def changeHead (b : Bay) (s : State) : Option State :=
  match (s.positioner b).pendingHead with
  | none => none
  | some h =>
    if s.channel.grant = some b then none
    else
      some ((s.modPositioner b (fun p => { p with headSelect := h, pendingHead := none })).endSeekIfThere b)

/-- Whether a Park order is held. -/
def heldPark (p : Positioner) : Bool := p.held.any (fun o => o.kind == .park)

/-- R76: a held Park is taken in FOLLOWING when the channel is not granted to the bay. Over a mount's read
that slips, or whose spindle drifts, that is the release R91 makes there, and the Park ends the mount at it,
though R111 speaks of the release that ends the run (DESIGN CHOICE: log 72). -/
def takeHeldPark (b : Bay) (s : State) : Option State :=
  if (s.positioner b).state = .following ∧ heldPark (s.positioner b) ∧ s.channel.grant ≠ some b then
    some (s.takePark b)
  else none

/-- R59, R61: a held order carried out from FOLLOWING, or from PARKED once the spindle is LOCKED. -/
def takeHeldOrder (b : Bay) (s : State) : Option State :=
  let p := s.positioner b
  match p.held with
  | none => none
  | some o =>
    let taken := s.modPositioner b (fun q => { q with held := q.heldBehind, heldBehind := none })
    if o.kind = .park ∨ p.order.isSome ∨ s.supply.accepted then none
    else if p.state = .following then some (taken.carryOut b o)
    else if p.state = .parked ∧ (s.spindle b).phase = .locked then some (taken.loadFor b o)
    else none

/-! ### The mount sequence (R109 to R111) -/

/-- The mount's Seek to 638, head 0. -/
def State.seekRecord (s : State) (b : Bay) : State :=
  (s.modMap b (fun m => { m with mountStage := .seeking, mountOrder := .outstanding })).giveOrder b
    ⟨.seek Config.lastCylinder 0, .mount⟩

/-- R109: the load and recalibrate have ended on cylinder 0: MOUNTING, with the table empty (R108), the soft
errors cleared, and the seek to the maintenance track. -/
def State.beginRead (s : State) (b : Bay) : State :=
  ((s.modMap b (fun m =>
    { m with
      status := .mounting, table := [], nextSpare := 0, softErrors := 0
      marginal := false })).newTarget b).seekRecord b

/-- A step of a mount sequence whose order has ended, failed, been refused or been handed back
(DEDUCED: log 35). -/
def advanceMount (b : Bay) (s : State) : Option State :=
  let m := s.map b
  match m.mountStage, m.mountOrder with
  | .idle, _ | .slip, _ => none
  | .atChannel, _ =>
    let p := s.positioner b
    if s.channel.grant ≠ some b ∧ (p.state = .parked ∨ p.state = .fault ∨
        (p.state = .following ∧ p.pendingHead = none ∧ !s.headsAt b Config.lastCylinder 0)) then
      some (s.seekRecord b)
    else none
  | _, .outstanding => none
  | .loading, .ended => some (s.beginRead b)
  | .seeking, .ended =>
    some (s.modMap b (fun x => { x with mountStage := .atChannel, mountOrder := .idle }))
  | .recalibrating, .ended => some (s.seekRecord b)
  | _, .failed => some (s.failMount b .seekFault)
  | _, .refused => some (s.failMount b .mediaNotReady)
  | _, _ => some (s.endMount b)

/-! ### The Bay Controller -/

/-- R17, R18: a bay in FAULT whose retract has ended PARKED returns to LOCKED. -/
def leaveFault (b : Bay) (s : State) : Option State :=
  if (s.bay b).state = .fault ∧ (s.positioner b).state = .parked then some (s.returnToLocked b) else none

/-- Whether a spindle has a stop request still to be made. -/
def needsStop (q : Spindle) : Bool :=
  q.phase != .stopped && !(q.phase == .stopping && !q.restartHeld)

/-- R21: the idle stop: the heads PARKED, the spindle is ordered stopped. -/
def stopIdle (b : Bay) (s : State) : Option State :=
  if (s.bay b).idleStop ∧ (s.positioner b).state = .parked then
    some ((s.modBay b (fun c => { c with idleStop := false })).stopRequest b)
  else none

/-- R11, R23: whether a task other than the one that releases the bay is started on it. -/
def State.workOn (s : State) (b : Bay) : Bool :=
  s.entries.any (fun e => e.state == .active && e.names b && e.stage != .releasing)

/-- R11: RELEASING parks the heads, then stops the spindle, then releases the lock. The park is skipped in
PARKED only, so that an actuator in FAULT retracts (R76); in a Part Reset run-down it does not (R23). -/
def advanceRelease (b : Bay) (s : State) : Option State :=
  match (s.bay b).state with
  | .releasing d =>
    let p := s.positioner b
    if s.workOn b then none
    else if p.state ≠ .parked ∧ p.state ≠ .retracting ∧ !(p.state = .fault ∧ s.resetInProgress) ∧
        !heldPark p then
      some (s.givePark b .bay)
    else if p.state = .parked ∧ needsStop (s.spindle b) then some (s.stopRequest b)
    else if (s.bay b).parkDetect.accepted ∧ (s.spindle b).phase = .stopped then some (s.releaseLock b d)
    else none
  | _ => none

/-- R23, R175: the run-down of a bay while Reset in Progress shows: the heads parked once, the spindle
stopped, the lock released. The Lock of a bay that a removal has taken to EMPTY is released here too, once the
spindle is STOPPED, and not at the removal (DESIGN CHOICE: log 63). -/
def runDown (b : Bay) (s : State) : Option State :=
  let p := s.positioner b
  if !s.resetInProgress ∨ s.workOn b then none
  else if (s.bay b).runDownPark then
    let given := s.modBay b (fun c => { c with runDownPark := false })
    if p.state.loaded ∨ ((s.bay b).state = .fault ∧ p.state = .fault) then some (given.givePark b .bay)
    else some given
  else if p.state ≠ .parked ∧ p.state ≠ .fault then none
  else if needsStop (s.spindle b) then some (s.stopRequest b)
  else if (s.spindle b).phase = .stopped ∧ (s.bay b).lock then
    match (s.bay b).state with
    | .releasing d => some (s.releaseLock b d)
    | _ => some (s.modBay b (fun c => { c with lock := false }))
  else none

/-- R13: the Eject solenoid de-energized. -/
def solenoidOff (c : BayControl) : BayControl := { c with eject := false, pulse := none }

/-- R13: the pulse begins when the four conditions hold, and ends when one stops holding. -/
def driveEject (b : Bay) (s : State) : Option State :=
  let c := s.bay b
  if c.state = .ejecting ∧ c.startBound.isSome ∧ s.ejectAllowed b ∧ !s.supply.accepted then
    some (s.modBay b pulseBegun)
  else if c.eject ∧ !s.ejectAllowed b then
    some (s.modBay b solenoidOff)
  else none

/-! ### The Dispatcher -/

/-- The first entry, oldest first, for which something can be done. -/
def firstEntry (f : State → Entry → Option State) (s : State) : Option State :=
  s.entries.findSome? (f s)

/-- R136: hand-over of an ended task. -/
def handOverEntry (s : State) (e : Entry) : Option State :=
  if s.handsOver e then some (s.handOver e) else none

/-- R138: the start of an entry whose turn has come. -/
def startEntry (s : State) (e : Entry) : Option State :=
  if (e.state = .queued ∨ e.state = .waiting) ∧ e.ending = none ∧ s.turnCome e ∧ !s.supply.accepted then
    some (s.start e)
  else none

/-- R136: a QUEUED entry that no older unfinished task holds back by a bay is WAITING. -/
def waitEntry (s : State) (e : Entry) : Option State :=
  if e.state = .queued ∧ e.ending = none ∧ s.bayTurn e then
    some (s.modEntry e.id (fun f => { f with state := .waiting }))
  else none

/-! ### The Link Port -/

/-- R161, R162: whether an access of the chain walk has still to run to its end where the link leaves
RUNNING: a take that has come to step 1, or the write of a Link Fault (DEDUCED: log 17). -/
def State.takeStands (s : State) : Bool :=
  match s.link.fetch with
  | .idle | .readLink => false
  | .readBlock a => s.burst.any (fun x => x.work == BurstWork.readBlock a)
  | .stamp .. | .writeCursor | .writeTaken | .writeFault _ => true

/-- R157: "with the queue already empty ... at once": a DRAINING whose queue is empty passes to OFFLINE. -/
def goOfflineNow (s : State) : Option State :=
  if s.link.state = .draining ∧ s.entries = [] ∧ !s.takeStands then some s.enterOffline else none

/-- Whether the burst in progress is one of the fetcher's. -/
def State.fetcherBusy (s : State) : Bool :=
  s.burst.any (fun x =>
    match x.work with
    | .slot _ | .finish _ | .record .. => false
    | _ => true)

/-- R162, R167: "A take not yet at step 1 when the link leaves RUNNING is not made", also where its link
read is in progress. In a Part Reset the link stays RUNNING, and a fetch begun "runs to its end" (R175;
DEDUCED: log 57). -/
def withdrawFetch (s : State) : Option State :=
  if s.link.state = .running ∨ s.takeStands then none
  else
    match s.link.fetch with
    | .readLink | .readBlock _ => some (s.modLink (fun l => { l with fetch := .idle }))
    | _ => none

/-- R161: Posted Count minus Taken Count, modulo 65,536. -/
def State.postedAhead (s : State) : Nat := (s.hostFields.posted - s.counts.taken).toNat

/-- R159 to R161: whether the fetcher goes on to the Posted Count: it may fetch, and has neither an access in
progress nor the write of a Start or of a cleared Link Fault to make. The re-read of a held Attention comes
first, and what it brings is looked at after it (DEDUCED: log 50). -/
def State.fetcherFree (s : State) : Bool :=
  s.mayFetch && s.link.fetch == .idle && !s.link.attentionHeld && !s.link.startWrite &&
    !s.link.faultClear && !s.fetcherBusy

/-- R159 to R161: the Posted Count last read is checked for skew, whatever the queue holds: a difference above
32,768 is a COUNT SKEW. Otherwise the fetcher takes a block when work is posted and the queue has a place. A
poll that is due is made "before the next take is begun". -/
def beginFetch (s : State) : Option State :=
  if s.fetcherFree then
    if 32768 < s.postedAhead then some (s.modLink (fun l => { l with fetch := .writeFault .countSkew }))
    else if 0 < s.postedAhead ∧ !s.link.pollDue ∧ s.entries.length < Config.queueSize then
      some (s.modLink (fun l => { l with fetch := .readLink }))
    else none
  else none

/-! ### All waits -/

/-- A rule of one bay tried for bay 0 and then for bay 1. -/
def eachBay (f : Bay → State → Option State) (s : State) : Option State := (f .bay0 s).or (f .bay1 s)

/-- The waits, in the order in which they are looked at (DESIGN CHOICE: log 10). -/
def waits : List (State → Option State) :=
  [deliverPress, eachBay restartSensing, leaveHalted, eachBay changeHead, eachBay leaveFault,
    firstEntry State.reportStop, firstEntry State.tidyEntry, releaseOrphan, State.serveWaiter,
    eachBay takeHeldPark, serveWaitingBay, endUnreliable, eachBay stopIdle, eachBay advanceRelease,
    eachBay runDown, eachBay takeHeldOrder, eachBay advanceMount, eachBay driveEject,
    firstEntry State.abortEntry, firstEntry State.advanceEntry, firstEntry State.takeAhead,
    eachBay makeRequest, firstEntry handOverEntry, firstEntry startEntry, firstEntry waitEntry,
    goOfflineNow, withdrawFetch, beginFetch]

/-- The first wait of a list that has ended. -/
def firstWait (s : State) : List (State → Option State) → Option State
  | [] => none
  | f :: rest =>
    match f s with
    | some t => some t
    | none => firstWait s rest

/-- Waits that have ended go on, one after another, until none is left. -/
def settle : Nat → State → State
  | 0, s => s
  | n + 1, s =>
    match firstWait s waits with
    | some t => settle n t
    | none => s

/-- How many waits one event lets go on at most. -/
def settleFuel : Nat := 400

/-! ### Interlocks (R13, R98) -/

/-- R98: whether every condition of the write gate holds of the bay that has the channel, on the cylinder
of its run. -/
def State.gateHolds (s : State) (b : Bay) : Bool :=
  (s.channelRun b).any (fun r => s.gateAllowed b r.cylinder)

/-- R98: "If any condition stops holding while the gate is asserted, the gate is deasserted at once". -/
def State.gateInterlocked (s : State) : State :=
  if s.channel.writeGate then
    match s.channel.grant with
    | some b => if s.gateHolds b then s else s.loseChannel b
    | none => s.modChannel (fun c => { c with writeGate := false })
  else s

/-- R13: "If any of the four conditions stops holding during the pulse, the solenoid is de-energized at
once". -/
def State.ejectInterlocked (s : State) (b : Bay) : State :=
  if (s.bay b).eject ∧ !s.ejectAllowed b then s.modBay b solenoidOff else s

/-- The two interlocks, which stand over the lines at the end of every instant. -/
def State.interlocked (s : State) : State :=
  (s.gateInterlocked.ejectInterlocked .bay0).ejectInterlocked .bay1

/-! ### Timers that run by condition (R21, R160, R165) -/

/-- A timer that runs while a condition holds and starts from 0. -/
def timerWhile (runs : Bool) (t : Option Nat) : Option Nat :=
  if runs then t.or (some 0) else none

/-- R21: the conditions of the idle timer. -/
def State.idleHolds (s : State) (b : Bay) : Bool := s.ready b && !s.entries.any (fun e => e.names b)

/-- R21: the idle timer, which counts while its conditions hold. Stopped at the Idle Limit it "starts from 0
when all hold again", and not before, also where the Idle Limit changes meanwhile (R170; DESIGN CHOICE: log
69). -/
def idleUpdated (holds : Bool) (c : BayControl) : BayControl :=
  { c with idle := timerWhile (holds && !c.idleSpent) c.idle, idleSpent := holds && c.idleSpent }

/-- R165: the conditions of the refresh timer. -/
def State.refreshRuns (s : State) (b : Bay) : Bool :=
  (s.spindle b).phase != .stopped && s.link.state.reports

/-- R160, R175: the conditions of the poll timer. -/
def State.pollRuns (s : State) : Bool :=
  s.link.state == .running && s.hostFields.pollInterval != 0#16 && !s.resetInProgress

/-- The timers that run by condition started and stopped, by what holds at the end of the instant: a
condition that fails and holds again within it leaves the count (DESIGN CHOICE: log 62). -/
def State.timersUpdated (s : State) : State :=
  { s with
    bays := ⟨idleUpdated (s.idleHolds .bay0) s.bays.bay0, idleUpdated (s.idleHolds .bay1) s.bays.bay1⟩
    link := { s.link with
      refreshTimer := ⟨timerWhile (s.refreshRuns .bay0) s.link.refreshTimer.bay0,
        timerWhile (s.refreshRuns .bay1) s.link.refreshTimer.bay1⟩
      pollTimer := timerWhile s.pollRuns s.link.pollTimer } }

/-- The next instant, at which an event is taken. -/
def State.nextInstant (s : State) : State := { s with instant := s.instant + 1 }

/-- The end of an instant: the interlocks, then the timers that run by condition and the output lines. -/
def State.closed (s : State) : State := s.interlocked.timersUpdated.linesUpdated

/-- Everything that follows in the same instant once an event has been taken: the waits that have ended,
and the end of the instant. -/
def State.instantEnd (s : State) : State := (settle settleFuel s).closed

/-- An event taken at an instant of its own, and the waits it lets go on. -/
def State.follow (s : State) (f : State → State) : State := settle settleFuel (f s.nextInstant)

/-- An event taken, and everything that follows from it in the same instant. -/
def perform (f : State → State) (s : State) : State := (f s.nextInstant).instantEnd

end Sys2Proof.Machine
end

