-- ==== Sys2Proof/Machine/BayEvents.lean ====
section
/-!
DEFINITION. The meanings of the acceptances of the bay inputs (spec/01 section 1.1). An acceptance of the
value that is accepted already, or one while no samples are taken, changes nothing (DESIGN CHOICE:
log 11). An acceptance brings the input level with it (DESIGN CHOICE: log 3).
-/

namespace Sys2Proof.Machine

/-- One bay's input levels changed. -/
def State.modPins (s : State) (b : Bay) (f : BayPins → BayPins) : State :=
  { s with pins := { s.pins with bays := s.pins.bays.update b f } }

/-! ### Present -/

/-- The accepted Present of a bay set, with its run at 0. -/
def State.setPresent (s : State) (b : Bay) (v : Bool) : State :=
  (s.modPins b (fun x => { x with present := v })).modBay b (fun c =>
    { c with present := ⟨v, 0⟩, presentUndecided := false })

/-- R5, R6, R175: Present accepted true. -/
def takePresentTrue (b : Bay) (s : State) : State :=
  let c := s.bay b
  if c.sensing ∧ !c.presentUndecided ∧ !c.present.accepted then
    let t := s.setPresent b true
    if c.state = .empty ∧ !s.resetInProgress then t.insert b else t
  else s

/-- PRESENT_ACCEPTED_TRUE (R5). -/
def execPresentAcceptedTrue (b : Bay) (s : State) : Host.Outcome State Fault Refusal :=
  .next (perform (takePresentTrue b) s)

/-- R6, R14, R15, R23: Present accepted false, taken by the Bay State. -/
def State.removed (s : State) (b : Bay) : State :=
  match (s.bay b).state with
  | .empty => s
  | .seated | .ejecting => s.ordinaryRemoval b
  | _ => if s.resetInProgress then s.ordinaryRemoval b else s.unexpectedRemoval b

/-- R6: Present accepted false. -/
def takePresentFalse (b : Bay) (s : State) : State :=
  let c := s.bay b
  if c.sensing ∧ !c.presentUndecided ∧ c.present.accepted then (s.setPresent b false).removed b else s

/-- PRESENT_ACCEPTED_FALSE (R6). -/
def execPresentAcceptedFalse (b : Bay) (s : State) : Host.Outcome State Fault Refusal :=
  .next (perform (takePresentFalse b) s)

/-- R24: the undecided Present decided. In Reset in Progress it is only a value (DEDUCED: log 30). -/
def takePresentDecided (b : Bay) (v : Bool) (s : State) : State :=
  if (s.bay b).sensing ∧ (s.bay b).presentUndecided then
    let t := s.setPresent b v
    if v then (if s.resetInProgress then t else t.insert b)
    else if (s.bay b).state = .seated then t.ordinaryRemoval b
    else t
  else s

/-- PRESENT_DECIDED (R24). -/
def execPresentDecided (b : Bay) (v : Bool) (s : State) : Host.Outcome State Fault Refusal :=
  .next (perform (takePresentDecided b v) s)

/-! ### Write Protect (R1, R99, R145) -/

/-- R100, R145: a Format Track whose last data field has ended waits only for its closing index. -/
def State.formatClosing (s : State) (b : Bay) (e : Entry) : Bool :=
  e.kind == some .formatTrack && s.channel.grant == some b && s.channel.format == .closing

/-- R99, R145: Write Protect accepted true reaches the tasks that write to the bay's medium, before their
last field has ended: a field being written there, or a track being laid, is cut without a failure. -/
def State.protect (s : State) (b : Bay) : State :=
  let writing := s.channel.grant == some b &&
    (s.channel.search == .writing || s.channel.format == .laying)
  (if writing then s.loseChannel b else s).endTasksOn b (fun e => e.writesTo b && !s.formatClosing b e)
    .writeProtected

/-- R1, R6: Write Protect accepted. -/
def takeWriteProtect (b : Bay) (v : Bool) (s : State) : State :=
  if (s.bay b).sensing ∧ (s.bay b).writeProtect.accepted ≠ v then
    let t := (s.modPins b (fun x => { x with writeProtect := v })).modBay b (fun c =>
      { c with writeProtect := ⟨v, 0⟩ })
    if v then t.protect b else t
  else s

/-- WRITE_PROTECT_ACCEPTED (R1, R99). -/
def execWriteProtectAccepted (b : Bay) (v : Bool) (s : State) : Host.Outcome State Fault Refusal :=
  .next (perform (takeWriteProtect b v) s)

/-! ### Eject Button (R2, R98) -/

/-- R98: a press while the write gate is asserted for the bay is held; any other is taken at once. -/
def State.pressed (s : State) (b : Bay) : State :=
  if s.channel.grant = some b ∧ s.channel.writeGate then
    if s.resetInProgress || (s.bay b).presentUndecided then s
    else s.modChannel (fun c => { c with heldPress := some b })
  else s.press b

/-- R2: the Eject Button accepted pressed. -/
def takeButtonPress (b : Bay) (s : State) : State :=
  if (s.bay b).sensing ∧ !(s.bay b).button.accepted then
    ((s.modPins b (fun x => { x with ejectButton := true })).modBay b (fun c =>
      { c with button := ⟨true, 0⟩ })).pressed b
  else s

/-- EJECT_BUTTON_PRESS (R2). -/
def execEjectButtonPress (b : Bay) (s : State) : Host.Outcome State Fault Refusal :=
  .next (perform (takeButtonPress b) s)

/-- R2: the Eject Button accepted released produces no event. -/
def takeButtonReleased (b : Bay) (s : State) : State :=
  if (s.bay b).sensing ∧ (s.bay b).button.accepted then
    (s.modPins b (fun x => { x with ejectButton := false })).modBay b (fun c =>
      { c with button := ⟨false, 0⟩ })
  else s

/-- EJECT_BUTTON_RELEASED (R2). -/
def execEjectButtonReleased (b : Bay) (s : State) : Host.Outcome State Fault Refusal :=
  .next (perform (takeButtonReleased b) s)

/-! ### Park Detect (R1, R78, R80) -/

/-- R82, R57: a retract of a bay whose sampling has stopped (R24) runs to its end on the Positioner's own
view of Park Detect, which is the park hold; the Bay Controller's accepted value and run stand (DEDUCED:
log 34). -/
def State.rampWatched (s : State) (b : Bay) : Bool :=
  !(s.bay b).sensing && (s.positioner b).state == .retracting

/-- The accepted Park Detect of a bay set, with its run at 0. -/
def State.setParkDetect (s : State) (b : Bay) (v : Bool) : State :=
  (s.modPins b (fun x => { x with parkDetect := v })).modBay b (fun c => { c with parkDetect := ⟨v, 0⟩ })

/-- R78: in RETRACTING the park hold starts, and the retract timer stands. -/
def holdBegun (p : Positioner) : Positioner :=
  if p.state = .retracting then { p with parkHold := p.parkHold.or (some 0), rampRun := 0 } else p

/-- R78: a park hold abandoned, the retract timer running on. -/
def holdAbandoned (p : Positioner) : Positioner := { p with parkHold := none, rampRun := 0 }

/-- R78: Park Detect accepted true. -/
def takeParkTrue (b : Bay) (s : State) : State :=
  if s.rampWatched b then
    if (s.positioner b).parkHold = none then
      (s.modPins b (fun x => { x with parkDetect := true })).modPositioner b holdBegun
    else s
  else if (s.bay b).sensing ∧ !(s.bay b).parkDetect.accepted then
    (s.setParkDetect b true).modPositioner b holdBegun
  else s

/-- PARK_DETECT_ACCEPTED_TRUE (R78). -/
def execParkDetectAcceptedTrue (b : Bay) (s : State) : Host.Outcome State Fault Refusal :=
  .next (perform (takeParkTrue b) s)

/-- R78, R80: Park Detect accepted false: a park hold is abandoned; heads that have left the ramp retract
again. -/
def takeParkFalse (b : Bay) (s : State) : State :=
  if s.rampWatched b then
    if (s.positioner b).parkHold.isSome then
      (s.modPins b (fun x => { x with parkDetect := false })).modPositioner b holdAbandoned
    else s
  else if (s.bay b).sensing ∧ (s.bay b).parkDetect.accepted then
    let t := s.setParkDetect b false
    match (s.positioner b).state with
    | .retracting => t.modPositioner b holdAbandoned
    | .parked => t.beginRetract b
    | _ => t
  else s

/-- PARK_DETECT_ACCEPTED_FALSE (R78, R80). -/
def execParkDetectAcceptedFalse (b : Bay) (s : State) : Host.Outcome State Fault Refusal :=
  .next (perform (takeParkFalse b) s)

end Sys2Proof.Machine
end

