-- ==== Sys2Proof/Machine/PositionerEvents.lean ====
section
/-!
DEFINITION. The meanings of the events of a Positioner (spec/03). An expiry of a timer that does not run,
and an event in a state that takes none, change nothing (DESIGN CHOICE: log 11).
-/

namespace Sys2Proof.Machine

/-! ### Outer Guard (R57, R61, R63, R71) -/

/-- R57: Outer Guard accepted true, taken by the Actuator State. -/
def State.guardEntered (s : State) (b : Bay) : State :=
  let p := s.positioner b
  match p.state with
  | .loading => s.modPositioner b (recalibrateBegun s.settings)
  | .recalibrating => s.modPositioner b (fun q => { q with recalLeg := .inward })
  | .seeking | .settling | .following => s.overrun b
  | .stopping => s.modPositioner b (fun q => { q with known := false })
  | _ => s

/-- R57, R63: Outer Guard accepted false: the edge on the inward leg of a recalibrate. -/
def State.guardLeft (s : State) (b : Bay) : State :=
  let p := s.positioner b
  if p.state = .recalibrating ∧ p.recalLeg = .inward then s.modPositioner b (edgeFound s.settings) else s

/-- R57: Outer Guard accepted. -/
def takeOuterGuard (b : Bay) (v : Bool) (s : State) : State :=
  if (s.positioner b).outerGuard.accepted ≠ v then
    let t := (s.modPins b (fun x => { x with outerGuard := v })).modPositioner b (fun p =>
      { p with outerGuard := ⟨v, 0⟩ })
    if v then t.guardEntered b else t.guardLeft b
  else s

/-- OUTER_GUARD_ACCEPTED (R57). -/
def execOuterGuardAccepted (b : Bay) (v : Bool) (s : State) : Host.Outcome State Fault Refusal :=
  .next (perform (takeOuterGuard b v) s)

/-! ### Crossings (R55, R56, R64 to R71, R75) -/

/-- R55, R65: a crossing counted, with its interval and direction. -/
def crossingCounted (d : Direction) (elapsed : Nat) (p : Positioner) : Positioner :=
  { p with
    counter := countCrossing d p.counter
    vmeas := crossingVelocity (min Config.crossingSilence (p.crossTimer + elapsed))
    crossTimer := 0, velTimer := 0, lastDirection := d
    crossA := (quadratureNext d (p.crossA, p.crossB)).1
    crossB := (quadratureNext d (p.crossA, p.crossB)).2 }

/-- R71: the Track Counter has left the recorded cylinders. -/
def outOfCylinders (p : Positioner) : Bool := decide (p.counter < 0 ∨ 638 < p.counter)

/-- R64: an outward crossing in RECALIBRATING counted. -/
def outwardCounted (d : Direction) (p : Positioner) : Positioner :=
  if d = .outward then { p with outwardCount := p.outwardCount + 1 } else p

/-- R64, R68, R70, R71, R75: what a crossing brings in each Actuator State. -/
def State.crossed (s : State) (b : Bay) (d : Direction) : State :=
  let p := s.positioner b
  match p.state with
  | .recalibrating =>
    let t := s.modPositioner b (outwardCounted d)
    if Config.outwardLimit ≤ (t.positioner b).outwardCount then t.seekFault b false
    else t.modPositioner b demandComputed
  | .seeking =>
    if outOfCylinders p then s.overrun b
    else if p.counter = (p.target : Int) then s.modPositioner b (settlingEntered s.settings)
    else s.modPositioner b demandComputed
  | .settling => if outOfCylinders p then s.overrun b else s.modPositioner b (reseekBegun s.settings)
  | .following =>
    if outOfCylinders p then s.overrun b
    else (s.interruptChannel b).modPositioner b (reseekBegun s.settings)
  | .stopping =>
    s.modPositioner b (fun q => demandComputed { q with known := q.known && !outOfCylinders q })
  | _ => s

/-- R55: a track crossing. -/
def takeCrossing (b : Bay) (d : Direction) (elapsed : Nat) (s : State) : State :=
  ((s.modPins b (fun x =>
      { x with
        crossA := (quadratureNext d ((s.positioner b).crossA, (s.positioner b).crossB)).1
        crossB := (quadratureNext d ((s.positioner b).crossA, (s.positioner b).crossB)).2 })).modPositioner
    b (crossingCounted d elapsed)).crossed b d

/-- TRACK_CROSSING (R55). -/
def execTrackCrossing (b : Bay) (d : Direction) (elapsed : Nat) (s : State) :
    Host.Outcome State Fault Refusal :=
  .next (perform (takeCrossing b d elapsed) s)

/-- R56: a Crossing Error by the Actuator State. -/
def State.crossingLost (s : State) (b : Bay) : State :=
  let unknown := s.modPositioner b (fun p => { p with known := false })
  match (s.positioner b).state with
  | .seeking | .settling => unknown.seekFault b false
  | .following => unknown.seekFault b true
  | .stopping => unknown
  | _ => s

/-- R56: both crossing inputs change between the same two samples. -/
def takeCrossingError (b : Bay) (s : State) : State :=
  ((s.modPins b (fun x =>
      { x with crossA := !(s.positioner b).crossA, crossB := !(s.positioner b).crossB })).modPositioner b
    (fun p => { p with crossA := !p.crossA, crossB := !p.crossB })).crossingLost b

/-- CROSSING_ERROR (R56). -/
def execCrossingError (b : Bay) (s : State) : Host.Outcome State Fault Refusal :=
  .next (perform (takeCrossingError b) s)

/-- R65, R67, R75: 2,000 µs without a crossing: Vmeas 0, which ends the velocity leg of a controlled
stop, and the demand is recomputed in the other motions. -/
def crossingsSilent (t : Settings) (p : Positioner) : Positioner :=
  let still := { p with crossTimer := Config.crossingSilence, vmeas := 0 }
  match p.state with
  | .stopping => velocityLegEnded t still
  | .seeking | .recalibrating => demandComputed still
  | _ => still

/-- R65: the crossing timer reaches 2,000 µs. -/
def takeCrossingSilence (b : Bay) (s : State) : State := s.modPositioner b (crossingsSilent s.settings)

/-- CROSSING_TIMER_EXPIRY (R65). -/
def execCrossingTimerExpiry (b : Bay) (s : State) : Host.Outcome State Fault Refusal :=
  .next (perform (takeCrossingSilence b) s)

/-- R67: the states in which the velocity loop runs. -/
def Actuator.underLoop : Actuator → Bool
  | .recalibrating | .seeking | .stopping => true
  | _ => false

/-- R67: the demand recomputed without a crossing. -/
def takeRecompute (b : Bay) (s : State) : State :=
  if (s.positioner b).state.underLoop then s.modPositioner b demandComputed else s

/-- VELOCITY_RECOMPUTE (R67). -/
def execVelocityRecompute (b : Bay) (s : State) : Host.Outcome State Fault Refusal :=
  .next (perform (takeRecompute b) s)

/-! ### Settle (R69) -/

/-- R69: the Settle Time is over and On Track is sampled from here on. -/
def samplingBegun (p : Positioner) : Positioner :=
  if p.state = .settling ∧ p.settleWait.isSome then
    { p with settleWait := none, sampling := true, sampleTimer := 0, onTrackCount := 0 }
  else p

/-- R69: the end of the Settle Time. -/
def takeSettleEnd (b : Bay) (s : State) : State := s.modPositioner b samplingBegun

/-- SETTLE_TIME_END (R69). -/
def execSettleTimeEnd (b : Bay) (s : State) : Host.Outcome State Fault Refusal :=
  .next (perform (takeSettleEnd b) s)

/-- R69: the on-track count reaches the On-Track Count. -/
def takeOnTrack (b : Bay) (s : State) : State :=
  if (s.positioner b).state = .settling ∧ (s.positioner b).sampling then
    (s.modPins b (fun x => { x with onTrack := true })).enterFollowing b
  else s

/-- ON_TRACK_COUNT_REACHED (R69). -/
def execOnTrackCountReached (b : Bay) (s : State) : Host.Outcome State Fault Refusal :=
  .next (perform (takeOnTrack b) s)

/-! ### Limits (R62, R64, R68, R69, R75, R79) -/

/-- R69: the settle limit expires. -/
def takeSettleLimit (b : Bay) (s : State) : State :=
  if (s.positioner b).settleLimit.isSome then s.seekFault b false else s

/-- SETTLE_LIMIT_EXPIRY (R69). -/
def execSettleLimitExpiry (b : Bay) (s : State) : Host.Outcome State Fault Refusal :=
  .next (perform (takeSettleLimit b) s)

/-- R68: the Seek Limit expires. -/
def takeSeekLimit (b : Bay) (s : State) : State :=
  if (s.positioner b).seekTimer.isSome then s.seekFault b false else s

/-- SEEK_LIMIT_EXPIRY (R68). -/
def execSeekLimitExpiry (b : Bay) (s : State) : Host.Outcome State Fault Refusal :=
  .next (perform (takeSeekLimit b) s)

/-- R64: the recalibrate timer expires. -/
def takeRecalibrateLimit (b : Bay) (s : State) : State :=
  if (s.positioner b).recalTimer.isSome then s.seekFault b false else s

/-- RECALIBRATE_TIMER_EXPIRY (R64). -/
def execRecalibrateTimerExpiry (b : Bay) (s : State) : Host.Outcome State Fault Refusal :=
  .next (perform (takeRecalibrateLimit b) s)

/-- R75: the stop limit expires. -/
def takeStopLimit (b : Bay) (s : State) : State :=
  if (s.positioner b).stopTimer.isSome then s.seekFault b false else s

/-- STOP_LIMIT_EXPIRY (R75). -/
def execStopLimitExpiry (b : Bay) (s : State) : Host.Outcome State Fault Refusal :=
  .next (perform (takeStopLimit b) s)

/-- R62: the load timer expires. -/
def takeLoadFault (b : Bay) (s : State) : State :=
  if (s.positioner b).loadTimer.isSome then s.loadFaulted b else s

/-- LOAD_FAULT (R62). -/
def execLoadFault (b : Bay) (s : State) : Host.Outcome State Fault Refusal :=
  .next (perform (takeLoadFault b) s)

/-- R79: the retract timer expires before the hold. -/
def takeRetractLimit (b : Bay) (s : State) : State :=
  if (s.positioner b).state = .retracting ∧ (s.positioner b).parkHold = none then
    (s.failRetract b).takeActuatorFault b
  else s

/-- RETRACT_LIMIT_EXPIRY (R79). -/
def execRetractLimitExpiry (b : Bay) (s : State) : Host.Outcome State Fault Refusal :=
  .next (perform (takeRetractLimit b) s)

/-- R78: the park hold ends. -/
def takeHoldEnd (b : Bay) (s : State) : State :=
  if (s.positioner b).state = .retracting ∧ (s.positioner b).parkHold.isSome then s.enterParked b else s

/-- PARK_HOLD_END (R78). -/
def execParkHoldEnd (b : Bay) (s : State) : Host.Outcome State Fault Refusal :=
  .next (perform (takeHoldEnd b) s)

end Sys2Proof.Machine
end

