-- ==== Sys2Proof/Machine/SpindleEvents.lean ====
section
/-!
DEFINITION. The meanings of the events of a Spindle Controller (spec/02): marks, its limits, the PWM
period and the index.
-/

namespace Sys2Proof.Machine

/-! ### TACH_MARK (R26 to R39) -/

/-- R37: a mark in ACCELERATING or DRIFTING counts stability and may lock the spindle. -/
def State.markStability (s : State) (b : Bay) : State :=
  let t := s.modSpindle b (stabilityCounted s.settings)
  if stabilityMet s.settings (t.spindle b) then t.enterSpindleLocked b else t

/-- R37, R38: the phase check of a mark in the phase in force at it. -/
def State.markPhase (s : State) (b : Bay) : State :=
  match (s.spindle b).phase with
  | .accelerating | .drifting => s.markStability b
  | .locked => if bandLeft s.settings (s.spindle b) then s.enterDrifting b else s
  | _ => s

/-- R39: a mark in DRIFTING, after any phase change made at it, below Fly Speed is a Speed Lost. -/
def State.markFly (s : State) (b : Bay) : State :=
  if (s.spindle b).phase = .drifting ∧ speedLost (s.spindle b) then s.spinFault b .speedLost else s

/-- R27: the revolution event of a mark, given to the channel. -/
def State.markRevolution (s : State) (b : Bay) (turns : Bool) : State :=
  if turns then s.revolution b else s

/-- R26: a mark, "processed whole ... in this order: period and history, revolution count, Measured Speed,
then the phase checks and the speed law of the phase in force". -/
def takeMark (b : Bay) (elapsed : Nat) (s : State) : State :=
  if (s.spindle b).phase.takesMarks then
    let recorded := (s.modSpindle b (fun q => markTimed (markCounted (markRecorded elapsed q)))).markRevolution
      b (markTurns (s.spindle b))
    ((recorded.markPhase b).markFly b).modSpindle b (lawRun s.settings)
  else s

/-- TACH_MARK (R26). -/
def execTachMark (b : Bay) (elapsed : Nat) (s : State) : Host.Outcome State Fault Refusal :=
  .next (perform (takeMark b elapsed) s)

/-! ### Limits (R32, R33, R39, R40, R43) -/

/-- R32: the start timer expires. -/
def takeStartLimit (b : Bay) (s : State) : State :=
  if (s.spindle b).phase = .starting then s.spinFault b .spinFault else s

/-- START_TIMER_EXPIRY (R32). -/
def execStartTimerExpiry (b : Bay) (s : State) : Host.Outcome State Fault Refusal :=
  .next (perform (takeStartLimit b) s)

/-- R33: the Spin-Up Limit is reached while STARTING or ACCELERATING. -/
def takeSpinUpLimit (b : Bay) (s : State) : State :=
  if (s.spindle b).phase = .starting ∨ (s.spindle b).phase = .accelerating then s.spinFault b .spinFault
  else s

/-- SPIN_UP_LIMIT_EXPIRY (R33). -/
def execSpinUpLimitExpiry (b : Bay) (s : State) : Host.Outcome State Fault Refusal :=
  .next (perform (takeSpinUpLimit b) s)

/-- R40: 100 ms without a mark in ACCELERATING, LOCKED or DRIFTING. -/
def takeSilence (b : Bay) (s : State) : State :=
  if (s.spindle b).phase.runsLaw then s.spinFault b .spinFault else s

/-- MARK_SILENCE (R40). -/
def execMarkSilence (b : Bay) (s : State) : Host.Outcome State Fault Refusal :=
  .next (perform (takeSilence b) s)

/-- R39: the drift timer reaches the Relock Limit. -/
def takeDriftLimit (b : Bay) (s : State) : State :=
  if (s.spindle b).phase = .drifting then s.spinFault b .speedLost else s

/-- DRIFT_TIMER_EXPIRY (R39). -/
def execDriftTimerExpiry (b : Bay) (s : State) : Host.Outcome State Fault Refusal :=
  .next (perform (takeDriftLimit b) s)

/-- R43: the stop timer expires. -/
def takeStopped (b : Bay) (s : State) : State :=
  if (s.spindle b).phase = .stopping then s.enterStopped b else s

/-- STOP_TIMER_EXPIRY (R43). -/
def execStopTimerExpiry (b : Bay) (s : State) : Host.Outcome State Fault Refusal :=
  .next (perform (takeStopped b) s)

/-! ### PWM_PERIOD_BOUNDARY (R36, R42) -/

/-- R36: the line during the first step of a period (DESIGN CHOICE: log 26). -/
def lineStarted (q : Spindle) : Spindle := { q with pwm := decide (0 < q.dutyActive) }

/-- R36: the start of a PWM period. -/
def takePeriod (b : Bay) (s : State) : State := s.modSpindle b (fun q => lineStarted (periodBegun q))

/-- PWM_PERIOD_BOUNDARY (R36). -/
def execPwmPeriodBoundary (b : Bay) (s : State) : Host.Outcome State Fault Refusal :=
  .next (perform (takePeriod b) s)

/-! ### Index (R48 to R50) -/

/-- What the index check makes of a pulse at a time after its reference instant (R48, R49): accepted
where there is no reference yet or within the window. -/
def indexAccepted (q : Spindle) (elapsed : Nat) : Bool :=
  !q.indexArmed ||
    match q.indexSince with
    | none => true
    | some n =>
      decide (indexPeriod q.activeTarget - indexHalf q.activeTarget ≤ n + elapsed ∧
        n + elapsed ≤ indexPeriod q.activeTarget + indexHalf q.activeTarget)

/-- R48, R49: the reference instant and the miss count after a pulse. A pulse outside the window changes
no state but that time has passed (DESIGN CHOICE: log 24). -/
def indexTaken (elapsed : Nat) (q : Spindle) : Spindle :=
  if q.indexArmed then
    if indexAccepted q elapsed then { q with indexSince := some 0, missCount := 0 }
    else { q with indexSince := q.indexSince.map (fun n => n + elapsed) }
  else q

/-- R48, R49: an index pulse; an accepted one is passed to the channel. -/
def takeIndex (b : Bay) (elapsed : Nat) (s : State) : State :=
  let t := s.modSpindle b (indexTaken elapsed)
  if indexAccepted (s.spindle b) elapsed then t.formatIndex b else t

/-- INDEX_PULSE (R48). -/
def execIndexPulse (b : Bay) (elapsed : Nat) (s : State) : Host.Outcome State Fault Refusal :=
  .next (perform (takeIndex b elapsed) s)

/-- R49: an Index Missing: the miss count raised, and the reference instant advanced by the expected
period. -/
def indexMissed (q : Spindle) : Spindle :=
  match q.indexArmed, q.indexSince with
  | true, some n =>
    { q with
      missCount := raiseTo 255 q.missCount
      indexSince := some (max n (indexPeriod q.activeTarget + indexHalf q.activeTarget) -
        indexPeriod q.activeTarget) }
  | _, _ => q

/-- R49: the window closes without an accepted pulse. -/
def takeIndexMissing (b : Bay) (s : State) : State := s.modSpindle b indexMissed

/-- INDEX_MISSING (R49). -/
def execIndexMissing (b : Bay) (s : State) : Host.Outcome State Fault Refusal :=
  .next (perform (takeIndexMissing b) s)

end Sys2Proof.Machine
end

