-- ==== Sys2Proof/Machine/SupplyEvents.lean ====
section
/-!
DEFINITION. The meanings of the part-wide events (spec/10): Bus Reset, the acceptance of Supply Low, the
supply recovery, and the end of Reset in Progress.
-/

namespace Sys2Proof.Machine

/-! ### SUPPLY_LOW_ACCEPTED -/

/-- R103: the channel at the acceptance: the field cut, everything idle, no Held press, the counts 0. -/
def State.dropChannel (s : State) : State :=
  (match s.channel.grant with
    | some b => s.cutField b
    | none => s).modChannel (fun c =>
    { releasedChannel c with waiting := none, heldPress := none, retryCount := .both 0 })

/-- R154: the end of an unfinished task at Supply Low. An end already decided stands (R145; DEDUCED:
log 56), and a Stop order that has not reported its outcome is no longer awaited (DEDUCED: log 60). -/
def powerLost (e : Entry) : Entry :=
  if e.unfinished then
    { e with
      ending := e.ending.or (some .powerLoss), stage := .draining, run := none, order := .idle
      awaitStop := none, fetching := false }
  else e

/-- R82: the Positioner at the acceptance: loaded heads retract, stranded ones try once more, and orders
are handed back. -/
def State.emergencyHeads (s : State) (b : Bay) : State :=
  let p := s.positioner b
  let back := (s.endOrder b .returned).dropHeld b .returned
  if p.state.loaded ∨ p.state = .fault then back.beginRetract b else back

/-- R44: the Spindle Controller at the acceptance, with its actuator's state. A spindle already STOPPING
keeps a Brake that waits for its PWM boundary (DEDUCED: log 54). -/
def supplyStopped (a : Actuator) (q : Spindle) : Spindle :=
  match q.phase with
  | .stopped => q
  | .pending => stoppedEntered q
  | .stopping => { q with dutyActive := 0, pwm := false, restartHeld := false }
  | _ =>
    let rest := a == .parked || a == .fault
    { stoppingEntered q with
      dutyActive := 0, pwm := false, brakePending := false, brake := rest, brakeDeferred := !rest }

/-- R24, R173: the Bay Controller at the acceptance. -/
def supplyPlaced (c : BayControl) : BayControl :=
  { ejectStopped c with
    state := if c.present.accepted then .seated else .empty
    lock := false, prevent := false, idle := none, retry := none, idleStop := false
    runDownPark := false, sensing := false, presentUndecided := false }

/-- R173: one bay shut down: heads, spindle, bay. -/
def State.shutDown (s : State) (b : Bay) : State :=
  let retracted := (s.clearMount b).emergencyHeads b
  (retracted.modSpindle b (supplyStopped (retracted.positioner b).state)).modBay b supplyPlaced

/-- R167: the Link Port at the acceptance. -/
def linkHalted (l : Link) : Link :=
  if l.state.reports then
    { l with
      state := .halted, haltedFrom := l.state, attentionHeld := false, offlineHeld := false
      pollTimer := none, pollDue := false, refreshTimer := .both none, pendingRecord := .both .none
      recordOrder := [] }
  else l

/-- R172, R173: the acceptance of Supply Low. Further low samples only restart the supply-good timer. -/
def takeSupplyLow (s : State) : State :=
  if s.supply.accepted then { s with supply := { s.supply with goodTimer := some 0 } }
  else
    let dropped := { s with
      supply := ⟨true, 0, some 0⟩, permitHolder := none, permitWaiting := none, waiters := [] }.dropChannel
    let lost := (dropped.modEntries powerLost).dropSlots (fun _ x => x.state != .free)
    let down := (lost.shutDown .bay0).shutDown .bay1
    { down with link := linkHalted down.link, pins := { down.pins with supplyLow := true } }

/-- SUPPLY_LOW_ACCEPTED (R172, R173). -/
def execSupplyLowAccepted (s : State) : Host.Outcome State Fault Refusal :=
  .next (perform takeSupplyLow s)

/-! ### SUPPLY_RECOVERY -/

/-- Spec/03 section 3.12, third column: Target, Head Select and Reseek Used after supply recovery, and of a
PARKED actuator Vmeas and the crossing timer. -/
def headsRecovered (p : Positioner) : Positioner :=
  { p with
    target := 0, headSelect := 0, reseekUsed := false, pendingHead := none
    vmeas := if p.state = .parked then 0 else p.vmeas
    crossTimer := if p.state = .parked then 0 else p.crossTimer }

/-- R172, R174: the supply recovery. -/
def takeSupplyRecovery (s : State) : State :=
  if s.supply.accepted then
    ({ s with supply := ⟨false, 0, none⟩, pins := { s.pins with supplyLow := false } }.modPositioner .bay0
      headsRecovered).modPositioner .bay1 headsRecovered
  else s

/-- SUPPLY_RECOVERY (R172, R174). -/
def execSupplyRecovery (s : State) : Host.Outcome State Fault Refusal :=
  .next (perform takeSupplyRecovery s)

/-! ### RESET_IN_PROGRESS_END -/

/-- R176: one bay's conditions for the end of Reset in Progress. -/
def State.bayRunDown (s : State) (b : Bay) : Bool :=
  ((s.positioner b).state == .parked || (s.positioner b).state == .fault) &&
    (s.spindle b).phase == .stopped && !(s.bay b).lock

/-- R176: when Reset in Progress ends. R175: "A take in progress runs to its end", so it is waited for,
its Cursor and Taken Count writes included (DEDUCED: log 57). -/
def State.resetEnds (s : State) : Bool :=
  s.resetInProgress && s.entries.isEmpty && s.bayRunDown .bay0 && s.bayRunDown .bay1 &&
    s.burst.isNone && !s.link.fetch.inTake && !s.supply.accepted

/-- Spec/02 section 2.12, second column. -/
def spindleReset (q : Spindle) : Spindle :=
  { Spindle.reset with tachLast := q.tachLast, indexLast := q.indexLast }

/-- Spec/03 section 3.12, second column. -/
def positionerReset (p : Positioner) : Positioner :=
  { motionTimersStopped p with
    counter := if p.state = .parked then 0 else p.counter
    known := false, target := 0, headSelect := 0, pendingHead := none, vmeas := 0, crossTimer := 0
    dac := 0, followEnable := false, retract := false, reseekUsed := false, order := none, held := none
    heldBehind := none, recalAfterStop := false, retractRetries := 0 }

/-- Spec/04 section 4.9, second column: the lines keep their values. -/
def channelReset (c : Channel) : Channel :=
  { Channel.reset with baySelect := c.baySelect, headLine := c.headLine }

/-- Spec/01 section 1.11: a bay at the end of Reset in Progress, before any insertion. -/
def bayReset (c : BayControl) : BayControl :=
  { ejectStopped c with
    state := .empty, prevent := false, lock := false, idle := none, retry := none, idleStop := false
    runDownPark := false }

/-- R23, R176: every bay whose Present is accepted true is inserted. -/
def State.insertPresent (s : State) (b : Bay) : State :=
  if (s.bay b).present.accepted ∧ !(s.bay b).presentUndecided then s.insert b else s

/-- R176: what takes its Bus Reset value at the end of Reset in Progress. -/
def State.resetDone (s : State) : State :=
  { s with
    resetInProgress := false
    bays := ⟨bayReset s.bays.bay0, bayReset s.bays.bay1⟩
    spindles := ⟨spindleReset s.spindles.bay0, spindleReset s.spindles.bay1⟩
    positioners := ⟨positionerReset s.positioners.bay0, positionerReset s.positioners.bay1⟩
    maps := .both .reset
    permitHolder := none, permitWaiting := none
    channel := channelReset s.channel
    slots := s.slots.map (fun x => Slot.freed x.data)
    waiters := [], finishing := []
    ports := { Ports.reset with dataOut := s.ports.dataOut }
    counts := .reset, hostFields := .reset, link := .reset, settings := .default }

/-- R176: the end of Reset in Progress, where its conditions hold. -/
def takeResetEnd (s : State) : State :=
  if s.resetEnds then (s.resetDone.insertPresent .bay0).insertPresent .bay1 else s

/-- RESET_IN_PROGRESS_END (R176). -/
def execResetInProgressEnd (s : State) : Host.Outcome State Fault Refusal :=
  .next (perform takeResetEnd s)

/-! ### BUS_RESET -/

/-- A Spindle Controller and a Positioner after Bus Reset: the level an edge is looked for from is the
level that stands (DESIGN CHOICE: log 22). -/
def spindleFresh (x : BayPins) : Spindle := { Spindle.reset with tachLast := x.tach, indexLast := x.index }
def positionerFresh (x : BayPins) : Positioner :=
  { Positioner.reset with crossA := x.crossA, crossB := x.crossB }

/-- R177: every block at its Bus Reset values. What is no block's state stays: the commands that wait,
the levels on the input pins, host memory, the bytes of the RAM, what is on the medium (DESIGN CHOICE:
log 21). A burst in progress ends with none of its words written (DESIGN CHOICE: log 47). -/
def takeBusReset (s : State) : State :=
  { State.reset with
    pending := s.pending
    instant := s.instant
    freeCount := s.freeCount
    pins := s.pins
    spindles := ⟨spindleFresh s.pins.bays.bay0, spindleFresh s.pins.bays.bay1⟩
    positioners := ⟨positionerFresh s.pins.bays.bay0, positionerFresh s.pins.bays.bay1⟩
    hostMem := s.hostMem
    slots := s.slots.map (fun x => Slot.freed x.data)
    nextId := s.nextId
    mediumOut := s.mediumOut }

/-- BUS_RESET (R177). -/
def execBusReset (s : State) : Host.Outcome State Fault Refusal := .next (perform takeBusReset s)

end Sys2Proof.Machine
end

