-- ==== Sys2Proof/Machine/TimerEvents.lean ====
section
/-!
DEFINITION. The meanings of the expiries of the Link Port's and the Bay Controllers' timers. An expiry of
a timer that does not run changes nothing (DESIGN CHOICE: log 11); an expiry is the event, whatever
count the timer shows (DESIGN CHOICE: log 12).
-/

namespace Sys2Proof.Machine

/-- R159, R160: the poll timer reaches the Poll Interval: a re-read of the Posted Count is due, unless a
held Attention serves it. -/
def takePollExpiry (s : State) : State :=
  if s.link.pollTimer.isSome then
    s.modLink (fun l => { l with pollTimer := some 0, pollDue := l.pollDue || !l.attentionHeld })
  else s

/-- POLL_TIMER_EXPIRY (R160). -/
def execPollTimerExpiry (s : State) : Host.Outcome State Fault Refusal := .next (perform takePollExpiry s)

/-- R165: a refresh record of a bay becomes pending if none is. -/
def refreshPending (b : Bay) (l : Link) : Link :=
  if l.pendingRecord.get b = .none then
    { l with
      pendingRecord := l.pendingRecord.update b (fun _ => .refresh)
      recordOrder := if b ∈ l.recordOrder then l.recordOrder else l.recordOrder ++ [b] }
  else l

/-- R165: a bay's refresh timer reaches 1,000 ms. -/
def takeRefreshExpiry (b : Bay) (s : State) : State :=
  if (s.link.refreshTimer.get b).isSome then
    s.modLink (fun l =>
      refreshPending b { l with refreshTimer := l.refreshTimer.update b (fun _ => some 0) })
  else s

/-- REFRESH_TIMER_EXPIRY (R165). -/
def execRefreshTimerExpiry (b : Bay) (s : State) : Host.Outcome State Fault Refusal :=
  .next (perform (takeRefreshExpiry b) s)

/-- R13: the pulse timer expires and the solenoid is de-energized. -/
def pulseEnded (c : BayControl) : BayControl :=
  if c.pulse.isSome then { c with eject := false, pulse := none } else c

/-- R13: the pulse timer expires. -/
def takePulseExpiry (b : Bay) (s : State) : State := s.modBay b pulseEnded

/-- PULSE_TIMER_EXPIRY (R13). -/
def execPulseTimerExpiry (b : Bay) (s : State) : Host.Outcome State Fault Refusal :=
  .next (perform (takePulseExpiry b) s)

/-- R13: the leave timer expires. -/
def takeLeaveExpiry (b : Bay) (s : State) : State :=
  if (s.bay b).leave.isSome then s.failEject b else s

/-- LEAVE_TIMER_EXPIRY (R13). -/
def execLeaveTimerExpiry (b : Bay) (s : State) : Host.Outcome State Fault Refusal :=
  .next (perform (takeLeaveExpiry b) s)

/-- R13: the start-bound timer expires before the pulse began. -/
def takeStartBoundExpiry (b : Bay) (s : State) : State :=
  if (s.bay b).startBound.isSome then s.failEject b else s

/-- START_BOUND_TIMER_EXPIRY (R13). -/
def execStartBoundTimerExpiry (b : Bay) (s : State) : Host.Outcome State Fault Refusal :=
  .next (perform (takeStartBoundExpiry b) s)

/-- R17: the retry timer expires: one retract while the spindle regulates, and no more in any other
phase. -/
def takeRetryExpiry (b : Bay) (s : State) : State :=
  if (s.bay b).retry.isSome then
    let t := s.modBay b (fun c => { c with retry := none })
    if (s.spindle b).phase.regulates then t.givePark b .bay else t
  else s

/-- RETRY_TIMER_EXPIRY (R17). -/
def execRetryTimerExpiry (b : Bay) (s : State) : Host.Outcome State Fault Refusal :=
  .next (perform (takeRetryExpiry b) s)

/-- R21: the idle timer reaches the Idle Limit and stops: the heads are ordered parked, and the spindle is to
stop when they are. -/
def takeIdleExpiry (b : Bay) (s : State) : State :=
  if (s.bay b).idle.isSome ∧ s.settings.idleLimit ≠ 0 then
    (s.modBay b (fun c => { c with idle := none, idleStop := true, idleSpent := true })).givePark b .bay
  else s

/-- IDLE_TIMER_EXPIRY (R21). -/
def execIdleTimerExpiry (b : Bay) (s : State) : Host.Outcome State Fault Refusal :=
  .next (perform (takeIdleExpiry b) s)

end Sys2Proof.Machine
end

