-- ==== Sys2Proof/Machine/Clock.lean ====
section
/-!
DEFINITION. One cycle of the 8 MHz clock, which is what a step does when no command waits (DESIGN CHOICE:
log 1): the inputs that are sampled at every cycle, the 1 µs tick, the PWM period, and the 1 ms
tick. What a cycle finds is taken by the same rules as the command of that name; within a cycle in the
order of this file (DESIGN CHOICE: log 31). Two requests to an arbiter that come of two events of one cycle
reach it together (R45, R90; DEDUCED: log 74).
-/

namespace Sys2Proof.Machine

/-! ### Requests that reach an arbiter together (R45, R90) -/

/-- R45: whether a request of bay 0 has found the permit with bay 1, which another event of the cycle has
granted it: the permit was free at the start of the cycle, and bay 1 held it alone before the event. -/
def State.permitTied (start before after : State) : Bool :=
  start.permitHolder == none && before.permitHolder == some .bay1 && before.permitWaiting == none &&
    after.permitHolder == some .bay1 && after.permitWaiting == some .bay0 &&
    (after.spindle .bay1).phase == .starting

/-- R45: a spindle PENDING after its request, with what the grant that gives way had changed as it was. -/
def grantWithdrawn (before q : Spindle) : Spindle :=
  { stoppedEntered q with
    phase := .pending, activeTarget := before.activeTarget, dutyActive := before.dutyActive
    pwm := before.pwm, startTimer := none, spinUpTimer := none }

/-- R45: of two requests that reach the arbiter together, "bay 0 is granted and bay 1 becomes the Waiting
bay". -/
def State.permitToBay0 (start s : State) : State :=
  ({ s with permitWaiting := some .bay1 }.modSpindle .bay1
    (grantWithdrawn (start.spindle .bay1))).grantPermit .bay0

/-- R90: the same of the channel, where bay 1's run has only begun its search or its arming. -/
def State.channelTied (start before after : State) : Bool :=
  start.channel.grant == none && before.channel.grant == some .bay1 && before.channel.waiting == none &&
    after.channel.grant == some .bay1 && after.channel.waiting == some .bay0 && !after.channel.writeGate

/-- R90: "bay 0 is granted and bay 1 becomes the Waiting bay". -/
def State.channelToBay0 (s : State) : State :=
  (s.modChannel (fun c => { releasedChannel c with waiting := some .bay1 })).grantChannel .bay0

/-- R45, R90: the arbiters after an event of a cycle, from the state before it and the one at the start of the
cycle. Two events of one cycle are together; what one event brings about reaches an arbiter in the order in
which it is made (DEDUCED: log 74). -/
def State.arbitrated (start before after : State) : State :=
  let permitted := if State.permitTied start before after then State.permitToBay0 start after else after
  if State.channelTied start before permitted then settle settleFuel permitted.channelToBay0 else permitted

/-- An event of a cycle that began in `start`, with the waits it lets go on. -/
def State.occur (s start : State) (f : State → State) : State := State.arbitrated start s (s.follow f)

/-- An event that a cycle finds due. -/
def State.fire (s start : State) (due : State → Bool) (f : State → State) : State :=
  if due s then s.occur start f else s

/-- A rule of one bay made for bay 0 and then for bay 1. -/
def State.forBays (s : State) (f : Bay → State → State) : State := f .bay1 (f .bay0 s)

/-- The levels on one bay's inputs. -/
def State.pinsOf (s : State) (b : Bay) : BayPins := s.pins.bays.get b

/-! ### Every cycle: R172, R26, R48, R55 to R57 -/

/-- R172: one sample of the Supply Monitor input. -/
def sampleSupply (start s : State) : State :=
  if s.supply.accepted then
    if s.pins.supplyLow then { s with supply := { s.supply with goodTimer := some 0 } } else s
  else if s.pins.supplyLow then
    if 4 ≤ s.supply.lowRun + 1 then s.occur start takeSupplyLow
    else { s with supply := { s.supply with lowRun := s.supply.lowRun + 1 } }
  else { s with supply := { s.supply with lowRun := 0 } }

/-- The levels of Tach and Index kept for the next sample. -/
def edgesKept (x : BayPins) (q : Spindle) : Spindle := { q with tachLast := x.tach, indexLast := x.index }

/-- R26, R48: a leading edge of Tach is a mark, one of Index an index pulse. -/
def sampleSpindle (start : State) (b : Bay) (s : State) : State :=
  let x := s.pinsOf b
  let q := s.spindle b
  let kept := s.modSpindle b (edgesKept x)
  (kept.fire start (fun _ => x.tach && !q.tachLast) (takeMark b 0)).fire start
    (fun _ => x.index && !q.indexLast) (takeIndex b 0)

/-- R55: the direction of an edge of one crossing input, from the levels after it. -/
def edgeDirection (aChanged a b : Bool) : Direction :=
  if aChanged then (if a ≠ b then .inward else .outward) else (if a = b then .inward else .outward)

/-- R55, R56: one sample of Crossing A and Crossing B. -/
def sampleCrossing (start : State) (b : Bay) (s : State) : State :=
  let x := s.pinsOf b
  let aChanged := x.crossA != (s.positioner b).crossA
  let bChanged := x.crossB != (s.positioner b).crossB
  if aChanged && bChanged then s.occur start (takeCrossingError b)
  else if aChanged || bChanged then
    s.occur start (takeCrossing b (edgeDirection aChanged x.crossA x.crossB) 0)
  else s

/-- R57: one sample of Outer Guard. -/
def sampleGuard (start : State) (b : Bay) (s : State) : State :=
  let v := (s.pinsOf b).outerGuard
  let g := (s.positioner b).outerGuard
  if v = g.accepted then s.modPositioner b (fun p => { p with outerGuard := ⟨g.accepted, 0⟩ })
  else if 4 ≤ g.run + 1 then s.occur start (takeOuterGuard b v)
  else s.modPositioner b (fun p => { p with outerGuard := ⟨g.accepted, g.run + 1⟩ })

/-- R36: the Spindle PWM line at a step of the period. -/
def pwmStep (start : State) (step : Nat) (b : Bay) (s : State) : State :=
  if step = 0 then s.occur start (takePeriod b)
  else s.modSpindle b (fun q => { q with pwm := decide (step < q.dutyActive) })

/-! ### The 1 µs tick: R26, R40, R49, R65, R67, R69 -/

/-- The mark timer and the time since the reference instant of the index. -/
def spindleMicro (q : Spindle) : Spindle :=
  { q with
    markTimer := q.markTimer.map (fun t => min Config.markTop (t + 1))
    indexSince := q.indexSince.map (fun n => n + 1) }

/-- R49: whether the window has closed. -/
def windowClosed (q : Spindle) : Bool :=
  q.indexArmed &&
    q.indexSince.any (fun n => decide (indexPeriod q.activeTarget + indexHalf q.activeTarget < n))

/-- The crossing timer, the time since the last recomputation of the demand, and the time since the last
sample of On Track. -/
def positionerMicro (p : Positioner) : Positioner :=
  { p with
    crossTimer := min Config.crossingSilence (p.crossTimer + 1)
    velTimer := min Config.recomputeInterval (p.velTimer + 1)
    sampleTimer := if p.sampling then p.sampleTimer + 1 else p.sampleTimer }

/-- R69: one sample of On Track. -/
def onTrackSampled (v : Bool) (p : Positioner) : Positioner :=
  { p with sampleTimer := 0, onTrackCount := if v then p.onTrackCount + 1 else 0 }

/-- R69: On Track sampled every 100 µs, until the on-track count reaches the On-Track Count in use. -/
def sampleOnTrack (start : State) (b : Bay) (s : State) : State :=
  if (s.positioner b).sampling && decide (Config.onTrackInterval ≤ (s.positioner b).sampleTimer) then
    let t := s.modPositioner b (onTrackSampled (s.pinsOf b).onTrack)
    if t.settings.onTrackCount ≤ (t.positioner b).onTrackCount then t.occur start (takeOnTrack b) else t
  else s

/-- The 1 µs tick of one bay. The timers are counted, and then what has come due is taken. -/
def microTick (start : State) (b : Bay) (s : State) : State :=
  let silent := (s.positioner b).crossTimer + 1 == Config.crossingSilence
  let counted := (s.modSpindle b spindleMicro).modPositioner b positionerMicro
  sampleOnTrack start b
    ((((counted.fire start (fun _ => silent) (takeCrossingSilence b)).fire start
        (fun t => (t.positioner b).state.underLoop &&
          decide (Config.recomputeInterval ≤ (t.positioner b).velTimer)) (takeRecompute b)).fire start
      (fun t => windowClosed (t.spindle b)) (takeIndexMissing b)).fire start
      (fun t => (t.spindle b).phase.runsLaw &&
        (t.spindle b).markTimer.any (fun n => decide (Config.markSilence ≤ n))) (takeSilence b))

/-! ### The 1 ms tick -/

/-- A timer that runs advanced by 1 ms. -/
def tickUp (t : Option Nat) : Option Nat := t.map (fun n => n + 1)

/-- Whether a timer that runs has reached a limit. -/
def reached (limit : Nat) (t : Option Nat) : Bool := t.any (fun n => decide (limit ≤ n))

def bayMilli (c : BayControl) : BayControl :=
  { c with
    idle := tickUp c.idle, startBound := tickUp c.startBound, pulse := tickUp c.pulse
    leave := tickUp c.leave, retry := tickUp c.retry }

def spindleMilli (q : Spindle) : Spindle :=
  { q with
    startTimer := tickUp q.startTimer, spinUpTimer := tickUp q.spinUpTimer
    driftTimer := tickUp q.driftTimer, stopTimer := tickUp q.stopTimer }

/-- The Positioner's timers. The Settle Time runs down, and the retract timer stands during a park hold
(R78). -/
def positionerMilli (p : Positioner) : Positioner :=
  { p with
    loadTimer := tickUp p.loadTimer, recalTimer := tickUp p.recalTimer, seekTimer := tickUp p.seekTimer
    settleLimit := tickUp p.settleLimit, settleWait := p.settleWait.map (fun n => n - 1)
    stopTimer := tickUp p.stopTimer
    retractTimer := if p.parkHold.isSome then p.retractTimer else tickUp p.retractTimer
    parkHold := tickUp p.parkHold }

/-- Every timer of 1 ms resolution advanced (spec/00 section 4.1). -/
def millisCounted (s : State) : State :=
  { s with
    bays := ⟨bayMilli s.bays.bay0, bayMilli s.bays.bay1⟩
    spindles := ⟨spindleMilli s.spindles.bay0, spindleMilli s.spindles.bay1⟩
    positioners := ⟨positionerMilli s.positioners.bay0, positionerMilli s.positioners.bay1⟩
    supply := { s.supply with goodTimer := tickUp s.supply.goodTimer }
    link := { s.link with
      refreshTimer := ⟨tickUp s.link.refreshTimer.bay0, tickUp s.link.refreshTimer.bay1⟩
      pollTimer := tickUp s.link.pollTimer } }

/-- R1: one sample of a debounced input: the input after it, and the value newly accepted if there is
one. -/
def sampled (count : Nat) (v : Bool) (d : Debounced) : Debounced × Option Bool :=
  if v = d.accepted then (⟨d.accepted, 0⟩, none)
  else if count ≤ d.run + 1 then (d, some v)
  else (⟨d.accepted, d.run + 1⟩, none)

/-- R1: a sample of Park Detect, accepted after 3; the Positioner's own while the bay's sampling has stopped
(DEDUCED: log 34). -/
def sampleParkDetect (start : State) (b : Bay) (s : State) : State :=
  if s.rampWatched b then
    match sampled 3 (s.pinsOf b).parkDetect
        ⟨(s.positioner b).parkHold.isSome, (s.positioner b).rampRun⟩ with
    | (_, some true) => s.occur start (takeParkTrue b)
    | (_, some false) => s.occur start (takeParkFalse b)
    | (d, none) => s.modPositioner b (fun p => { p with rampRun := d.run })
  else if (s.bay b).sensing then
    match sampled 3 (s.pinsOf b).parkDetect (s.bay b).parkDetect with
    | (_, some true) => s.occur start (takeParkTrue b)
    | (_, some false) => s.occur start (takeParkFalse b)
    | (d, none) => s.modBay b (fun c => { c with parkDetect := d })
  else s

/-- R1: a sample of Write Protect. -/
def sampleWriteProtect (start : State) (b : Bay) (s : State) : State :=
  if (s.bay b).sensing then
    match sampled s.settings.presenceCount (s.pinsOf b).writeProtect (s.bay b).writeProtect with
    | (_, some v) => s.occur start (takeWriteProtect b v)
    | (d, none) => s.modBay b (fun c => { c with writeProtect := d })
  else s

/-- R24: a sample of an undecided Present: the run of equal samples, and its level. -/
def undecidedSampled (v : Bool) (c : BayControl) : BayControl :=
  { c with
    undecidedLevel := v
    present := ⟨c.present.accepted, if v = c.undecidedLevel then c.present.run + 1 else 1⟩ }

/-- R1, R24: a sample of Present. -/
def samplePresent (start : State) (b : Bay) (s : State) : State :=
  if !(s.bay b).sensing then s
  else if (s.bay b).presentUndecided then
    let t := s.modBay b (undecidedSampled (s.pinsOf b).present)
    if s.settings.presenceCount ≤ (t.bay b).present.run then
      t.occur start (takePresentDecided b (t.bay b).undecidedLevel)
    else t
  else
    match sampled s.settings.presenceCount (s.pinsOf b).present (s.bay b).present with
    | (_, some true) => s.occur start (takePresentTrue b)
    | (_, some false) => s.occur start (takePresentFalse b)
    | (d, none) => s.modBay b (fun c => { c with present := d })

/-- R1, R2: a sample of the Eject Button. -/
def sampleButton (start : State) (b : Bay) (s : State) : State :=
  if (s.bay b).sensing then
    let count := if (s.bay b).button.accepted then s.settings.releaseCount else s.settings.pressCount
    match sampled count (s.pinsOf b).ejectButton (s.bay b).button with
    | (_, some true) => s.occur start (takeButtonPress b)
    | (_, some false) => s.occur start (takeButtonReleased b)
    | (d, none) => s.modBay b (fun c => { c with button := d })
  else s

/-- R1: the samples of one bay at a tick. Park Detect is decided first (R3). -/
def sampleBay (start : State) (b : Bay) (s : State) : State :=
  sampleButton start b (samplePresent start b (sampleWriteProtect start b (sampleParkDetect start b s)))

/-- R32, R33, R39, R43: the spindle's limits. -/
def spindleLimits (start : State) (b : Bay) (s : State) : State :=
  (((s.fire start (fun t => reached Config.startLimit (t.spindle b).startTimer) (takeStartLimit b)).fire start
      (fun t => reached (1000 * t.settings.spinUpLimit) (t.spindle b).spinUpTimer)
      (takeSpinUpLimit b)).fire start
      (fun t => reached (100 * t.settings.relockLimit) (t.spindle b).driftTimer) (takeDriftLimit b)).fire start
    (fun t => reached Config.spindleStop (t.spindle b).stopTimer) (takeStopped b)

/-- R62, R64, R68, R69, R75, R78, R79: the Positioner's limits. -/
def positionerLimits (start : State) (b : Bay) (s : State) : State :=
  (((((((s.fire start (fun t => reached Config.parkHold (t.positioner b).parkHold) (takeHoldEnd b)).fire start
      (fun t => reached Config.retractLimit (t.positioner b).retractTimer) (takeRetractLimit b)).fire start
      (fun t => reached Config.loadLimit (t.positioner b).loadTimer) (takeLoadFault b)).fire start
      (fun t => reached Config.recalibrateLimit (t.positioner b).recalTimer)
      (takeRecalibrateLimit b)).fire start
      (fun t => reached Config.seekLimit (t.positioner b).seekTimer) (takeSeekLimit b)).fire start
      (fun t => reached Config.settleLimit (t.positioner b).settleLimit) (takeSettleLimit b)).fire start
      (fun t => reached Config.stopLimit (t.positioner b).stopTimer) (takeStopLimit b)).fire start
    (fun t => (t.positioner b).settleWait == some 0) (takeSettleEnd b)

/-- R13, R17, R21, R165: the limits of the Bay Controller and the bay's refresh. -/
def bayLimits (start : State) (b : Bay) (s : State) : State :=
  (((((s.fire start (fun t => reached Config.ejectPulse (t.bay b).pulse) (takePulseExpiry b)).fire start
      (fun t => reached Config.ejectLeave (t.bay b).leave) (takeLeaveExpiry b)).fire start
      (fun t => reached Config.startBound (t.bay b).startBound) (takeStartBoundExpiry b)).fire start
      (fun t => reached Config.retryInterval (t.bay b).retry) (takeRetryExpiry b)).fire start
      (fun t => t.settings.idleLimit != 0 && reached (10000 * t.settings.idleLimit) (t.bay b).idle)
      (takeIdleExpiry b)).fire start
    (fun t => reached Config.refreshInterval (t.link.refreshTimer.get b)) (takeRefreshExpiry b)

/-- The 1 ms tick. The inputs are sampled before the limits are looked at (DESIGN CHOICE: log 31). A bay that
the recovery lets sense again takes its first sample at the next tick (R174, spec/12 section 12.4). -/
def milliTick (start s : State) : State :=
  let recovered := ((millisCounted s).forBays (sampleBay start)).fire start
    (fun t => t.supply.accepted && reached Config.supplyGood t.supply.goodTimer) takeSupplyRecovery
  (((recovered.forBays (spindleLimits start)).forBays (positionerLimits start)).forBays
    (bayLimits start)).fire start
    (fun t => reached t.hostFields.pollInterval.toNat t.link.pollTimer) takePollExpiry

/-! ### The cycle -/

/-- A tick made at every cycle whose number is a multiple of a period. -/
def State.every (s : State) (period : Nat) (f : State → State) : State :=
  if s.cycle % period = 0 then f s else s

/-- One cycle of the clock. At its end Reset in Progress ends where its conditions hold (R176). -/
def clockCycle (s : State) : State :=
  let sampledInputs :=
    (((sampleSupply s { s with cycle := s.cycle + 1 }).forBays (sampleSpindle s)).forBays
      (sampleCrossing s)).forBays (sampleGuard s)
  let ticked :=
    ((sampledInputs.forBays (pwmStep s ((s.cycle + 1) % Config.cyclesPerPwm))).every Config.cyclesPerMicro
      (fun t => t.forBays (microTick s))).every Config.cyclesPerMilli (milliTick s)
  (ticked.fire s State.resetEnds takeResetEnd).closed

end Sys2Proof.Machine
end

