-- ==== Sys2Proof/Machine/BusEvents.lean ====
section
/-!
DEFINITION. The meanings of the two events of the host bus (spec/06 section 6.8): the grant and the end of
a burst.
-/

namespace Sys2Proof.Machine

/-- R130, R132: the host grants the bus and one burst begins; with a burst in progress or no request
standing nothing begins. -/
def takeGrant (s : State) : State := if s.burst.isNone then s.beginBurst else s

/-- DMA_GRANT (R130). -/
def execDmaGrant (s : State) : Host.Outcome State Fault Refusal := .next (perform takeGrant s)

/-- R130: a burst ends. The words it wrote are in host memory, and the words it read, of which the host
gave as many as its work takes, are its requester's. -/
def takeBurstEnd (words : Vector Word 16) (s : State) : State :=
  match s.burst with
  | none => s
  | some x => ({ s with burst := none }.storeWords x).endBurst x.work x.drop words.toList

/-- BURST_COMPLETE (R130). -/
def execBurstComplete (words : Vector Word 16) (s : State) : Host.Outcome State Fault Refusal :=
  .next (perform (takeBurstEnd words) s)

end Sys2Proof.Machine
end

