-- ==== Sys2Proof/Machine/ChannelEvents.lean ====
section
/-!
DEFINITION. The meanings of what passes under the head (spec/04): ID fields, the ends of data fields read
and written, and the end of a track's laying.
-/

namespace Sys2Proof.Machine

/-! ### ID_FIELD (R92, R95) -/

/-- R95: after the release, the recalibrate a Wrong Cylinder brings, if the user's work goes on. -/
def State.recalibrateFor (s : State) (b : Bay) : Giver → State
  | .task id =>
    match s.entry? id with
    | some e =>
      (s.modEntry id (fun f => { f with stage := .recalibrating })).orderFor e b .recalibrate
    | none => s
  | .mount =>
    if (s.map b).mountStage = .idle then s
    else
      (s.modMap b (fun m => { m with mountStage := .recalibrating, mountOrder := .outstanding })).giveOrder
        b ⟨.recalibrate, .mount⟩
  | .bay => s

/-- R95: a Wrong Cylinder: the search stopped, one ID failure counted, the channel released, and the
recalibrate ordered where the retries are not exhausted. It is ordered in the same instant as the
release, before a held Park is taken there (DESIGN CHOICE: log 44). -/
def State.wrongCylinder (s : State) (b : Bay) (g : Giver) : State :=
  let failed := (s.failAttempt b g .id).releaseOf b
  if failed.stillTrying g then failed.recalibrateFor b g else failed

/-- R92: an ID field read while SEARCHING. -/
def takeIdField (f : IdField) (s : State) : State :=
  match s.channel.grant, s.channel.target with
  | some b, some t =>
    if s.channel.search = .searching ∧ idPasses f then
      match s.client? b, s.channelRun b with
      | some g, some r =>
        if idCylinder f ≠ t.cylinder then s.wrongCylinder b g
        else if f.head.toNat = t.head ∧ f.sector.toNat = t.sector then s.targetMatched b g r
        else s
      | _, _ => s
    else s
  | _, _ => s

/-- ID_FIELD (R92). -/
def execIdField (f : IdField) (s : State) : Host.Outcome State Fault Refusal :=
  .next (perform (takeIdField f) s)

/-! ### DATA_FIELD_READ_END (R96, R110, R121, R123, R126) -/

/-- R107, R110: the Defect Record read and examined. -/
def State.recordRead (s : State) (b : Bay) (data : List Byte) : State :=
  let soft := s.countSoftError b
  match readRecord data with
  | some (table, nextSpare) => soft.mountReadEnd b .valid table nextSpare
  | none => soft.mountReadEnd b .damaged [] 0

/-- R121, R123, R126: a field of a task read with a passing check. -/
def State.sectorRead (s : State) (b : Bay) (id : Nat) (i : Nat) : State :=
  match (s.entry? id).bind readPurpose with
  | some .verify => (s.freeSlot i).sectorDone b id (sectorCounted true)
  | some .read =>
    (s.modSlot i (fun x => { x with state := .full, age := s.instant })).sectorDone b id
      (sectorCounted false)
  | _ => (s.modSlot i (fun x => { x with state := .full })).sectorDone b id (fun e => e)

/-- R96, R93: a data field being read has ended with a failing check. -/
def State.fieldFailed (s : State) (b : Bay) (g : Giver) (i : Nat) : State :=
  let freed := s.freeSlot i
  let again := match s.channelRun b with
    | some r => freed.beginSearch r
    | none => freed
  again.failAttempt b g .data

/-- R96: the end of a data field being read. -/
def takeReadEnd (f : DataField) (s : State) : State :=
  match s.channel.search, s.channel.grant, s.channel.slot with
  | .reading, some b, some i =>
    let stored := (s.modSlot i (fun x => { x with data := f.bytes.toList })).modChannel (fun c =>
      { c with search := .searching, slot := none })
    match s.client? b with
    | none => stored.freeSlot i
    | some g =>
      if dataPasses f then
        match g with
        | .mount => stored.recordRead b f.bytes.toList
        | .task id => stored.sectorRead b id i
        | .bay => stored
      else stored.fieldFailed b g i
  | _, _, _ => s

/-- DATA_FIELD_READ_END (R96). -/
def execDataFieldReadEnd (f : DataField) (s : State) : Host.Outcome State Fault Refusal :=
  .next (perform (takeReadEnd f) s)

/-! ### DATA_FIELD_WRITE_END (R97, R114, R116, R125, R126) -/

/-- R114, R116: the staged update of the table, made at the end of the record's field. A bay that entered
RELEASING there keeps its table empty (R10). -/
def State.recordWritten (s : State) (b : Bay) (e : Entry) : State :=
  match e.kind with
  | some .reassign =>
    if reassignResult e.block.address (s.map b) = none then s.modMap b (reassigned e.block.address) else s
  | some .resetRecord => if (s.bay b).state = .locked then s.modMap b recordReset else s
  | _ => s

/-- R97, R125, R127: a field of a task written whole. -/
def State.sectorWritten (s : State) (b : Bay) (id : Nat) (i : Nat) : State :=
  match s.entry? id with
  | none => s.freeSlot i
  | some e =>
    if e.kind = some .reassign ∨ e.kind = some .resetRecord then
      ((s.recordWritten b e).freeSlot i).sectorDone b id completed
    else (s.freeSlot i).sectorDone b id (sectorCounted true)

/-- R97: the write gate falls at the end of a field, and the medium holds it. -/
def State.fieldWritten (s : State) (b : Bay) (i : Nat) : State :=
  let data := (s.slots[i]?.map Slot.data).getD []
  { s.modChannel (fun c =>
      { c with search := .searching, slot := none, writeGate := false, readGate := true }) with
    mediumOut := (s.channel.target.map (fun t => MediumWrite.field b t (dataFieldBytes data))).or
      s.mediumOut }

/-- R100, R153: the end of one position's data field in LAYING (DESIGN CHOICE: log 28): a marked
format stops there, leaving the track part-written. -/
def State.positionLaid (s : State) (b : Bay) : State :=
  let laid := s.modChannel (fun c => { c with formatPosition := min 31 (c.formatPosition + 1) })
  match s.client? b with
  | some (.task id) =>
    if (s.entry? id).any (fun e => e.aborted || e.ending.isSome) then
      ((laid.cutField b).releaseOf b).modEntry id (decided .aborted 0)
    else laid
  | _ => laid

/-- R98: the Held press delivered, where there is one and the write gate has fallen. -/
def State.pressDelivered (s : State) : State := (deliverPress s).getD s

/-- R97: the end of a data field being written. The Held press is delivered as the write gate falls, and
the sector is counted then (R10; DEDUCED: log 51). -/
def takeWriteEnd (s : State) : State :=
  match s.channel.grant with
  | none => s
  | some b =>
    if s.channel.search = .writing then
      match s.channel.slot, s.client? b with
      | some i, some (.task id) => (s.fieldWritten b i).pressDelivered.sectorWritten b id i
      | _, _ => s
    else if s.channel.search = .formatting ∧ s.channel.format = .laying then s.positionLaid b
    else s

/-- DATA_FIELD_WRITE_END (R97). -/
def execDataFieldWriteEnd (s : State) : Host.Outcome State Fault Refusal :=
  .next (perform takeWriteEnd s)

/-! ### LAYING_END (R100) -/

/-- R100, R101: after the data field of position 31 the write gate falls and the sequencer enters
CLOSING; the medium holds the track. A marked format stops here (R153). -/
def State.trackLaid (s : State) (b : Bay) (e : Entry) : State :=
  let laid :=
    { s.modChannel (fun c => { c with format := .closing, writeGate := false, readGate := true }) with
      mediumOut := some (.track b e.block.cylinder e.block.head
        (trackBytes e.block.cylinder e.block.head e.block.interleave e.block.fill)) }
  if e.aborted then laid.modEntry e.id (decided .aborted 0) else laid

/-- R100: the end of LAYING. -/
def takeLayingEnd (s : State) : State :=
  match s.channel.grant with
  | none => s
  | some b =>
    if s.channel.search = .formatting ∧ s.channel.format = .laying then
      match s.client? b with
      | some (.task id) =>
        match s.entry? id with
        | some e => s.trackLaid b e
        | none => s
      | _ => s
    else s

/-- LAYING_END (R100). -/
def execLayingEnd (s : State) : Host.Outcome State Fault Refusal := .next (perform takeLayingEnd s)

end Sys2Proof.Machine
end

