-- ==== Sys2Proof/Machine/PortCommands.lean ====
section
/-!
DEFINITION. The meanings of the rows that reach the ports (spec/08 section 8.2, spec/10 section 10.4):
the commands of the Command/Status port, the anchor and the status.
-/

namespace Sys2Proof.Machine

/-- R156: Bad Command. -/
def State.badCommand (s : State) : State := { s with ports := { s.ports with badCommand := true } }

/-- R156: "While Reset in Progress shows, every command write is ignored and sets Bad Command"; otherwise
a command is taken by the Link State. -/
def State.command (s : State) (f : State → State) : State :=
  if s.resetInProgress then s.badCommand else f s

/-! ### START -/

/-- R158: the link started. -/
def State.started (s : State) : State :=
  { s with
    counts := { s.counts with taken := 0#16, finished := 0#16, cursor := 0#32, fault := .none }
    link := { s.link with state := .running, attentionHeld := true, startWrite := true } }.raiseBoth

/-- R158: Start taken in OFFLINE, refused with Bad Command where the anchor is bad or Supply Low is
accepted. -/
def takeStart (s : State) : State :=
  if s.link.state = .offline ∧ anchorValid s.ports.anchor ∧ !s.supply.accepted then s.started
  else s.badCommand

/-- START (R156, R158). -/
def execStart (s : State) : Host.Outcome State Fault Refusal :=
  .next (perform (fun t => t.command takeStart) s)

/-! ### ATTENTION -/

/-- R156, R159: Attention by Link State. -/
def takeAttention (s : State) : State :=
  match s.link.state with
  | .offline => s.badCommand
  | .running | .draining => s.modLink (fun l => { l with attentionHeld := true })
  | .stalled =>
    { s with
      counts := { s.counts with fault := .none }
      link := { s.link with state := .running, faultClear := true, attentionHeld := true } }
  | .halted => s

/-- ATTENTION (R156, R159). -/
def execAttention (s : State) : Host.Outcome State Fault Refusal :=
  .next (perform (fun t => t.command takeAttention) s)

/-! ### ABORT -/

/-- R152: the Abort mark of every entry then in the queue. -/
def State.markAll (s : State) : State := s.modEntries (fun e => { e with aborted := true })

/-- R152, R156: Abort by Link State. -/
def takeAbort (s : State) : State :=
  match s.link.state with
  | .offline => s.badCommand
  | .halted => s
  | _ => s.markAll

/-- ABORT (R152, R156). -/
def execAbort (s : State) : Host.Outcome State Fault Refusal :=
  .next (perform (fun t => t.command takeAbort) s)

/-! ### GO_OFFLINE -/

/-- R156, R157: Go Offline by Link State. -/
def takeGoOffline (s : State) : State :=
  match s.link.state with
  | .offline => s.badCommand
  | .draining => s
  | .halted => s.modLink (fun l => { l with offlineHeld := true })
  | _ => s.modLink (fun l => { l with state := .draining, pollDue := false })

/-- GO_OFFLINE (R156, R157). -/
def execGoOffline (s : State) : Host.Outcome State Fault Refusal :=
  .next (perform (fun t => t.command takeGoOffline) s)

/-! ### PART_RESET -/

/-- R23: the Bay Controller's part at a Part Reset: the eject stopped, a park to be given. The retry timer of
a bay in FAULT stops here too, and not only where Reset in Progress ends (DESIGN CHOICE: log 64). -/
def runDownBegun (c : BayControl) : BayControl :=
  { ejectStopped c with runDownPark := true, retry := none }

/-- R153, R175: at a Part Reset every entry is marked, and an Eject whose pulse and timers the run-down
stops finishes at once (DEDUCED: log 19). -/
def resetMarked (e : Entry) : Entry :=
  let marked := { e with aborted := true }
  if e.stage = .ejecting then completed marked else marked

/-- R175: the Part Reset command. -/
def takePartReset (s : State) : State :=
  (({ s with
      resetInProgress := true
      link := { s.link with attentionHeld := false, pollDue := false } }.modEntries resetMarked).modBay .bay0
    runDownBegun).modBay .bay1 runDownBegun

/-- PART_RESET (R156, R175). -/
def execPartReset (s : State) : Host.Outcome State Fault Refusal :=
  .next (perform (fun t => t.command takePartReset) s)

/-! ### UNKNOWN_COMMAND, ANCHOR_WRITE, STATUS_READ -/

/-- R156: a code written to the Command/Status port: the command it names, or Bad Command in every Link
State. -/
def takeCode (code : Word) (s : State) : State :=
  match commandOfCode code with
  | .start => s.command takeStart
  | .attention => s.command takeAttention
  | .abort => s.command takeAbort
  | .goOffline => s.command takeGoOffline
  | .partReset => s.command takePartReset
  | _ => s.badCommand

/-- UNKNOWN_COMMAND (R156), by the code it carries. -/
def execUnknownCommand (code : Word) (s : State) : Host.Outcome State Fault Refusal :=
  .next (perform (takeCode code) s)

/-- R155: a half of the anchor replaced. -/
def anchorReplaced (half : AnchorHalf) (value : Word) (anchor : BitVec 32) : BitVec 32 :=
  match half with
  | .low => anchor.extractLsb' 16 16 ++ value
  | .high => value ++ anchor.extractLsb' 0 16

/-- R155: a write to an anchor port. -/
def takeAnchorWrite (half : AnchorHalf) (value : Word) (s : State) : State :=
  if s.link.state = .offline ∧ !s.resetInProgress then
    { s with ports := { s.ports with anchor := anchorReplaced half value s.ports.anchor } }
  else s.badCommand

/-- ANCHOR_WRITE (R155). -/
def execAnchorWrite (half : AnchorHalf) (value : Word) (s : State) : Host.Outcome State Fault Refusal :=
  .next (perform (takeAnchorWrite half value) s)

/-- R155: the status returned, and Bad Command cleared after it. -/
def takeStatusRead (s : State) : State :=
  { s with ports := { s.ports with dataOut := s.statusWord, badCommand := false } }

/-- STATUS_READ (R155). -/
def execStatusRead (s : State) : Host.Outcome State Fault Refusal := .next (perform takeStatusRead s)

end Sys2Proof.Machine
end

