-- ==== Sys2Proof/Machine/Dispatch.lean ====
section
/-!
DEFINITION. The dispatch of commands: one arm for each row of spec/opcode_table.json, in the table's order.
-/

namespace Sys2Proof.Machine

def exec (i : Instr) (s : State) : Host.Outcome State Fault Refusal :=
  match i with
  | .start => Sys2Proof.Machine.execStart s
  | .attention => Sys2Proof.Machine.execAttention s
  | .abort => Sys2Proof.Machine.execAbort s
  | .goOffline => Sys2Proof.Machine.execGoOffline s
  | .partReset => Sys2Proof.Machine.execPartReset s
  | .unknownCommand code => Sys2Proof.Machine.execUnknownCommand code s
  | .anchorWrite half value => Sys2Proof.Machine.execAnchorWrite half value s
  | .statusRead => Sys2Proof.Machine.execStatusRead s
  | .busReset => Sys2Proof.Machine.execBusReset s
  | .supplyLowAccepted => Sys2Proof.Machine.execSupplyLowAccepted s
  | .supplyRecovery => Sys2Proof.Machine.execSupplyRecovery s
  | .resetInProgressEnd => Sys2Proof.Machine.execResetInProgressEnd s
  | .presentAcceptedTrue b => Sys2Proof.Machine.execPresentAcceptedTrue b s
  | .presentAcceptedFalse b => Sys2Proof.Machine.execPresentAcceptedFalse b s
  | .presentDecided b value => Sys2Proof.Machine.execPresentDecided b value s
  | .writeProtectAccepted b value => Sys2Proof.Machine.execWriteProtectAccepted b value s
  | .ejectButtonPress b => Sys2Proof.Machine.execEjectButtonPress b s
  | .ejectButtonReleased b => Sys2Proof.Machine.execEjectButtonReleased b s
  | .parkDetectAcceptedTrue b => Sys2Proof.Machine.execParkDetectAcceptedTrue b s
  | .parkDetectAcceptedFalse b => Sys2Proof.Machine.execParkDetectAcceptedFalse b s
  | .outerGuardAccepted b value => Sys2Proof.Machine.execOuterGuardAccepted b value s
  | .trackCrossing b direction elapsed => Sys2Proof.Machine.execTrackCrossing b direction elapsed s
  | .crossingError b => Sys2Proof.Machine.execCrossingError b s
  | .crossingTimerExpiry b => Sys2Proof.Machine.execCrossingTimerExpiry b s
  | .velocityRecompute b => Sys2Proof.Machine.execVelocityRecompute b s
  | .settleTimeEnd b => Sys2Proof.Machine.execSettleTimeEnd b s
  | .onTrackCountReached b => Sys2Proof.Machine.execOnTrackCountReached b s
  | .settleLimitExpiry b => Sys2Proof.Machine.execSettleLimitExpiry b s
  | .seekLimitExpiry b => Sys2Proof.Machine.execSeekLimitExpiry b s
  | .recalibrateTimerExpiry b => Sys2Proof.Machine.execRecalibrateTimerExpiry b s
  | .stopLimitExpiry b => Sys2Proof.Machine.execStopLimitExpiry b s
  | .loadFault b => Sys2Proof.Machine.execLoadFault b s
  | .retractLimitExpiry b => Sys2Proof.Machine.execRetractLimitExpiry b s
  | .parkHoldEnd b => Sys2Proof.Machine.execParkHoldEnd b s
  | .tachMark b elapsed => Sys2Proof.Machine.execTachMark b elapsed s
  | .startTimerExpiry b => Sys2Proof.Machine.execStartTimerExpiry b s
  | .spinUpLimitExpiry b => Sys2Proof.Machine.execSpinUpLimitExpiry b s
  | .markSilence b => Sys2Proof.Machine.execMarkSilence b s
  | .driftTimerExpiry b => Sys2Proof.Machine.execDriftTimerExpiry b s
  | .stopTimerExpiry b => Sys2Proof.Machine.execStopTimerExpiry b s
  | .pwmPeriodBoundary b => Sys2Proof.Machine.execPwmPeriodBoundary b s
  | .indexPulse b elapsed => Sys2Proof.Machine.execIndexPulse b elapsed s
  | .indexMissing b => Sys2Proof.Machine.execIndexMissing b s
  | .idField f => Sys2Proof.Machine.execIdField f s
  | .dataFieldReadEnd f => Sys2Proof.Machine.execDataFieldReadEnd f s
  | .dataFieldWriteEnd => Sys2Proof.Machine.execDataFieldWriteEnd s
  | .layingEnd => Sys2Proof.Machine.execLayingEnd s
  | .dmaGrant => Sys2Proof.Machine.execDmaGrant s
  | .burstComplete words => Sys2Proof.Machine.execBurstComplete words s
  | .pollTimerExpiry => Sys2Proof.Machine.execPollTimerExpiry s
  | .refreshTimerExpiry b => Sys2Proof.Machine.execRefreshTimerExpiry b s
  | .pulseTimerExpiry b => Sys2Proof.Machine.execPulseTimerExpiry b s
  | .leaveTimerExpiry b => Sys2Proof.Machine.execLeaveTimerExpiry b s
  | .startBoundTimerExpiry b => Sys2Proof.Machine.execStartBoundTimerExpiry b s
  | .retryTimerExpiry b => Sys2Proof.Machine.execRetryTimerExpiry b s
  | .idleTimerExpiry b => Sys2Proof.Machine.execIdleTimerExpiry b s

end Sys2Proof.Machine
end

