-- ==== Sys2Proof/Machine/Step.lean ====
section
/-!
DEFINITION. One step: the command at the front of the queue with the queue's rest, or one cycle of the
clock where none waits (DESIGN CHOICE: log 1).
-/

namespace Sys2Proof.Machine

/-- A command takes its effect on the state with the rest of the queue; an empty queue lets a clock cycle
pass. -/
def step (s : State) : Host.Outcome State Fault Refusal :=
  match s.pending with
  | [] => .next (clockCycle s)
  | c :: rest => exec c { s with pending := rest }

/-- The command that a word spells put at the front of the queue; a word that spells none changes nothing
(DESIGN CHOICE: log 32). -/
def State.withFetchWord (s : State) (nbits w : Nat) : State :=
  match decodeTableWord nbits w with
  | some c => { s with pending := c :: s.pending }
  | none => s

end Sys2Proof.Machine
end

