-- ==== Sys2Proof/Safety.lean ====
section
/-!
DEFINITION. The laws of the manual that hold of every state the part can be in, each a condition on one
state, in the terms claims use.
-/

namespace Sys2Proof.Machine

/-- Host memory is in its canonical form. -/
def State.memoryLaw (s : State) : Prop := s.hostMem.wf = true

/-- R119: sixteen slots, each FREE exactly when it has no owner, and no task with more than its quota. -/
def State.slotLaw (s : State) : Prop :=
  s.slots.length = Config.slotCount ∧
    (∀ x ∈ s.slots, (x.state = .free ↔ x.owner = none)) ∧ ∀ id, s.slotsOf id ≤ Config.slotQuota

/-- R135: Taken Count minus Finished Count, modulo 65,536, is the number of entries, at most 8. -/
def State.countLaw (s : State) : Prop :=
  (s.counts.taken - s.counts.finished).toNat = s.entries.length ∧ s.entries.length ≤ Config.queueSize

/-- R54: the actuator is in a loaded state only while its spindle is LOCKED or DRIFTING. -/
def State.flyLaw (s : State) : Prop :=
  ∀ b, (s.positioner b).state.loaded = true → (s.spindle b).phase.regulates = true

/-- R45: a spindle is STARTING or ACCELERATING exactly while its bay holds the Spin-Up Permit. -/
def State.permitLaw (s : State) : Prop :=
  ∀ b, ((s.spindle b).phase = .starting ∨ (s.spindle b).phase = .accelerating) ↔
    s.permitHolder = some b

/-- R98: the write gate is asserted only while the channel is granted to a bay that is LOCKED, with its
spindle LOCKED and its actuator FOLLOWING on the cylinder of its run, Write Protect accepted false and
Supply Low not accepted. -/
def State.gateLaw (s : State) : Prop :=
  s.channel.writeGate = true →
    s.supply.accepted = false ∧
      ∃ b, s.channel.grant = some b ∧ (s.bay b).state = .locked ∧ (s.spindle b).phase = .locked ∧
        (s.positioner b).state = .following ∧ (s.bay b).writeProtect.accepted = false ∧
        ∃ r, s.channelRun b = some r ∧ (s.positioner b).counter = (r.cylinder : Int)

/-- R105: the law of a Remap Table. -/
def DefectMap.tableLaw (m : DefectMap) : Prop :=
  m.table.length ≤ Config.tableSize ∧ m.table.Pairwise (fun x y => x.lsn < y.lsn) ∧
    (m.table.map RemapEntry.spare).Nodup ∧ (∀ e ∈ m.table, e.spare < m.nextSpare) ∧
    m.nextSpare ≤ Config.spareSectors ∧ (m.status ≠ .valid → m.table = [])

/-- R13: the Eject solenoid is energized only while the four conditions hold. -/
def State.ejectLaw (s : State) : Prop := ∀ b, (s.bay b).eject = true → s.ejectAllowed b = true

/-- R168: every setting in use lies in its range. -/
def Settings.inRange (t : Settings) : Prop :=
  (1800 ≤ t.targetSpeed ∧ t.targetSpeed ≤ 4200) ∧ t.kp ≤ 255 ∧ t.ki ≤ 255 ∧ t.bias ≤ 1023 ∧
    (256 ≤ t.startDuty ∧ t.startDuty ≤ 1023) ∧ t.dutyFloor ≤ 511 ∧
    (512 ≤ t.dutyCeiling ∧ t.dutyCeiling ≤ 1023) ∧ (16 ≤ t.hysteresis ∧ t.hysteresis ≤ 1600) ∧
    t.stability ≤ 3 ∧ (4 ≤ t.spinUpLimit ∧ t.spinUpLimit ≤ 30) ∧
    (1 ≤ t.relockLimit ∧ t.relockLimit ≤ 50) ∧ t.idleLimit ≤ 255 ∧ t.retryLimit ≤ 7 ∧
    t.softThreshold ≤ 255 ∧ (20 ≤ t.presenceCount ∧ t.presenceCount ≤ 255) ∧
    (5 ≤ t.pressCount ∧ t.pressCount ≤ 255) ∧ (5 ≤ t.releaseCount ∧ t.releaseCount ≤ 255) ∧
    (1 ≤ t.settleTime ∧ t.settleTime ≤ 15) ∧ (2 ≤ t.onTrackCount ∧ t.onTrackCount ≤ 63) ∧
    (1 ≤ t.kv ∧ t.kv ≤ 255) ∧ profileAcceptable t.profile = true

/-! ### Insertion and removal -/

/-- R5 with R4 and R7: what an insertion makes of a bay, from the state before it, and what it leaves.
The spin-up request of R7 is taken by R29 and R45. -/
structure InsertedInto (s t : State) (b : Bay) : Prop where
  generation : (t.bay b).generation = if (s.bay b).generation < 255 then (s.bay b).generation + 1 else 1
  flags : (t.bay b).ejectRequested = false ∧ (t.bay b).ejectFailed = false ∧
    (t.bay b).prevent = false ∧ (t.bay b).idle = none
  unmounted : (t.map b).status = .none ∧ (t.map b).table = [] ∧ (t.map b).nextSpare = 0 ∧
    (t.map b).softErrors = 0 ∧ (t.map b).marginal = false
  seated : (s.bay b).parkDetect.accepted = true → s.settings.autoLock = false →
    (t.bay b).state = .seated ∧ (t.bay b).faultClass = .none ∧ (t.bay b).lock = (s.bay b).lock ∧
      (t.spindle b).phase = (s.spindle b).phase
  locked : (s.bay b).parkDetect.accepted = true → s.settings.autoLock = true →
    (t.bay b).state = .locked ∧ (t.bay b).lock = true ∧ (t.bay b).faultClass = .none
  spinUp : (s.bay b).parkDetect.accepted = true → s.settings.autoLock = true →
    s.supply.accepted = false → (s.spindle b).phase = .stopped →
    if s.permitHolder = none then (t.spindle b).phase = .starting ∧ t.permitHolder = some b
    else (t.spindle b).phase = .pending ∧ t.permitWaiting = some b
  ramp : (s.bay b).parkDetect.accepted = true →
    (t.positioner b).state =
      if (s.positioner b).state = .fault then .parked else (s.positioner b).state
  offRamp : (s.bay b).parkDetect.accepted = false →
    (t.bay b).state = .fault ∧ (t.bay b).faultClass = .headsOffRamp ∧ (t.bay b).lock = true ∧
      (t.positioner b).state = .fault ∧ t.spindle b = s.spindle b
  otherBay : t.bay b.other = s.bay b.other ∧ t.spindle b.other = s.spindle b.other ∧
    t.positioner b.other = s.positioner b.other ∧ t.map b.other = s.map b.other
  kept : t.entries = s.entries ∧ t.settings = s.settings ∧ t.counts = s.counts ∧ t.ports = s.ports ∧
    t.hostMem = s.hostMem ∧ t.supply = s.supply ∧ t.resetInProgress = s.resetInProgress

/-- R14: what an ordinary removal makes of a Bay Controller, with Present accepted false. -/
def BayControl.removed (c : BayControl) : BayControl :=
  { c with
    present := ⟨false, 0⟩, presentUndecided := false, state := .empty, prevent := false, idle := none
    idleStop := false, eject := false, startBound := none, pulse := none, leave := none }

/-! ### What a fault makes of a bay -/

/-- Every block of one bay as it was. -/
structure BayKept (s t : State) (b : Bay) : Prop where
  bay : t.bay b = s.bay b
  spindle : t.spindle b = s.spindle b
  positioner : t.positioner b = s.positioner b
  map : t.map b = s.map b

/-- R111: what the end of a mount sequence makes of a bay and of what its read used. A slot that a burst
moves returns to FREE at the end of the burst (R130). -/
structure MountEnded (s t : State) (b : Bay) : Prop where
  stage : (t.map b).mountStage = .idle
  status : (t.map b).status =
    if (s.map b).mountStage ≠ .idle ∧ (s.map b).status = .mounting then .none else (s.map b).status
  kept : (t.map b).mountRetries = (s.map b).mountRetries ∧ (t.map b).table = (s.map b).table
  channel : (s.map b).mountStage = .atChannel → t.channel.grant ≠ some b ∧ t.channel.waiting ≠ some b
  slots : (s.map b).mountStage ≠ .idle → ∀ i x, t.slots[i]? = some x →
    x.owner = some (.mount b) → s.burstOn i = true

/-- Where a controlled stop takes an actuator from a Vmeas and a Cylinder Known (R75): "Heads already at
rest when the stop begins, with Vmeas at 0, end it at once." -/
def stopState (vmeas : Nat) (settles : Bool) : Actuator :=
  if vmeas = 0 then (if settles then .settling else .recalibrating) else .stopping

/-- R72 to R74: what a Seek Fault makes of a bay, from the state before it. `stops` is a Crossing Error in
FOLLOWING, which R75 answers with a controlled stop. -/
structure SeekFaulted (s t : State) (b : Bay) (stops : Bool) : Prop where
  faultClass : (t.bay b).faultClass = .seekFault ∧ (t.bay b).state = (s.bay b).state
  seekTimer : (t.positioner b).seekTimer = none
  retried : ∀ o, (s.positioner b).order = some o → (s.positioner b).reseekUsed = false →
    (t.positioner b).order = some o ∧ (t.positioner b).reseekUsed = true ∧
      (t.positioner b).state = stopState (s.positioner b).vmeas false
  failed : ∀ o, (s.positioner b).order = some o → (s.positioner b).reseekUsed = true →
    (t.positioner b).order = none ∧
      (t.positioner b).state = stopState (s.positioner b).vmeas (s.positioner b).known
  counted : ∀ o, (s.positioner b).order = some o → (s.positioner b).reseekUsed = false →
    (s.positioner b).state ≠ .following →
    (∀ id, o.giver = .task id → t.entries = s.entries.map fun e =>
      if e.id = id ∧ e.ending = none then { e with retriesUsed := raiseTo 255 e.retriesUsed } else e) ∧
    (o.giver = .mount → (s.map b).mountStage ≠ .idle →
      (t.map b).mountRetries = raiseTo 255 (s.map b).mountRetries)
  told : ∀ o, (s.positioner b).order = some o → (s.positioner b).reseekUsed = true →
    (s.positioner b).state ≠ .following →
    (∀ id, o.giver = .task id → t.entries = s.entries.map fun e =>
      if e.id = id ∧ e.order = .outstanding then { e with order := .failed } else e) ∧
    (o.giver = .mount → (s.map b).mountOrder = .outstanding → (t.map b).mountOrder = .failed)
  parked : (s.positioner b).order = none → stops = false → (t.positioner b).state = .retracting
  stopped : (s.positioner b).order = none → stops = true → (s.positioner b).known = false →
    (t.positioner b).state = stopState (s.positioner b).vmeas false
  channel : (s.positioner b).state = .following → t.channel.grant ≠ some b
  spindles : t.spindle b = s.spindle b
  otherBay : t.bay b.other = s.bay b.other ∧ t.spindle b.other = s.spindle b.other ∧
    t.positioner b.other = s.positioner b.other

/-- R41 with R42, R46, R77, R127, R146: what a Spin Fault makes of a bay, from the state before it. A Spin
Down that waits for its park then waits for the stop alone. -/
structure SpinFaulted (s t : State) (b : Bay) (f : FaultClass) : Prop where
  faultClass : (t.bay b).faultClass = f ∧ (t.bay b).state = (s.bay b).state
  stopping : (t.spindle b).phase = .stopping ∧ (t.spindle b).dutyStaging = 0 ∧
    (t.spindle b).stopTimer = some 0 ∧ (t.spindle b).brakePending = true ∧
    (t.spindle b).startTimer = none ∧ (t.spindle b).spinUpTimer = none ∧
    (t.spindle b).driftTimer = none ∧ (t.spindle b).indexArmed = false
  permit : t.permitHolder =
    if s.permitHolder = some b then s.permitWaiting else s.permitHolder
  retracts : (s.positioner b).state.loaded = true →
    (t.positioner b).state = .retracting ∧ (t.positioner b).followEnable = false ∧
      (t.positioner b).retract = true ∧ (t.positioner b).dac = -80
  onRamp : (s.positioner b).state = .parked ∨ (s.positioner b).state = .retracting →
    (t.positioner b).state = (s.positioner b).state
  channel : t.channel.grant ≠ some b ∧
    (s.channel.grant ≠ some b → s.copyBeside b = false → t.channel.grant = s.channel.grant)
  copy : s.copyBeside b = true → t.channel.grant ≠ some b.other
  tasks : t.entries.map (fun e => (e.id, e.state, e.ending)) = s.entries.map (fun e =>
    (e.id, e.state,
      if e.names b && usesSpindle e && e.state == .active && e.ending.isNone then
        some (spinResult f) else e.ending))
  spinDowns : t.entries.map (fun e => (e.id, e.stage)) = s.entries.map (fun e =>
    (e.id,
      if e.kind = some .spinDown ∧ e.names b = true ∧ e.state = .active ∧ e.ending = none ∧
        e.stage = .parking then .stopping else e.stage))
  otherBay : t.bay b.other = s.bay b.other ∧ t.positioner b.other = s.positioner b.other ∧
    t.map b.other = s.map b.other

/-! ### Ranges (spec/00 section 4.2) -/

/-- R26 to R28, R31, R35 to R37, R49: the ranges of a Spindle Controller. -/
structure Spindle.inRange (q : Spindle) : Prop where
  history : q.history.length ≤ 8 ∧ ∀ x ∈ q.history, 1 ≤ x ∧ x ≤ Config.markTop
  markTimer : ∀ n, q.markTimer = some n → n ≤ Config.markTop
  revCount : q.revCount ≤ 7
  speed : q.speed ≤ Config.markTop
  activeTarget : 1800 ≤ q.activeTarget ∧ q.activeTarget ≤ 4200
  integrator : -1048576 ≤ q.integrator ∧ q.integrator ≤ 1048575
  duty : q.dutyStaging ≤ 1023 ∧ q.dutyActive ≤ 1023
  inBand : q.inBand ≤ 255
  missCount : q.missCount ≤ 255

/-- R17, R55, R65, R67: the ranges of a Positioner. -/
structure Positioner.inRange (p : Positioner) : Prop where
  counter : -1024 ≤ p.counter ∧ p.counter ≤ 1023
  vmeas : p.vmeas ≤ 16000
  crossTimer : p.crossTimer ≤ Config.crossingSilence
  dac : -127 ≤ p.dac ∧ p.dac ≤ 127
  retractRetries : p.retractRetries ≤ 3

/-- R4, R92, R93, R100, R109, R117, R119, R150, R168 with the ranges of the two controllers, and the
canonical form of host memory. -/
structure State.rangeLaw (s : State) : Prop where
  memory : s.memoryLaw
  pool : s.slots.length = Config.slotCount
  settings : s.settings.inRange
  generation : ∀ b, (s.bay b).generation ≤ 255
  spindles : ∀ b, (s.spindle b).inRange
  positioners : ∀ b, (s.positioner b).inRange
  maps : ∀ b, (s.map b).softErrors ≤ 255 ∧ (s.map b).mountRetries ≤ 255
  retryCount : ∀ b, s.channel.retryCount.get b ≤ 8
  searches : s.channel.searchRevs ≤ 1 ∧ s.channel.formatRevs ≤ 1 ∧ s.channel.formatPosition ≤ 31
  entries : ∀ e ∈ s.entries, e.retriesUsed ≤ 255

/-! ### Spindle and actuator (R45, R54) -/

/-- R45: a bay that waits for the Spin-Up Permit has its spindle PENDING. -/
def State.waitingLaw (s : State) : Prop := ∀ b, s.permitWaiting = some b → (s.spindle b).phase = .pending

/-- R62 to R75: the timers of the motions over the platter run in a loaded state only. -/
def State.motionLaw (s : State) : Prop :=
  ∀ b, ((s.positioner b).loadTimer.isSome ∨ (s.positioner b).recalTimer.isSome ∨
      (s.positioner b).seekTimer.isSome ∨ (s.positioner b).settleLimit.isSome ∨
      (s.positioner b).stopTimer.isSome) → (s.positioner b).state.loaded = true

/-- The permit's law, with what its grant relies on. -/
structure State.permitInv (s : State) : Prop where
  permit : s.permitLaw
  waiting : s.waitingLaw

/-- The law of R54, with what the motions and the permit's grant rely on. -/
structure State.flyInv (s : State) : Prop where
  fly : s.flyLaw
  motion : s.motionLaw
  waiting : s.waitingLaw

/-! ### The slots of the pool (R119, R120) -/

/-- R119 with what the ends of the fields and of the bursts rely on: the slot of the field in progress is
the one the channel fills or empties, and is a mount's only while that mount has the channel; the slot of a
burst in progress is one that requests it. -/
structure State.slotInv (s : State) : Prop where
  slots : s.slotLaw
  channel : ∀ i, s.channel.slot = some i → s.channel.grant ≠ none ∧ ∃ x, s.slots[i]? = some x ∧
    ((s.channel.search = .reading ∧ x.state = .filling ∧
        x.purpose ∈ [some Purpose.read, some .verify, some .copy, some .recordRead]) ∨
      (s.channel.search = .writing ∧ x.state = .draining ∧
        x.purpose ∈ [some Purpose.write, some .copy, some .recordWrite]))
  mount : ∀ i x b, s.channel.slot = some i → s.slots[i]? = some x → x.owner = some (.mount b) →
    s.channel.grant = some b ∧ (s.map b).mountStage = .atChannel
  burst : ∀ y i, s.burst = some y → y.work = .slot i →
    ∃ x, s.slots[i]? = some x ∧ slotRequests x = true

/-! ### The clock (R1, R172, spec/00 section 4.1) -/

/-- A timer that runs has not reached a limit. -/
def below (limit : Nat) (timer : Option Nat) : Prop := ∀ n, timer = some n → n < limit

/-- After a 1 ms tick no timer stands at its limit: supply (R172), spindle (R32, R33, R39, R43), Positioner
(R62, R64, R68, R69, R75, R78, R79), bay (R13, R17, R21) and Link Port (R160, R165). -/
structure State.limitsKept (s : State) : Prop where
  supply : s.supply.accepted = true → below 100 s.supply.goodTimer
  start : ∀ b, (s.spindle b).phase = .starting → below 2000 (s.spindle b).startTimer
  spinUp : ∀ b, (s.spindle b).phase = .starting ∨ (s.spindle b).phase = .accelerating →
    below (1000 * s.settings.spinUpLimit) (s.spindle b).spinUpTimer
  drift : ∀ b, (s.spindle b).phase = .drifting →
    below (100 * s.settings.relockLimit) (s.spindle b).driftTimer
  stop : ∀ b, (s.spindle b).phase = .stopping → below 500 (s.spindle b).stopTimer
  motions : ∀ b, below 500 (s.positioner b).loadTimer ∧ below 300 (s.positioner b).recalTimer ∧
    below 100 (s.positioner b).seekTimer ∧ below 20 (s.positioner b).settleLimit ∧
    below 100 (s.positioner b).stopTimer
  settle : ∀ b, (s.positioner b).state = .settling → (s.positioner b).settleWait ≠ some 0
  hold : ∀ b, (s.positioner b).state = .retracting → below 50 (s.positioner b).parkHold
  retract : ∀ b, (s.positioner b).state = .retracting → (s.positioner b).parkHold = none →
    below 300 (s.positioner b).retractTimer
  bays : ∀ b, below 300 (s.bay b).pulse ∧ below 2000 (s.bay b).leave ∧ below 2000 (s.bay b).startBound ∧
    below 1000 (s.bay b).retry
  idle : ∀ b, s.settings.idleLimit ≠ 0 → below (10000 * s.settings.idleLimit) (s.bay b).idle
  refresh : ∀ b, below 1000 (s.link.refreshTimer.get b)
  poll : below s.hostFields.pollInterval.toNat s.link.pollTimer

/-- Nothing comes due in the next cycle: every sampled input is as it was accepted or last sampled, no timer
is one tick from its limit, and no Part Reset runs the part down. -/
structure State.quiet (s : State) : Prop where
  supply : s.supply.accepted = false ∧ s.pins.supplyLow = false ∧ s.resetInProgress = false
  edges : ∀ b, ((s.pinsOf b).tach = true → (s.spindle b).tachLast = true) ∧
    ((s.pinsOf b).index = true → (s.spindle b).indexLast = true) ∧
    (s.pinsOf b).crossA = (s.positioner b).crossA ∧ (s.pinsOf b).crossB = (s.positioner b).crossB ∧
    (s.pinsOf b).outerGuard = (s.positioner b).outerGuard.accepted
  inputs : ∀ b, (s.bay b).sensing = true ∧ (s.bay b).presentUndecided = false ∧
    (s.pinsOf b).present = (s.bay b).present.accepted ∧
    (s.pinsOf b).writeProtect = (s.bay b).writeProtect.accepted ∧
    (s.pinsOf b).ejectButton = (s.bay b).button.accepted ∧
    (s.pinsOf b).parkDetect = (s.bay b).parkDetect.accepted
  micro : ∀ b, (s.positioner b).crossTimer ≠ 1999 ∧ (s.positioner b).sampling = false ∧
    ((s.positioner b).state.underLoop = true → (s.positioner b).velTimer < 499) ∧
    ((s.spindle b).phase.runsLaw = true → below 99999 (s.spindle b).markTimer) ∧
    ((s.spindle b).indexArmed = true → below (indexPeriod (s.spindle b).activeTarget +
      indexHalf (s.spindle b).activeTarget) (s.spindle b).indexSince)
  spindles : ∀ b, below 1999 (s.spindle b).startTimer ∧
    below (1000 * s.settings.spinUpLimit - 1) (s.spindle b).spinUpTimer ∧
    below (100 * s.settings.relockLimit - 1) (s.spindle b).driftTimer ∧
    below 499 (s.spindle b).stopTimer
  heads : ∀ b, below 49 (s.positioner b).parkHold ∧
    ((s.positioner b).parkHold = none → below 299 (s.positioner b).retractTimer) ∧
    ((s.positioner b).parkHold ≠ none → below 300 (s.positioner b).retractTimer) ∧
    below 499 (s.positioner b).loadTimer ∧ below 299 (s.positioner b).recalTimer ∧
    below 99 (s.positioner b).seekTimer ∧ below 19 (s.positioner b).settleLimit ∧
    below 99 (s.positioner b).stopTimer ∧ (s.positioner b).settleWait ≠ some 0 ∧
    (s.positioner b).settleWait ≠ some 1
  bays : ∀ b, below 299 (s.bay b).pulse ∧ below 1999 (s.bay b).leave ∧ below 1999 (s.bay b).startBound ∧
    below 999 (s.bay b).retry ∧
    (s.settings.idleLimit ≠ 0 → below (10000 * s.settings.idleLimit - 1) (s.bay b).idle)
  link : (∀ b, below 999 (s.link.refreshTimer.get b)) ∧
    below (s.hostFields.pollInterval.toNat - 1) s.link.pollTimer

/-! ### The Task Queue (R135, R138, R161 to R163) -/

/-- A take under way: the accesses of R161 and R162 up to the moment a block joins the queue. -/
def Fetch.taking : Fetch → Bool
  | .readLink | .readBlock _ | .stamp _ _ => true
  | _ => false

/-- What the chain walk shows while a burst of a take from its step 1 on, or of its Cursor write, is in
progress. -/
def BurstWork.takeStep : BurstWork → Option Fetch
  | .readBlock a => some (.readBlock a)
  | .stamp a t => some (.stamp a t)
  | .writeCursor => some .writeCursor
  | _ => none

/-- R135 with what the takes and the finishes rely on: entries have names of their own, a waiting finish
is of an entry in FINISHING, a take has a place to fill, and an OFFLINE link has no work and is not what a
HALTED one goes back to. R138: of two tasks that name one bay, or of which one is part-wide, the younger is
ACTIVE only once the older has been handed over. -/
structure State.queueLaw (s : State) : Prop where
  count : s.countLaw
  names : (s.entries.map Entry.id).Nodup ∧ ∀ e ∈ s.entries, e.id < s.nextId
  finishing : s.finishing.Nodup ∧
    ∀ id ∈ s.finishing, ∃ e ∈ s.entries, e.id = id ∧ e.state = .finishing
  taking : s.link.fetch.taking = true → s.entries.length < Config.queueSize
  burst : ∀ x, s.burst = some x → ∀ f, x.work.takeStep = some f → s.link.fetch = f
  offline : s.link.state = .offline → s.entries = [] ∧ s.link.fetch = .idle
  halted : s.link.state = .halted → s.link.haltedFrom ≠ .offline
  turns : s.entries.Pairwise fun o e => e.state = .active →
    (o.partWide = true ∨ e.partWide = true ∨ ∃ b, o.names b = true ∧ e.names b = true) →
    o.state = .finishing

/-! ### What follows an event -/

/-- What of the machine no wait changes: the commands that wait, the clock, the supply, Reset in Progress,
the ports, the counts, the settings, the input levels, host memory, the number of slots; of each bay its
Media Generation and accepted Present; of each task its block, its Sectors Done and its Abort mark; of
each spindle the duty in force, the PWM line and the last samples; of each actuator the Track Counter,
the velocity and the last samples. -/
structure Standing where
  pending : List Instr
  cycle : Nat
  instant : Nat
  supply : Supply
  resetInProgress : Bool
  ports : Ports
  counts : Counts
  settings : Settings
  pins : Pins
  hostMem : Memory
  nextId : Nat
  slotCount : Nat
  media : PerBay (Nat × Bool)
  tasks : List (Nat × TaskBlock × Nat × Nat × Bool)
  drives : PerBay (Nat × Bool × Bool × Bool)
  heads : PerBay (Int × Nat × Nat × Direction × Debounced × Bool × Bool)

/-- One value of each bay taken from another. -/
def PerBay.map {α β : Type} (f : α → β) (p : PerBay α) : PerBay β := ⟨f p.bay0, f p.bay1⟩

/-- The parts of each block's record that stand. -/
def BayControl.media (c : BayControl) : Nat × Bool := (c.generation, c.present.accepted)
def Entry.task (e : Entry) : Nat × TaskBlock × Nat × Nat × Bool :=
  (e.id, e.block, e.blockAddress, e.sectorsDone, e.aborted)
def Spindle.drive (q : Spindle) : Nat × Bool × Bool × Bool :=
  (q.dutyActive, q.pwm, q.tachLast, q.indexLast)
def Positioner.heads (p : Positioner) : Int × Nat × Nat × Direction × Debounced × Bool × Bool :=
  (p.counter, p.vmeas, p.crossTimer, p.lastDirection, p.outerGuard, p.crossA, p.crossB)

/-- What of a state stands while an instant runs to its end. -/
def State.standing (s : State) : Standing where
  pending := s.pending
  cycle := s.cycle
  instant := s.instant
  supply := s.supply
  resetInProgress := s.resetInProgress
  ports := s.ports
  counts := s.counts
  settings := s.settings
  pins := s.pins
  hostMem := s.hostMem
  nextId := s.nextId
  slotCount := s.slots.length
  media := PerBay.map BayControl.media s.bays
  tasks := s.entries.map Entry.task
  drives := PerBay.map Spindle.drive s.spindles
  heads := PerBay.map Positioner.heads s.positioners

/-- Nothing more follows in this instant: no wait has ended. -/
def State.Settled (s : State) : Prop := firstWait s waits = none

end Sys2Proof.Machine
end

