-- ==== Sys2Proof/Certificates/Slice0/Obligations.lean ====
section
/-!
DEFINITION. The statements for the provers, in the order of OBLIGATIONS.json. `exec c s` is taken as a whole:
`State.instantEnd` is what follows the command in the same instant, and `State.standing` what of a state
nothing that follows changes.
-/

section

open Sys2Proof Sys2Proof.Machine

/-! ### Every step -/

/-- A step takes the command at the front of the queue, with the queue's rest. -/
def Obligations.StepTakesTheFrontCommand : Prop :=
  ∀ (s : State) (c : Instr) (rest : List Instr), s.pending = c :: rest →
    step s = exec c { s with pending := rest }

/-- Every command ends in a next state, whatever the state: it keeps the commands that wait and the number
of slots, and it is an instant of its own. With no command waiting a step is one cycle of the clock
(log 1). -/
def Obligations.EveryStepCompletes : Prop :=
  (∀ (c : Instr) (s : State),
    ∃ t : State, exec c s = .next t ∧ t.pending = s.pending ∧ t.slots.length = s.slots.length ∧
      t.instant = s.instant + 1 ∧ s.nextId ≤ t.nextId ∧
      (c ≠ .busReset → t.cycle = s.cycle ∧ s.freeCount ≤ t.freeCount)) ∧
  ∀ s : State, s.pending = [] →
    ∃ t : State, step s = .next t ∧ t.pending = [] ∧ t.cycle = s.cycle + 1 ∧
      s.instant ≤ t.instant ∧ t.hostMem = s.hostMem ∧ t.nextId = s.nextId ∧
      t.slots.length = s.slots.length ∧ t.burst.isNone = s.burst.isNone

/-- R130, R179: host memory changes at the end of a burst only, and then in the bytes the burst wrote.
R168: a setting changes only at the end of a burst (R169) and at the two resets. R4: Media Generation
changes only at an insertion and at Bus Reset. That a Bus Reset leaves host memory as it was, also with a
burst in progress (log 47, log 21), and that the bytes of a burst past the end of the 16 MiB go on at address
0 (log 6), are the model's choices. -/
def Obligations.OnlyTheirEventsChangeThem : Prop :=
  ∀ (c : Instr) (s t : State), exec c s = .next t →
    ((∀ words, c ≠ .burstComplete words) → t.hostMem = s.hostMem) ∧
    (∀ words, c = .burstComplete words →
      (s.burst = none → t.hostMem = s.hostMem) ∧
      (∀ x, s.burst = some x →
        ∀ a, (∀ i < 2 * x.words.length, a ≠ (x.address + i) % 2 ^ 24) →
          t.hostMem.read a = s.hostMem.read a)) ∧
    (c ≠ .busReset → c ≠ .resetInProgressEnd →
      ((∀ words, c ≠ .burstComplete words) → t.settings = s.settings) ∧
      (∀ b, c ≠ .presentAcceptedTrue b → c ≠ .presentDecided b true →
        (t.bay b).generation = (s.bay b).generation))

/-- R130, R166: at the end of every step the interrupt line and the DMA request line show their
conditions. R21, R160, R165: the idle, refresh and poll timers run exactly while theirs hold. That the DMA
request line falls at once where the last request is withdrawn before a grant is the model's choice (log 55).
An idle timer stopped at the Idle Limit stays stopped while its conditions hold on; that a change of the Idle
Limit does not start it again is the model's choice (log 69). -/
def Obligations.LinesAndTimersShowTheirConditions : Prop :=
  ∀ s t : State, step s = .next t →
    (t.link.interruptLine = true ↔
      t.hostFields.interruptEnable = true ∧
        (t.counts.finished ≠ t.hostFields.finishedSeen ∨
          (∃ b, t.counts.sequence.get b ≠ t.hostFields.conditionSeen.get b) ∨
          t.counts.fault ≠ .none)) ∧
    (t.dmaRequest = true ↔
      t.burst ≠ none ∨ (∃ x ∈ t.slots, slotRequests x = true) ∨ t.finishing ≠ [] ∨
        t.link.recordOrder ≠ [] ∨ t.fetchWork ≠ none) ∧
    (∀ b, (t.bay b).idle.isSome = true ↔
      (t.bay b).state = .locked ∧ (t.spindle b).phase = .locked ∧ (t.bay b).idleSpent = false ∧
        ∀ e ∈ t.entries, e.names b = false) ∧
    (∀ b, (t.bay b).idleSpent = true →
      (t.bay b).state = .locked ∧ (t.spindle b).phase = .locked ∧ ∀ e ∈ t.entries, e.names b = false) ∧
    (∀ b, (t.link.refreshTimer.get b).isSome = true ↔
      (t.spindle b).phase ≠ .stopped ∧
        (t.link.state = .running ∨ t.link.state = .draining ∨ t.link.state = .stalled)) ∧
    (t.link.pollTimer.isSome = true ↔
      t.link.state = .running ∧ t.hostFields.pollInterval ≠ 0 ∧ t.resetInProgress = false)

/-- R1, R24, R57, R172: what one cycle of the clock samples. The Supply Monitor and Outer Guard are sampled at
every cycle, four equal samples making an acceptance; the four bay inputs at the 1 ms tick, Park Detect with a
count of 3 and the others with the counts of the settings. While Supply Low is accepted no samples are taken
and the values and runs stand; a bay that the recovery lets sense again has taken no sample yet (R174). That a
cycle is a step with no command waiting is the model's choice (log 1), and so is the order within one cycle
(log 31). -/
def Obligations.ClockSamplesTheInputs : Prop :=
  ∀ s t : State, s.pending = [] → step s = .next t →
    let tick := (s.cycle + 1) % 8000 = 0
    let taken (count : Nat) (v : Bool) (d : Debounced) : Debounced :=
      if v = d.accepted then ⟨d.accepted, 0⟩
      else if count ≤ d.run + 1 then ⟨v, 0⟩
      else ⟨d.accepted, d.run + 1⟩
    (s.supply.accepted = false →
      (s.pins.supplyLow = false → t.supply.accepted = false ∧ t.supply.lowRun = 0) ∧
      (s.pins.supplyLow = true → s.supply.lowRun < 3 →
        t.supply.accepted = false ∧ t.supply.lowRun = s.supply.lowRun + 1) ∧
      (s.pins.supplyLow = true → 3 ≤ s.supply.lowRun → t.supply.accepted = true)) ∧
    (s.supply.accepted = true →
      (s.pins.supplyLow = true →
        t.supply.accepted = true ∧ t.supply.goodTimer = some (if tick then 1 else 0)) ∧
      (s.pins.supplyLow = false → ¬tick → t.supply = s.supply) ∧
      (s.pins.supplyLow = false → tick → ∀ n, s.supply.goodTimer = some n →
        (n + 1 < 100 → t.supply = { s.supply with goodTimer := some (n + 1) }) ∧
        (100 ≤ n + 1 → t.supply = ⟨false, 0, none⟩))) ∧
    ∀ b,
      let x := s.pinsOf b
      let c := s.bay b
      let r := t.bay b
      (t.positioner b).outerGuard = taken 4 x.outerGuard (s.positioner b).outerGuard ∧
      ((¬tick ∧ c.sensing = true ∧ s.supply.accepted = t.supply.accepted) ∨
          (t.supply.accepted = true ∧ (c.sensing = false ∨ s.supply.accepted = false)) →
        r.present = c.present ∧ r.writeProtect = c.writeProtect ∧ r.button = c.button ∧
          r.parkDetect = c.parkDetect) ∧
      (tick → c.sensing = true → s.supply.accepted = false → t.supply.accepted = false →
        r.parkDetect = taken 3 x.parkDetect c.parkDetect ∧
        r.writeProtect = taken s.settings.presenceCount x.writeProtect c.writeProtect ∧
        r.button = taken (if c.button.accepted then s.settings.releaseCount else s.settings.pressCount)
          x.ejectButton c.button ∧
        (c.presentUndecided = false → r.presentUndecided = false ∧
          r.present = taken s.settings.presenceCount x.present c.present) ∧
        (c.presentUndecided = true →
          let run := if x.present = c.undecidedLevel then c.present.run + 1 else 1
          (run < s.settings.presenceCount → r.presentUndecided = true ∧
            r.undecidedLevel = x.present ∧ r.present = ⟨c.present.accepted, run⟩) ∧
          (s.settings.presenceCount ≤ run → r.presentUndecided = false ∧ r.present = ⟨x.present, 0⟩))) ∧
      (c.sensing = false → s.supply.accepted = true → t.supply.accepted = false → r.sensing = true →
        r.presentUndecided = true ∧ r.present = ⟨c.present.accepted, 0⟩ ∧ r.writeProtect = ⟨false, 0⟩ ∧
          r.button = ⟨false, 0⟩ ∧ r.parkDetect = ⟨false, 0⟩)

/-- Spec/00 section 4.1 with R13, R17, R21, R32, R33, R39, R40, R43, R62 to R69, R75, R78, R79, R160, R165,
R172: no timer stands at its limit after the tick that counts it, and none expires before: a cycle in which
none comes to its limit takes no event and only counts, each running 1 ms timer by one exactly at the 1 ms
tick, the Settle Time down and the others up. What each expiry does is said of its command; that a cycle is a
step with no command waiting is the model's choice (log 1). -/
def Obligations.TimersExpireAtTheirLimits : Prop :=
  ∀ s t : State, s.pending = [] → step s = .next t →
    let tick := (s.cycle + 1) % 8000 = 0
    let up (n : Option Nat) : Option Nat := if tick then n.map fun x => x + 1 else n
    let runsOn (x y : Option Nat) : Prop := x.isSome = true → y.isSome = true → y = up x
    (tick → s.settings.inRange → t.limitsKept) ∧
    ((s.cycle + 1) % 8 = 0 → ∀ b,
      ((t.spindle b).phase.runsLaw = true → below 100000 (t.spindle b).markTimer) ∧
      ((t.positioner b).state.underLoop = true → (t.positioner b).velTimer < 500) ∧
      ((t.positioner b).sampling = true → (t.positioner b).sampleTimer < 100)) ∧
    (s.quiet → (s.cycle + 1) % 1024 ≠ 0 →
      t.instant = s.instant ∧ t.entries = s.entries ∧ ∀ b,
        (let q := s.spindle b
         let r := t.spindle b
         r.phase = q.phase ∧ r.startTimer = up q.startTimer ∧ r.spinUpTimer = up q.spinUpTimer ∧
           r.driftTimer = up q.driftTimer ∧ r.stopTimer = up q.stopTimer) ∧
        (let p := s.positioner b
         let r := t.positioner b
         r.state = p.state ∧ r.loadTimer = up p.loadTimer ∧ r.recalTimer = up p.recalTimer ∧
           r.seekTimer = up p.seekTimer ∧ r.settleLimit = up p.settleLimit ∧
           r.settleWait = (if tick then p.settleWait.map fun n => n - 1 else p.settleWait) ∧
           r.stopTimer = up p.stopTimer ∧ r.parkHold = up p.parkHold ∧
           r.retractTimer = if p.parkHold.isSome then p.retractTimer else up p.retractTimer) ∧
        (let c := s.bay b
         let r := t.bay b
         r.state = c.state ∧ r.startBound = up c.startBound ∧ r.leave = up c.leave ∧
           r.retry = up c.retry ∧ runsOn c.pulse r.pulse ∧ runsOn c.idle r.idle ∧
           (c.eject = false ∨ s.ejectAllowed b = true → r.pulse = up c.pulse)) ∧
        runsOn (s.link.refreshTimer.get b) (t.link.refreshTimer.get b) ∧
        runsOn s.link.pollTimer t.link.pollTimer)

/-- What holds where nothing more follows in an instant: R98 of a Held press, R91 of a grant, R90 of the
Waiting bay, R13 of the solenoid, R17 of a bay in FAULT, R60 and R76 of the Positioner, R120 of the waiters,
R136 of the ended tasks, R138 of the tasks whose turn has not come, R146 of a Spin Down that waits for its
stop, R157 of DRAINING, R159 to R161 of the fetcher, and R162 of a take not yet at its step 1 when the link
leaves RUNNING. That a DRAINING link with an empty queue still ends a take that has come to its step 1, and
the write of a Link Fault, is the model's choice (log 17). The second part is the fetcher's own wait where no
other has ended (R159 to R161): a difference above 32,768 is a COUNT SKEW, whatever the queue holds, and any
other begins a fetch where the queue has a place. That the re-read of an Attention held by then comes first
(log 50), and that a held Park over a mount's read which slips waits only for the channel (log 72), are the
model's choices. -/
def Obligations.SettledStatesObeyTheWaits : Prop :=
  (∀ s : State, s.Settled → ∀ b,
    (s.channel.heldPress = some b → s.channel.grant = some b ∧ s.channel.writeGate = true) ∧
    (s.channel.grant = some b → s.client? b ≠ none) ∧
    (s.channel.waiting = some b → s.channel.grant ≠ none ∧ s.requestStands b = true) ∧
    ((s.bay b).eject = true → (s.bay b).parkDetect.accepted = true ∧
      (s.spindle b).phase = .stopped ∧ (s.bay b).lock = false ∧ s.writingTo b = false) ∧
    ((s.bay b).state = .fault → (s.positioner b).state ≠ .parked) ∧
    ((s.positioner b).pendingHead ≠ none → s.channel.grant = some b) ∧
    (∀ g, (s.positioner b).state = .following → (s.positioner b).held = some ⟨.park, g⟩ →
      s.channel.grant = some b) ∧
    (s.freeSlot? ≠ none → ∀ id ∈ s.waiters, Config.slotQuota ≤ s.slotsOf id) ∧
    (∀ e ∈ s.entries, s.handsOver e = false) ∧
    (∀ e ∈ s.entries, e.state = .queued ∨ e.state = .waiting → e.ending = none →
      s.supply.accepted = false → s.turnCome e = false) ∧
    (∀ e ∈ s.entries, e.state = .active → e.ending = none → e.stage = .stopping →
      (s.spindle e.bay).phase = .stopping) ∧
    (s.link.state = .draining → s.entries = [] → s.takeStands = true) ∧
    (s.link.state ≠ .running → s.link.fetch ≠ .readLink ∧
      ∀ a, s.link.fetch = .readBlock a → s.burst.map Burst.work = some (.readBlock a)) ∧
    (s.link.state = .running → s.resetInProgress = false → s.link.fetch = .idle →
      s.link.attentionHeld = false → s.link.startWrite = false → s.link.faultClear = false →
      s.fetcherBusy = false →
      let ahead := (s.hostFields.posted - s.counts.taken).toNat
      ahead ≤ 32768 ∧ (s.link.pollDue = false → ahead = 0 ∨ 8 ≤ s.entries.length))) ∧
  ∀ s : State, firstWait s waits.dropLast = none → s.link.state = .running →
    s.resetInProgress = false → s.link.fetch = .idle → s.link.attentionHeld = false →
    s.link.startWrite = false → s.link.faultClear = false → s.fetcherBusy = false →
    let ahead := (s.hostFields.posted - s.counts.taken).toNat
    (1 ≤ ahead → ahead ≤ 32768 → s.link.pollDue = false → s.entries.length < 8 →
      s.instantEnd = State.closed { s with link := { s.link with fetch := .readLink } }) ∧
    (32768 < ahead → s.instantEnd =
      State.closed { s with link := { s.link with fetch := .writeFault .countSkew } })

/-! ### Laws that every step keeps -/

/-- Every law of the manual that the statements below speak of holds right after Bus Reset. -/
def Obligations.ResetMeetsEveryLaw : Prop :=
  State.reset.rangeLaw ∧ State.reset.permitInv ∧ State.reset.flyInv ∧ State.reset.queueLaw ∧
    State.reset.memoryLaw ∧ State.reset.slotInv ∧ State.reset.gateLaw ∧ State.reset.ejectLaw ∧
    ∀ b, (State.reset.map b).tableLaw

/-- Every register keeps its range: the settings (R168), the spindle's periods, speed, Integrator and duties
(R26 to R28, R35, R36), the actuator's counter, velocity and DAC (R55, R65, R67), the counts of the channel
(R92, R93, R100), Media Generation (R4) and the retries (R109, R117, R150). -/
def Obligations.StepKeepsTheRanges : Prop :=
  ∀ s t : State, s.rangeLaw → step s = .next t → t.rangeLaw

/-- R45: a spindle is STARTING or ACCELERATING exactly while its bay holds the Spin-Up Permit. -/
def Obligations.StepKeepsThePermitLaw : Prop :=
  ∀ s t : State, s.permitInv → step s = .next t → t.permitInv

/-- R54: the heads are over the platter only while it turns in LOCKED or DRIFTING. -/
def Obligations.StepKeepsTheFlyingLaw : Prop :=
  ∀ s t : State, s.flyInv → step s = .next t → t.flyInv

/-- R135: Taken Count minus Finished Count is the number of tasks in the Task Queue, which never exceeds
eight. R138: of two tasks that name one bay, or of which one is part-wide, the younger is ACTIVE only once
the older has been handed over. -/
def Obligations.StepKeepsTheQueueLaw : Prop :=
  ∀ s t : State, s.queueLaw → step s = .next t → t.queueLaw

/-- R98, R13: after every step the write gate and the Eject solenoids are asserted only where all their
conditions hold. -/
def Obligations.StepKeepsTheGateAndEjectLaws : Prop :=
  ∀ s t : State, step s = .next t → t.gateLaw ∧ t.ejectLaw

/-- R119, R120: sixteen slots, each FREE exactly while it has no owner, and no task with more than its
quota; the channel and the Bus Master work on slots that are theirs. -/
def Obligations.StepKeepsTheSlotLaw : Prop :=
  ∀ s t : State, s.slotInv → step s = .next t → t.slotInv

/-! ### The ports (spec/08 section 8.2) -/

/-- R156, R158: a command write by its code and the Link State, a Start taken and one that is refused, and
every command while Reset in Progress shows. A code outside 1 to 5 is unknown; one of the five does what
the command it names does, and a word written to the port spells that command
(spec/11 section 11.8, log 32). Which of the two records is first in order at a Start is the choice R164 leaves
open (a free value, log 9); an OFFLINE link holds no pending record (R157). That GO_OFFLINE drops a poll
that is due is the model's choice (log 37). -/
def Obligations.CommandsAreTakenByLinkState : Prop :=
  ∀ s : State,
    let next : State := { s with instant := s.instant + 1 }
    let bad : State := { next with ports := { s.ports with badCommand := true } }
    (s.resetInProgress = true →
      ∀ c ∈ [Instr.start, .attention, .abort, .goOffline, .partReset], exec c s = .next bad.instantEnd) ∧
    (∀ code : Word, code.toNat = 0 ∨ 5 < code.toNat →
      exec (.unknownCommand code) s = .next bad.instantEnd) ∧
    (∀ x ∈ [(1#16, Instr.start), (2#16, .attention), (3#16, .abort), (4#16, .goOffline),
        (5#16, .partReset)], exec (.unknownCommand x.1) s = exec x.2 s ∧
      decodeTableWord 16 x.1.toNat = some x.2) ∧
    (s.resetInProgress = false →
      (s.link.state = .offline → s.supply.accepted = false → s.ports.anchor.toNat ≠ 0 →
        s.ports.anchor.toNat % 16 = 0 → s.ports.anchor.toNat < 2 ^ 24 → s.link.recordOrder = [] →
        ∃ first : Bay, exec .start s = .next (State.instantEnd
          { next with
            freeCount := s.freeCount + 1
            counts := { s.counts with taken := 0, finished := 0, cursor := 0, fault := .none }
            link := { s.link with
              state := .running, attentionHeld := true, startWrite := true
              pendingRecord := ⟨.raised, .raised⟩, recordOrder := [first, first.other] } })) ∧
      (s.link.state ≠ .offline → exec .start s = .next bad.instantEnd) ∧
      (s.link.state = .offline →
        s.ports.anchor = 0 ∨ s.ports.anchor.toNat % 16 ≠ 0 ∨ 2 ^ 24 ≤ s.ports.anchor.toNat ∨
          s.supply.accepted = true →
        exec .start s = .next bad.instantEnd) ∧
      (s.link.state = .offline →
        ∀ c ∈ [Instr.attention, .abort, .goOffline], exec c s = .next bad.instantEnd) ∧
      (s.link.state = .running ∨ s.link.state = .draining →
        exec .attention s =
          .next { next with link := { s.link with attentionHeld := true } }.instantEnd) ∧
      (s.link.state = .stalled →
        exec .attention s = .next (State.instantEnd
          { next with
            counts := { s.counts with fault := .none }
            link := { s.link with state := .running, faultClear := true, attentionHeld := true } })) ∧
      (s.link.state = .running ∨ s.link.state = .draining ∨ s.link.state = .stalled →
        exec .abort s =
          .next { next with entries := s.entries.map fun e : Entry => { e with aborted := true } }.instantEnd) ∧
      (s.link.state = .running ∨ s.link.state = .stalled →
        exec .goOffline s = .next
          { next with link := { s.link with state := .draining, pollDue := false } }.instantEnd) ∧
      (s.link.state = .draining → exec .goOffline s = .next next.instantEnd) ∧
      (s.link.state = .halted →
        exec .attention s = .next next.instantEnd ∧ exec .abort s = .next next.instantEnd ∧
          exec .goOffline s =
            .next { next with link := { s.link with offlineHeld := true } }.instantEnd))

/-- R175, R23: Part Reset taken while none is in progress. Every entry is marked; an Eject whose pulse and
timers the run-down stops has its end decided at once (the model's choice, log 19), and a poll that is due
is dropped with the held Attention (the model's choice, log 37). That the retry timer of a bay in FAULT stops
here is the model's choice too (log 64). -/
def Obligations.PartResetBeginsTheRunDown : Prop :=
  ∀ s : State, s.resetInProgress = false →
    let begun (c : BayControl) : BayControl :=
      { c with
        eject := false, startBound := none, pulse := none, leave := none, retry := none
        runDownPark := true }
    exec .partReset s = .next (State.instantEnd
      { s with
        instant := s.instant + 1
        resetInProgress := true
        link := { s.link with attentionHeld := false, pollDue := false }
        entries := s.entries.map fun e : Entry =>
          if e.stage = .ejecting then completed { e with aborted := true }
          else { e with aborted := true }
        bays := ⟨begun s.bays.bay0, begun s.bays.bay1⟩ })

/-- R155: the three ports. -/
def Obligations.PortsHoldAnchorAndStatus : Prop :=
  ∀ s : State,
    let next : State := { s with instant := s.instant + 1 }
    s.anchorRead .high ++ s.anchorRead .low = s.ports.anchor ∧
    (∀ value : Word, s.link.state = .offline → s.resetInProgress = false →
      exec (.anchorWrite .low value) s = .next (State.instantEnd
        { next with ports := { s.ports with anchor := s.anchorRead .high ++ value } }) ∧
      exec (.anchorWrite .high value) s = .next (State.instantEnd
        { next with ports := { s.ports with anchor := value ++ s.anchorRead .low } })) ∧
    (∀ (half : AnchorHalf) (value : Word), s.link.state ≠ .offline ∨ s.resetInProgress = true →
      exec (.anchorWrite half value) s = .next (State.instantEnd
        { next with ports := { s.ports with badCommand := true } })) ∧
    ∃ status : Word,
      exec .statusRead s = .next (State.instantEnd
        { next with ports := { s.ports with dataOut := status, badCommand := false } }) ∧
      status.toNat % 8 = (match s.link.state with
        | .offline => 0
        | .running => 1
        | .draining => 2
        | .stalled => 3
        | .halted => 4) ∧
      status.getLsbD 3 = s.link.interruptLine ∧ status.getLsbD 4 = s.supply.accepted ∧
      status.getLsbD 5 = s.ports.badCommand ∧ status.getLsbD 6 = s.resetInProgress ∧
      ∀ i, 7 ≤ i → status.getLsbD i = false

/-! ### The supply and the resets (spec/10) -/

/-- R177 with the Bus Reset columns of spec/01 section 1.11, spec/02 section 2.12, spec/03 section 3.12,
spec/04 section 4.9, spec/05 section 5.8, spec/06 section 6.9 and spec/08 section 8.1: the machine after
Bus Reset, whatever it was. What is no block's state stays (log 21), and the levels an edge is looked for
from are those that stand (log 22). -/
def Obligations.BusResetRestoresEveryBlock : Prop :=
  ∀ s : State, exec .busReset s = .next
    { State.reset with
      pending := s.pending
      instant := s.instant + 1
      freeCount := s.freeCount
      pins := s.pins
      spindles :=
        ⟨{ Spindle.reset with tachLast := s.pins.bays.bay0.tach, indexLast := s.pins.bays.bay0.index },
          { Spindle.reset with tachLast := s.pins.bays.bay1.tach, indexLast := s.pins.bays.bay1.index }⟩
      positioners :=
        ⟨{ Positioner.reset with crossA := s.pins.bays.bay0.crossA, crossB := s.pins.bays.bay0.crossB },
          { Positioner.reset with crossA := s.pins.bays.bay1.crossA, crossB := s.pins.bays.bay1.crossB }⟩
      slots := s.slots.map fun x => Slot.freed x.data
      hostMem := s.hostMem
      nextId := s.nextId
      mediumOut := s.mediumOut }

/-- R173 with R24, R44, R47, R82, R103, R154, R167: the acceptance of Supply Low, in the instant of the
acceptance: what every part of the machine becomes, and what it keeps. Then a further low sample (R172), and
the supply recovery with the third column of spec/03 section 3.12 (R172, R174). That an end already decided
keeps its result (log 56), that a Brake waiting for its PWM boundary in STOPPING goes on waiting (log 54), and
that a recovery with Supply Low not accepted changes nothing (log 11) are the model's choices. -/
def Obligations.SupplyLowAndItsRecovery : Prop :=
  ∀ s : State,
    let next : State := { s with instant := s.instant + 1 }
    let recovered (p : Positioner) : Positioner :=
      { p with
        target := 0, headSelect := 0, reseekUsed := false, pendingHead := none
        vmeas := if p.state = .parked then 0 else p.vmeas
        crossTimer := if p.state = .parked then 0 else p.crossTimer }
    (s.supply.accepted = false →
      ∃ t : State, exec .supplyLowAccepted s = .next t.instantEnd ∧
        t.supply = ⟨true, 0, some 0⟩ ∧
        (t.channel.grant = none ∧ t.channel.waiting = none ∧ t.channel.search = .idle ∧
          t.channel.format = .idle ∧ t.channel.writeGate = false ∧ t.channel.readGate = false ∧
          t.channel.heldPress = none ∧ t.channel.retryCount = ⟨0, 0⟩) ∧
        (t.permitHolder = none ∧ t.permitWaiting = none ∧ t.waiters = []) ∧
        t.entries.map (fun e => (e.id, e.state, e.ending, e.sectorsDone)) =
          s.entries.map (fun e => (e.id, e.state,
            if e.state = .finishing then e.ending else some (e.ending.getD .powerLoss), e.sectorsDone)) ∧
        (∀ b, (t.bay b).state = (if (s.bay b).present.accepted then .seated else .empty) ∧
          (t.bay b).lock = false ∧ (t.bay b).eject = false ∧ (t.bay b).prevent = false ∧
          (t.bay b).idle = none ∧ (t.bay b).startBound = none ∧ (t.bay b).pulse = none ∧
          (t.bay b).leave = none ∧ (t.bay b).retry = none ∧ (t.bay b).sensing = false ∧
          (t.bay b).generation = (s.bay b).generation ∧ (t.bay b).faultClass = (s.bay b).faultClass) ∧
        (∀ b, (t.map b).status = .none ∧ (t.map b).table = [] ∧ (t.map b).nextSpare = 0 ∧
          (t.map b).softErrors = (s.map b).softErrors) ∧
        (∀ b,
          (((s.positioner b).state.loaded = true ∨ (s.positioner b).state = .fault) →
            (t.positioner b).state = .retracting ∧ (t.positioner b).followEnable = false ∧
              (t.positioner b).retract = true) ∧
          (((s.positioner b).state = .parked ∨ (s.positioner b).state = .retracting) →
            (t.positioner b).state = (s.positioner b).state) ∧
          (t.positioner b).order = none ∧ (t.positioner b).held = none) ∧
        (∀ b,
          ((s.spindle b).phase = .stopped → t.spindle b = s.spindle b) ∧
          ((s.spindle b).phase = .pending → (t.spindle b).phase = .stopped) ∧
          ((s.spindle b).phase = .stopping → t.spindle b =
            { s.spindle b with dutyActive := 0, pwm := false, restartHeld := false }) ∧
          (((s.spindle b).phase ≠ .stopped ∧ (s.spindle b).phase ≠ .pending ∧
              (s.spindle b).phase ≠ .stopping) →
            (t.spindle b).phase = .stopping ∧ (t.spindle b).dutyActive = 0 ∧
              (t.spindle b).dutyStaging = 0 ∧ (t.spindle b).pwm = false ∧
              (t.spindle b).stopTimer = some 0 ∧
              (t.spindle b).brakeDeferred = decide ((s.positioner b).state ≠ .parked) ∧
              (t.spindle b).brake = decide ((s.positioner b).state = .parked))) ∧
        ((s.link.state = .offline ∨ s.link.state = .halted) → t.link.state = s.link.state) ∧
        ((s.link.state = .running ∨ s.link.state = .draining ∨ s.link.state = .stalled) →
          t.link.state = .halted ∧ t.link.haltedFrom = s.link.state ∧
            t.link.attentionHeld = false ∧ t.link.pendingRecord = ⟨.none, .none⟩) ∧
        t.counts = s.counts ∧ t.settings = s.settings ∧ t.ports = s.ports ∧ t.hostMem = s.hostMem ∧
        (s.burst = none → ∀ x ∈ t.slots, x.state = .free) ∧ t.finishing = s.finishing ∧
        t.resetInProgress = s.resetInProgress ∧
        t.hostFields = s.hostFields) ∧
    (s.supply.accepted = true → exec .supplyLowAccepted s = .next (State.instantEnd
      { next with supply := { s.supply with goodTimer := some 0 } })) ∧
    (s.supply.accepted = true →
      exec .supplyRecovery s = .next (State.instantEnd
        { next with
          supply := ⟨false, 0, none⟩
          pins := { s.pins with supplyLow := false }
          positioners := ⟨recovered s.positioners.bay0, recovered s.positioners.bay1⟩ })) ∧
    (s.supply.accepted = false → exec .supplyRecovery s = .next next.instantEnd)

/-- R176, R23: the end of Reset in Progress, taken exactly where its conditions hold. That it waits for a
take in progress, from its link read to its write of Taken Count (R175), and not for the write of a Link
Fault that stands between two bursts, is the model's choice (log 57). -/
def Obligations.ResetInProgressEnds : Prop :=
  ∀ s : State,
    let ended := s.resetInProgress = true ∧ s.entries = [] ∧ s.burst = none ∧
      s.supply.accepted = false ∧ (s.link.fetch = .idle ∨ ∃ f, s.link.fetch = .writeFault f) ∧
      ∀ b, ((s.positioner b).state = .parked ∨ (s.positioner b).state = .fault) ∧
        (s.spindle b).phase = .stopped ∧ (s.bay b).lock = false
    (ended →
      ∃ t : State, exec .resetInProgressEnd s = .next t.instantEnd ∧
        t.resetInProgress = false ∧ t.entries = [] ∧ t.finishing = [] ∧ t.waiters = [] ∧
        t.link = Link.reset ∧ t.counts = Counts.reset ∧ t.hostFields = HostFields.reset ∧
        t.ports.anchor = 0 ∧ t.ports.badCommand = false ∧ t.settings = Settings.default ∧
        (∀ x ∈ t.slots, x.state = .free) ∧ t.slots.length = s.slots.length ∧
        (t.channel.grant = none ∧ t.channel.waiting = none ∧ t.channel.search = .idle ∧
          t.channel.writeGate = false ∧ t.channel.heldPress = none) ∧
        (∀ b, (t.map b).status = .none ∧ (t.map b).table = [] ∧ (t.map b).softErrors = 0) ∧
        (∀ b, (s.bay b).present.accepted = true → (s.bay b).presentUndecided = false →
          (t.bay b).generation =
            (if (s.bay b).generation < 255 then (s.bay b).generation + 1 else 1) ∧
          ((s.bay b).parkDetect.accepted = true →
            (t.bay b).state = .locked ∧ (t.bay b).lock = true ∧ (t.bay b).faultClass = .none) ∧
          ((s.bay b).parkDetect.accepted = false →
            (t.bay b).state = .fault ∧ (t.bay b).faultClass = .headsOffRamp)) ∧
        (∀ b, (s.bay b).present.accepted = false ∨ (s.bay b).presentUndecided = true →
          (t.bay b).state = .empty ∧ (t.bay b).lock = false ∧
            (t.bay b).generation = (s.bay b).generation ∧
            (t.bay b).faultClass = (s.bay b).faultClass ∧ (t.spindle b).phase = .stopped ∧
            (t.positioner b).state = (s.positioner b).state) ∧
        t.hostMem = s.hostMem ∧ t.pins = s.pins) ∧
    (¬ended → exec .resetInProgressEnd s =
      .next (State.instantEnd { s with instant := s.instant + 1 }))

/-- R5, R6: Present accepted true in EMPTY is an insertion, and no event in any other state or while a
Part Reset runs the part down (R175). R24: an undecided Present decided: a run of true samples is an
insertion whether the bay stands SEATED or EMPTY; a run of false samples takes a SEATED bay to EMPTY and
leaves any other as it is. That the latter holds while no Part Reset runs the part down is the model's
reading (log 30). -/
def Obligations.PresentTrueAndDecidedInsert : Prop :=
  ∀ (s : State) (b : Bay), (s.bay b).sensing = true →
    let next (v : Bool) : State :=
      { s with
        instant := s.instant + 1
        pins := { s.pins with bays := s.pins.bays.update b fun x => { x with present := v } } }
    ((s.bay b).presentUndecided = false → (s.bay b).present.accepted = false →
      (s.bay b).state = .empty → s.resetInProgress = false →
      ∃ t : State, exec (.presentAcceptedTrue b) s = .next t.instantEnd ∧ InsertedInto s t b ∧
        (t.bay b).present = ⟨true, 0⟩) ∧
    ((s.bay b).presentUndecided = false → (s.bay b).present.accepted = false →
      (s.bay b).state ≠ .empty ∨ s.resetInProgress = true →
      exec (.presentAcceptedTrue b) s = .next (State.instantEnd
        { next true with
          bays := s.bays.update b fun c => { c with present := ⟨true, 0⟩, presentUndecided := false } })) ∧
    ((s.bay b).presentUndecided = true → s.resetInProgress = false →
      ∃ t : State, exec (.presentDecided b true) s = .next t.instantEnd ∧ InsertedInto s t b ∧
        (t.bay b).present = ⟨true, 0⟩ ∧ (t.bay b).presentUndecided = false) ∧
    ((s.bay b).presentUndecided = true → (s.bay b).state = .seated → s.channel.grant ≠ some b →
      exec (.presentDecided b false) s = .next (State.instantEnd
        (((next false).modBay b BayControl.removed).modEntries fun e =>
          if e.names b && (e.stage == .ejecting || e.stage == .releasing) then completed e else e))) ∧
    ((s.bay b).presentUndecided = true → (s.bay b).state ≠ .seated →
      exec (.presentDecided b false) s = .next (State.instantEnd
        ((next false).modBay b fun c =>
          { c with present := ⟨false, 0⟩, presentUndecided := false })))

/-- R14, R15, R127: Present accepted false. In SEATED and EJECTING, and in every state while a Part Reset runs
the part down (R23), it is an ordinary removal; in LOCKED, RELEASING and FAULT an unexpected one; in EMPTY
only a value. An unexpected removal of one bay of a Copy cuts its field on the other. That an ordinary removal
keeps Mount Status and the Remap Table, which in a run-down may stand, is the model's choice (log 43), and so
is that it leaves the Lock as it is, which in a run-down may be energized (log 63), and that a removal stands
where a press is held over the field it cuts (log 68). A bay that waits for the permit is PENDING
(`State.waitingLaw`, which every step keeps). -/
def Obligations.PresentFalseRemoves : Prop :=
  ∀ (s : State) (b : Bay), (s.bay b).sensing = true → (s.bay b).presentUndecided = false →
    (s.bay b).present.accepted = true → s.waitingLaw →
    (((s.bay b).state = .seated ∨ (s.bay b).state = .ejecting ∨
        (s.resetInProgress = true ∧ (s.bay b).state ≠ .empty)) →
      ∃ t : State, exec (.presentAcceptedFalse b) s = .next t.instantEnd ∧
        t.bay b = (s.bay b).removed ∧ t.channel.grant ≠ some b ∧
        (t.entries = s.entries.map fun e =>
          if e.names b && (e.stage == .ejecting || e.stage == .releasing) then completed e else e) ∧
        t.spindles = s.spindles ∧ t.positioners = s.positioners ∧ t.maps = s.maps ∧
        t.bay b.other = s.bay b.other ∧ t.counts = s.counts ∧ t.settings = s.settings ∧
        t.ports = s.ports ∧ t.hostMem = s.hostMem) ∧
    ((s.bay b).state = .empty →
      exec (.presentAcceptedFalse b) s = .next (State.instantEnd
        { s with
          instant := s.instant + 1
          pins := { s.pins with bays := s.pins.bays.update b fun x => { x with present := false } }
          bays := s.bays.update b fun c =>
            { c with present := ⟨false, 0⟩, presentUndecided := false } })) ∧
    ((s.bay b).state ≠ .seated → (s.bay b).state ≠ .ejecting → (s.bay b).state ≠ .empty →
      s.resetInProgress = false →
      ∃ t : State, exec (.presentAcceptedFalse b) s = .next t.instantEnd ∧
        ((t.bay b).state = .empty ∧ (t.bay b).faultClass = .unexpectedRemoval ∧
          (t.bay b).lock = false ∧ (t.bay b).prevent = false ∧ (t.bay b).eject = false ∧
          (t.bay b).idle = none ∧ (t.bay b).retry = none ∧ (t.bay b).startBound = none ∧
          (t.bay b).pulse = none ∧ (t.bay b).leave = none ∧
          (t.bay b).generation = (s.bay b).generation) ∧
        ((t.map b).status = .none ∧ (t.map b).table = []) ∧ t.channel.grant ≠ some b ∧
        (s.copyBeside b = true → t.channel.grant ≠ some b.other) ∧
        (s.copyBeside b = false → s.channel.grant ≠ some b → t.channel.grant = s.channel.grant) ∧
        ((s.positioner b).state.loaded = true →
          (t.positioner b).state = .retracting ∧ (t.positioner b).followEnable = false) ∧
        ((s.spindle b).phase = .stopped ∨ (s.spindle b).phase = .pending →
          (t.spindle b).phase = .stopped) ∧
        ((s.spindle b).phase ≠ .stopped → (s.spindle b).phase ≠ .pending →
          (t.spindle b).phase = .stopping) ∧
        (∀ e ∈ t.entries, e.names b = true → e.state = .active → e.ending ≠ none) ∧
        t.bay b.other = s.bay b.other ∧ t.positioner b.other = s.positioner b.other ∧
        t.map b.other = s.map b.other ∧ t.counts = s.counts ∧ t.settings = s.settings ∧
        t.ports = s.ports ∧ t.hostMem = s.hostMem)

/-! ### The bay inputs (spec/01) -/

/-- R1, R6, R99, R145: Write Protect accepted. Accepted true, it ends every started task that writes to the
bay's medium (a Format Track only before its last data field has ended), and cuts a field being written or
a track being laid there without a failure. That it does so also where a press is held over that field is the
model's choice (log 68). -/
def Obligations.WriteProtectReachesTheWriters : Prop :=
  ∀ (s : State) (b : Bay), (s.bay b).sensing = true →
    let taken (v : Bool) (c : BayControl) : BayControl := { c with writeProtect := ⟨v, 0⟩ }
    let closing (e : Entry) : Bool :=
      e.kind == some .formatTrack && s.channel.grant == some b && s.channel.format == .closing
    ((s.bay b).writeProtect.accepted = true →
      exec (.writeProtectAccepted b false) s = .next (State.instantEnd
        (State.modBay { s with
          instant := s.instant + 1
          pins := { s.pins with bays := s.pins.bays.update b fun x => { x with writeProtect := false } } }
          b (taken false)))) ∧
    ((s.bay b).writeProtect.accepted = false →
      ∃ t : State, exec (.writeProtectAccepted b true) s = .next t.instantEnd ∧
        t.bay b = taken true (s.bay b) ∧ t.bay b.other = s.bay b.other ∧
        (t.entries = s.entries.map fun e =>
          if e.names b && e.writesTo b && !closing e then decided .writeProtected 0 e else e) ∧
        t.channel.retryCount = s.channel.retryCount ∧
        ((s.channel.grant = some b ∧ (s.channel.search = .writing ∨ s.channel.format = .laying)) →
          t.channel.grant = none ∧ t.channel.writeGate = false ∧ t.channel.search = .idle) ∧
        (¬(s.channel.grant = some b ∧ (s.channel.search = .writing ∨ s.channel.format = .laying)) →
          t.channel = s.channel ∧ t.slots = s.slots ∧ t.mediumOut = s.mediumOut) ∧
        t.spindles = s.spindles ∧ t.positioners = s.positioners ∧ t.maps = s.maps ∧
        t.counts = s.counts ∧ t.settings = s.settings ∧ t.ports = s.ports ∧ t.hostMem = s.hostMem)

/-- R2, R9, R10, R12, R13, R19, R98: a press, taken by the rule of the Bay State in force; held while the
write gate is asserted for the bay; not acted on while Reset in Progress shows or Present is undecided; and
an accepted release, which is no event. -/
def Obligations.PressIsTakenByTheBayState : Prop :=
  ∀ (s : State) (b : Bay), (s.bay b).sensing = true →
    let level (v : Bool) : State :=
      { s with
        instant := s.instant + 1
        pins := { s.pins with bays := s.pins.bays.update b fun x => { x with ejectButton := v } } }
    let after (f : BayControl → BayControl) : State :=
      (level true).modBay b fun c => f { c with button := ⟨true, 0⟩ }
    let gated := s.channel.grant = some b ∧ s.channel.writeGate = true
    let heard := s.resetInProgress = false ∧ (s.bay b).presentUndecided = false
    ((s.bay b).button.accepted = true →
      exec (.ejectButtonReleased b) s = .next (State.instantEnd
        ((level false).modBay b fun c => { c with button := ⟨false, 0⟩ }))) ∧
    ((s.bay b).button.accepted = false →
      (¬heard → exec (.ejectButtonPress b) s = .next (after id).instantEnd) ∧
      (heard → gated →
        exec (.ejectButtonPress b) s = .next (State.instantEnd
          { after id with channel := { s.channel with heldPress := some b } })) ∧
      (heard → ¬gated → s.supply.accepted = false →
        ((s.bay b).state = .empty ∨ (s.bay b).state = .ejecting ∨
            (s.bay b).state = .releasing .ejecting →
          exec (.ejectButtonPress b) s = .next (after id).instantEnd) ∧
        ((s.bay b).state = .seated →
          exec (.ejectButtonPress b) s = .next (State.instantEnd (after fun c =>
            { c with
              state := .ejecting, ejectRequested := false, ejectFailed := false, prevent := false
              eject := false, startBound := some 0, pulse := none, leave := none }))) ∧
        ((s.bay b).state = .fault ∨ ((s.bay b).state = .locked ∧ (s.bay b).prevent = true) →
          exec (.ejectButtonPress b) s = .next (State.instantEnd (after fun c =>
            { c with ejectRequested := true }))) ∧
        ((s.bay b).state = .releasing .seated →
          exec (.ejectButtonPress b) s = .next (State.instantEnd (after fun c =>
            { c with state := .releasing .ejecting }))) ∧
        ((s.bay b).state = .locked → (s.bay b).prevent = false →
          ∃ t : State, exec (.ejectButtonPress b) s = .next t.instantEnd ∧
            (t.bay b).state = .releasing .ejecting ∧ (t.bay b).prevent = false ∧
            (t.bay b).ejectRequested = false ∧ (t.bay b).idle = none ∧ (t.bay b).lock = (s.bay b).lock ∧
            (t.map b).status = .none ∧ (t.map b).table = [] ∧ (t.map b).nextSpare = 0 ∧
            (∀ e ∈ t.entries, e.names b = true → e.releases = false → e.state = .active →
              e.ending ≠ none) ∧
            t.spindles = s.spindles ∧ t.bay b.other = s.bay b.other ∧
            t.map b.other = s.map b.other ∧ t.counts = s.counts ∧ t.settings = s.settings ∧
            t.ports = s.ports ∧ t.hostMem = s.hostMem)))

/-- R78, R80: Park Detect accepted true starts the park hold of a retract, with the retract timer kept at
its count; accepted false it abandons the hold, and sends parked heads back onto the ramp. While the bay's
sampling has stopped (R24) its accepted value stands, and a retract still ends on the Positioner's own view
of the input, which is the park hold: the model's reading (log 34). In any other state nothing is accepted
then, and an acceptance of the value already accepted changes nothing (the model's choice, log 11). -/
def Obligations.ParkDetectIsTakenByTheActuator : Prop :=
  ∀ (s : State) (b : Bay),
    let next : State := { s with instant := s.instant + 1 }
    let seen (v : Bool) : State :=
      { next with
        pins := { s.pins with bays := s.pins.bays.update b fun x => { x with parkDetect := v } } }
    let level (v : Bool) : State :=
      { seen v with bays := s.bays.update b fun c => { c with parkDetect := ⟨v, 0⟩ } }
    let held (hold : Option Nat) : PerBay Positioner :=
      s.positioners.update b fun p => { p with parkHold := hold, rampRun := 0 }
    let p := s.positioner b
    ((s.bay b).sensing = true → (s.bay b).parkDetect.accepted = false →
      (p.state = .retracting → exec (.parkDetectAcceptedTrue b) s =
        .next (State.instantEnd { level true with positioners := held (p.parkHold.or (some 0)) })) ∧
      (p.state ≠ .retracting →
        exec (.parkDetectAcceptedTrue b) s = .next (level true).instantEnd) ∧
      exec (.parkDetectAcceptedFalse b) s = .next next.instantEnd) ∧
    ((s.bay b).sensing = true → (s.bay b).parkDetect.accepted = true →
      (p.state = .retracting → exec (.parkDetectAcceptedFalse b) s =
        .next (State.instantEnd { level false with positioners := held none })) ∧
      (p.state = .parked →
        ∃ t : State, exec (.parkDetectAcceptedFalse b) s = .next t.instantEnd ∧
          (t.positioner b).state = .retracting ∧ (t.positioner b).dac = -80 ∧
          (t.positioner b).retract = true ∧ (t.positioner b).followEnable = false ∧
          (t.positioner b).known = false ∧ (t.positioner b).retractTimer = some 0 ∧
          (t.positioner b).parkHold = none ∧ (t.positioner b).order = p.order ∧
          t.bays = (level false).bays ∧ t.spindles = s.spindles ∧
          t.positioner b.other = s.positioner b.other ∧ t.maps = s.maps ∧ t.channel = s.channel ∧
          t.entries = s.entries) ∧
      (p.state ≠ .retracting → p.state ≠ .parked →
        exec (.parkDetectAcceptedFalse b) s = .next (level false).instantEnd) ∧
      exec (.parkDetectAcceptedTrue b) s = .next next.instantEnd) ∧
    ((s.bay b).sensing = false → p.state = .retracting →
      (p.parkHold = none →
        exec (.parkDetectAcceptedTrue b) s =
          .next (State.instantEnd { seen true with positioners := held (some 0) }) ∧
        exec (.parkDetectAcceptedFalse b) s = .next next.instantEnd) ∧
      (p.parkHold.isSome = true →
        exec (.parkDetectAcceptedFalse b) s =
          .next (State.instantEnd { seen false with positioners := held none }) ∧
        exec (.parkDetectAcceptedTrue b) s = .next next.instantEnd)) ∧
    ((s.bay b).sensing = false → p.state ≠ .retracting →
      exec (.parkDetectAcceptedTrue b) s = .next next.instantEnd ∧
      exec (.parkDetectAcceptedFalse b) s = .next next.instantEnd)

/-! ### Head positioning (spec/03) -/

/-- R57, R61, R63, R71, R170: Outer Guard accepted true or false, by Actuator State. -/
def Obligations.OuterGuardIsTakenByTheActuator : Prop :=
  ∀ (s : State) (b : Bay),
    let taken (v : Bool) (f : Positioner → Positioner) : State :=
      { s with
        instant := s.instant + 1
        pins := { s.pins with bays := s.pins.bays.update b fun x => { x with outerGuard := v } }
        positioners := s.positioners.update b fun p => f { p with outerGuard := ⟨v, 0⟩ } }
    ((s.positioner b).outerGuard.accepted = false →
      ((s.positioner b).state = .loading →
        ∃ t : State, exec (.outerGuardAccepted b true) s = .next t.instantEnd ∧
          (t.positioner b).state = .recalibrating ∧ (t.positioner b).recalLeg = .inward ∧
          (t.positioner b).known = false ∧ (t.positioner b).recalTimer = some 0 ∧
          (t.positioner b).outwardCount = 0 ∧ (t.positioner b).loadTimer = none ∧
          (t.positioner b).followEnable = false ∧ (t.positioner b).kv = s.settings.kv ∧
          (t.positioner b).profile = s.settings.profile ∧
          (t.positioner b).dac = loopDac (t.positioner b) ∧
          (t.positioner b).order = (s.positioner b).order ∧ BayKept s t b.other ∧
          t.bay b = s.bay b ∧ t.spindle b = s.spindle b ∧ t.channel = s.channel ∧
          t.entries = s.entries) ∧
      ((s.positioner b).state = .recalibrating →
        exec (.outerGuardAccepted b true) s =
          .next (taken true fun p => { p with recalLeg := .inward }).instantEnd) ∧
      ((s.positioner b).state = .seeking ∨ (s.positioner b).state = .settling ∨
          (s.positioner b).state = .following →
        ∃ t : State, exec (.outerGuardAccepted b true) s = .next t.instantEnd ∧
          (t.positioner b).known = false ∧ (t.positioner b).outerGuard = ⟨true, 0⟩ ∧
          SeekFaulted (taken true fun p => { p with known := false }) t b false) ∧
      ((s.positioner b).state = .stopping →
        exec (.outerGuardAccepted b true) s =
          .next (taken true fun p => { p with known := false }).instantEnd) ∧
      ((s.positioner b).state = .parked ∨ (s.positioner b).state = .retracting ∨
          (s.positioner b).state = .fault →
        exec (.outerGuardAccepted b true) s = .next (taken true id).instantEnd)) ∧
    ((s.positioner b).outerGuard.accepted = true →
      ((s.positioner b).state = .recalibrating → (s.positioner b).recalLeg = .inward →
        ∃ t : State, exec (.outerGuardAccepted b false) s = .next t.instantEnd ∧
          (t.positioner b).counter = 0 ∧ (t.positioner b).known = true ∧
          (t.positioner b).state = .settling ∧ (t.positioner b).target = 0 ∧
          (t.positioner b).dac = 0 ∧ (t.positioner b).followEnable = true ∧
          (t.positioner b).settleWait = some s.settings.settleTime ∧
          (t.positioner b).recalTimer = none ∧
          (t.positioner b).order = (s.positioner b).order ∧ BayKept s t b.other ∧
          t.bay b = s.bay b ∧ t.spindle b = s.spindle b ∧ t.channel = s.channel ∧
          t.entries = s.entries) ∧
      (¬((s.positioner b).state = .recalibrating ∧ (s.positioner b).recalLeg = .inward) →
        exec (.outerGuardAccepted b false) s = .next (taken false id).instantEnd))

/-- R64, R68, R70, R71, R75: what a crossing brings in each Actuator State, once it has been counted. -/
def Obligations.CrossingMovesTheActuator : Prop :=
  ∀ (s : State) (b : Bay) (d : Direction) (elapsed : Nat),
    let p := s.positioner b
    let n : Int := countCrossing d p.counter
    let v := 16000 / max 1 (min 2000 (p.crossTimer + elapsed))
    let out := n < 0 ∨ 638 < n
    let counted (known : Bool) : State :=
      { s with positioners := s.positioners.update b fun p => { p with vmeas := v, known := known } }
    ∃ t : State, exec (.trackCrossing b d elapsed) s = .next t.instantEnd ∧
      let q := t.positioner b
      q.counter = n ∧ q.vmeas = v ∧ q.crossTimer = 0 ∧ q.lastDirection = d ∧
      (p.state = .seeking ∨ p.state = .settling ∨ p.state = .following → out →
        q.known = false ∧ SeekFaulted (counted false) t b false) ∧
      (p.state = .seeking → ¬out →
        if n = (p.target : Int) then
          q.state = .settling ∧ q.dac = 0 ∧ q.followEnable = true ∧
            q.settleWait = some s.settings.settleTime ∧ q.settleLimit = p.settleLimit.or (some 0) ∧
            q.seekTimer = p.seekTimer
        else q.state = .seeking ∧ q.dac = loopDac q ∧ q.velTimer = 0 ∧ q.seekTimer = p.seekTimer) ∧
      (p.state = .settling → ¬out →
        q.state = .seeking ∧ q.followEnable = false ∧ q.dac = loopDac q ∧ q.target = p.target ∧
          q.seekTimer = p.seekTimer.or (some 0) ∧ q.settleLimit = p.settleLimit ∧ q.settleWait = none) ∧
      (p.state = .following → ¬out →
        q.state = .seeking ∧ q.followEnable = false ∧ q.dac = loopDac q ∧ q.target = p.target ∧
          q.seekTimer = some 0 ∧ q.kv = s.settings.kv ∧ q.profile = s.settings.profile ∧
          t.channel.grant ≠ some b) ∧
      (p.state = .recalibrating →
        (d = .outward ∧ 700 ≤ p.outwardCount + 1 → SeekFaulted (counted p.known) t b false) ∧
        (d = .outward ∧ p.outwardCount + 1 < 700 →
          q.state = .recalibrating ∧ q.outwardCount = p.outwardCount + 1 ∧ q.dac = loopDac q) ∧
        (d = .inward ∧ p.outwardCount < 700 →
          q.state = .recalibrating ∧ q.outwardCount = p.outwardCount ∧ q.dac = loopDac q)) ∧
      (p.state = .stopping →
        q.state = .stopping ∧ (q.known = true ↔ p.known = true ∧ ¬out) ∧ q.dac = loopDac q) ∧
      (p.state = .parked ∨ p.state = .loading ∨ p.state = .retracting ∨ p.state = .fault →
        q.state = p.state ∧ q.dac = p.dac ∧ q.known = p.known ∧ t.bays = s.bays ∧
          t.channel = s.channel ∧ t.entries = s.entries) ∧
      t.spindles = s.spindles ∧ t.positioner b.other = s.positioner b.other ∧
      t.bay b.other = s.bay b.other

/-- R56: both crossing inputs changed between the same two samples: a Seek Fault where crossings are
counted, which in FOLLOWING begins with a controlled stop (log 13). -/
def Obligations.CrossingErrorIsTakenByTheActuator : Prop :=
  ∀ (s : State) (b : Bay),
    let taken (f : Positioner → Positioner) : State :=
      { s with
        instant := s.instant + 1
        pins := { s.pins with
          bays := s.pins.bays.update b fun x =>
            { x with crossA := !(s.positioner b).crossA, crossB := !(s.positioner b).crossB } }
        positioners := s.positioners.update b fun p =>
          f { p with crossA := !p.crossA, crossB := !p.crossB } }
    let lost := taken fun p => { p with known := false }
    ((s.positioner b).state = .seeking ∨ (s.positioner b).state = .settling →
      ∃ t : State, exec (.crossingError b) s = .next t.instantEnd ∧
        (t.positioner b).known = false ∧ SeekFaulted lost t b false) ∧
    ((s.positioner b).state = .following →
      ∃ t : State, exec (.crossingError b) s = .next t.instantEnd ∧
        (t.positioner b).known = false ∧ SeekFaulted lost t b true) ∧
    ((s.positioner b).state = .stopping → exec (.crossingError b) s = .next lost.instantEnd) ∧
    ((s.positioner b).state ≠ .seeking → (s.positioner b).state ≠ .settling →
      (s.positioner b).state ≠ .following → (s.positioner b).state ≠ .stopping →
      exec (.crossingError b) s = .next (taken id).instantEnd)

/-- R65, R67, R75: 2,000 µs without a crossing put Vmeas at 0, which ends the velocity leg of a controlled
stop; and the demand is recomputed without a crossing where the velocity loop runs. A VELOCITY_RECOMPUTE
where it does not run changes nothing (the model's choice, log 11). -/
def Obligations.SilenceStopsTheVelocity : Prop :=
  ∀ (s : State) (b : Bay),
    let p := s.positioner b
    (∃ t : State, exec (.crossingTimerExpiry b) s = .next t.instantEnd ∧
      let q := t.positioner b
      q.vmeas = 0 ∧ q.crossTimer = 2000 ∧ q.counter = p.counter ∧
      (p.state = .stopping →
        ((p.recalAfterStop = true ∨ p.known = false) →
          q.state = .recalibrating ∧ q.known = false ∧ q.recalTimer = some 0 ∧ q.stopTimer = none ∧
            q.recalAfterStop = false) ∧
        (p.recalAfterStop = false → p.known = true →
          q.state = .settling ∧ q.target = p.counter.toNat ∧ q.dac = 0 ∧ q.followEnable = true ∧
            q.stopTimer = p.stopTimer)) ∧
      (p.state = .seeking ∨ p.state = .recalibrating → q.state = p.state ∧ q.dac = loopDac q) ∧
      (p.state ≠ .stopping → p.state ≠ .seeking → p.state ≠ .recalibrating →
        q = { p with vmeas := 0, crossTimer := 2000 }) ∧
      t.bays = s.bays ∧ t.spindles = s.spindles ∧ t.maps = s.maps ∧ t.channel = s.channel ∧
      t.entries = s.entries ∧ t.positioner b.other = s.positioner b.other) ∧
    (p.state = .recalibrating ∨ p.state = .seeking ∨ p.state = .stopping →
      exec (.velocityRecompute b) s = .next (State.instantEnd
        { s with
          instant := s.instant + 1
          positioners := s.positioners.update b fun p => { p with dac := loopDac p, velTimer := 0 } })) ∧
    (p.state ≠ .recalibrating → p.state ≠ .seeking → p.state ≠ .stopping →
      exec (.velocityRecompute b) s = .next (State.instantEnd { s with instant := s.instant + 1 }))

/-- R69, R68, R60: the end of the Settle Time begins the sampling of On Track, and the count reached takes
the actuator to FOLLOWING, where the order bound for its Target ends, or waits for its head change; a Seek
made elsewhere seeks on, also where a Park is held (the model's choice, log 41). -/
def Obligations.SettleEndsInFollowing : Prop :=
  ∀ (s : State) (b : Bay), (s.positioner b).state = .settling →
    let p := s.positioner b
    let told (id : Nat) (e : Entry) : Entry :=
      if e.id = id ∧ e.order = .outstanding then { e with order := .ended } else e
    (p.settleWait.isSome = true →
      exec (.settleTimeEnd b) s = .next (State.instantEnd
        { s with
          instant := s.instant + 1
          positioners := s.positioners.update b fun p =>
            { p with settleWait := none, sampling := true, sampleTimer := 0, onTrackCount := 0 } })) ∧
    (p.sampling = true →
      ∃ t : State, exec (.onTrackCountReached b) s = .next t.instantEnd ∧
        let q := t.positioner b
        q.settleLimit = none ∧ q.settleWait = none ∧ q.sampling = false ∧ q.recalTimer = none ∧
        q.stopTimer = none ∧ q.counter = p.counter ∧ q.known = p.known ∧
        (p.order = none → q.state = .following ∧ q.order = none ∧ q.seekTimer = none) ∧
        (∀ o, p.order = some o →
          (o.kind = .recalibrate ∨ o.kind = .loadRecalibrate →
            q.state = .following ∧ q.order = none ∧
              ∀ id, o.giver = .task id → t.entries = s.entries.map (told id)) ∧
          (∀ cylinder head, o.kind = .seek cylinder head →
            if (cylinder : Int) = p.counter then
              q.state = .following ∧ q.seekTimer = none ∧ q.headSelect = p.headSelect ∧
                q.pendingHead = p.pendingHead ∧
                (p.headSelect = head → p.pendingHead = none → p.known = true → q.order = none ∧
                  ∀ id, o.giver = .task id → t.entries = s.entries.map (told id)) ∧
                (p.headSelect ≠ head ∨ p.pendingHead ≠ none → q.order = some o ∧ t.entries = s.entries)
            else
              q.state = .seeking ∧ q.target = cylinder ∧ q.seekTimer = some 0 ∧ q.order = some o ∧
                q.followEnable = false ∧ q.dac = loopDac q ∧ t.entries = s.entries)) ∧
        t.bays = s.bays ∧ t.spindles = s.spindles ∧ t.channel = s.channel ∧ t.slots = s.slots ∧
        t.positioner b.other = s.positioner b.other)

/-- R64, R68, R69, R75, R72: the four limits of the motions over the platter. An expiry of a limit that
does not run changes nothing (log 11). -/
def Obligations.MotionLimitsAreSeekFaults : Prop :=
  ∀ (s : State) (b : Bay),
    let p := s.positioner b
    let next : State := { s with instant := s.instant + 1 }
    (p.settleLimit.isSome = true →
      ∃ t : State, exec (.settleLimitExpiry b) s = .next t.instantEnd ∧ SeekFaulted s t b false ∧
        t.standing = next.standing) ∧
    (p.seekTimer.isSome = true →
      ∃ t : State, exec (.seekLimitExpiry b) s = .next t.instantEnd ∧ SeekFaulted s t b false ∧
        t.standing = next.standing) ∧
    (p.recalTimer.isSome = true →
      ∃ t : State, exec (.recalibrateTimerExpiry b) s = .next t.instantEnd ∧ SeekFaulted s t b false ∧
        t.standing = next.standing) ∧
    (p.stopTimer.isSome = true →
      ∃ t : State, exec (.stopLimitExpiry b) s = .next t.instantEnd ∧ SeekFaulted s t b false ∧
        t.standing = next.standing) ∧
    (p.settleLimit = none → exec (.settleLimitExpiry b) s = .next next.instantEnd) ∧
    (p.seekTimer = none → exec (.seekLimitExpiry b) s = .next next.instantEnd) ∧
    (p.recalTimer = none → exec (.recalibrateTimerExpiry b) s = .next next.instantEnd) ∧
    (p.stopTimer = none → exec (.stopLimitExpiry b) s = .next next.instantEnd)

/-- R62, R16, R78, R79: a load that does not reach the platter; a retract that does not reach the ramp; and
the end of the park hold. A held Park ends there too (R76). That it ends a mount sequence in progress at that
entry to PARKED, also one whose order waits behind it, is the model's reading of R76 and R111 (log 70), and
that this order then becomes the held one is the model's choice (log 44). -/
def Obligations.RetractsEndParkedOrInFault : Prop :=
  ∀ (s : State) (b : Bay),
    let p := s.positioner b
    let told (o : OrderState) (id : Nat) (e : Entry) : Entry :=
      if e.id = id ∧ e.order = .outstanding then { e with order := o } else e
    (p.loadTimer.isSome = true →
      ∃ t : State, exec (.loadFault b) s = .next t.instantEnd ∧
        (t.bay b).faultClass = .loadFault ∧ (t.bay b).state = (s.bay b).state ∧
        (t.positioner b).state = .retracting ∧ (t.positioner b).order = none ∧
        (t.positioner b).held = p.held ∧ (t.positioner b).loadTimer = none ∧
        (t.positioner b).dac = -80 ∧ (t.positioner b).retractTimer = some 0 ∧
        (∀ o, p.order = some o → ∀ id, o.giver = .task id → t.entries = s.entries.map (told .failed id)) ∧
        t.spindles = s.spindles ∧ t.channel = s.channel ∧ t.slots = s.slots ∧ BayKept s t b.other) ∧
    (p.state = .retracting → p.parkHold = none →
      ∃ t : State, exec (.retractLimitExpiry b) s = .next t.instantEnd ∧
        (t.positioner b).state = .fault ∧ (t.positioner b).dac = 0 ∧
        (t.positioner b).retract = false ∧ (t.positioner b).followEnable = false ∧
        (t.positioner b).order = none ∧ (t.positioner b).held = none ∧
        (t.spindle b).phase = (s.spindle b).phase ∧
        (t.spindle b).brake = ((s.spindle b).brake || (s.spindle b).brakeDeferred) ∧
        (((s.bay b).state = .locked ∨ (s.bay b).state = .releasing .seated ∨
            (s.bay b).state = .releasing .ejecting) → s.resetInProgress = false →
          (t.bay b).state = .fault ∧ (t.bay b).faultClass = .retractFault ∧
            (t.bay b).retry = some 0 ∧ (t.bay b).idle = none ∧ (t.bay b).lock = (s.bay b).lock ∧
            (t.bay b).prevent = (s.bay b).prevent ∧
            (t.bay b).ejectRequested =
              ((s.bay b).ejectRequested || decide ((s.bay b).state = .releasing .ejecting)) ∧
            (t.positioner b).retractRetries = 0 ∧ (t.map b).status = .none ∧ (t.map b).table = [] ∧
            ∀ e ∈ t.entries, e.names b = true → e.state = .active → e.ending ≠ none) ∧
        ((s.bay b).state = .empty ∨ (s.bay b).state = .seated ∨ (s.bay b).state = .ejecting ∨
            s.resetInProgress = true →
          t.bay b = s.bay b) ∧
        ((s.bay b).state = .fault → (s.bay b).faultClass = .retractFault → p.retractFromFault = true →
          s.resetInProgress = false →
          (t.positioner b).retractRetries = raiseTo 3 p.retractRetries ∧
            (t.bay b).state = .fault ∧ (t.bay b).faultClass = .retractFault ∧
            (t.bay b).retry =
              if (s.spindle b).phase.regulates = true ∧ p.retractRetries + 1 < 3 then some 0
              else (s.bay b).retry) ∧
        BayKept s t b.other) ∧
    (p.state = .retracting → p.parkHold.isSome = true →
      ∃ t : State, exec (.parkHoldEnd b) s = .next t.instantEnd ∧
        (t.positioner b).state = .parked ∧ (t.positioner b).dac = 0 ∧
        (t.positioner b).retract = false ∧ (t.positioner b).headSelect = 0 ∧
        (t.positioner b).vmeas = 0 ∧ (t.positioner b).counter = 0 ∧ (t.positioner b).known = false ∧
        (t.positioner b).order = none ∧
        (t.spindle b).phase = (s.spindle b).phase ∧
        (t.spindle b).brake = ((s.spindle b).brake || (s.spindle b).brakeDeferred) ∧
        (∀ o, p.order = some o → (∀ x, p.held = some x → x.kind ≠ .park) →
          ∀ id, o.giver = .task id → t.entries = s.entries.map (told .ended id)) ∧
        ((∀ x, p.held = some x → x.kind ≠ .park) →
          t.channel = s.channel ∧ t.slots = s.slots ∧
            (t.map b).mountStage = (s.map b).mountStage ∧ (t.map b).status = (s.map b).status ∧
            (t.positioner b).held = p.held ∧ (t.positioner b).heldBehind = p.heldBehind) ∧
        (∀ x, p.held = some x → x.kind = .park →
          MountEnded s t b ∧ (t.positioner b).held = p.heldBehind ∧ (t.positioner b).heldBehind = none) ∧
        t.bays = s.bays ∧ BayKept s t b.other)

/-! ### Spindle control (spec/02) -/

/-- R26 to R28: a mark recorded, in every phase but STOPPED and PENDING, where it is ignored. R34, R35: the
speed law at every mark in ACCELERATING, LOCKED and DRIFTING, after the phase checks of that mark. The mark
that ends STARTING sets the Integrator to 0 first (R32). A bay that waits for the permit is PENDING
(`State.waitingLaw`). -/
def Obligations.MarkIsRecordedAndRegulated : Prop :=
  ∀ (s : State) (b : Bay) (elapsed : Nat), s.waitingLaw →
    let q := s.spindle b
    (q.phase = .stopped ∨ q.phase = .pending →
      exec (.tachMark b elapsed) s = .next (State.instantEnd { s with instant := s.instant + 1 })) ∧
    (q.phase ≠ .stopped → q.phase ≠ .pending →
      ∃ t : State, exec (.tachMark b elapsed) s = .next t.instantEnd ∧
        let r := t.spindle b
        let e : Int := (q.activeTarget : Int) * 16 - (r.speed : Int)
        let ec : Int := max (-32768) (min 32767 e)
        let i : Int := if q.phase = .starting then 0 else q.integrator
        let candidate : Int := max (-1048576) (min 1048575 (i + (s.settings.ki : Int) * ec))
        let draw : Int := (s.settings.bias : Int) + (s.settings.kp : Int) * ec / 64 + candidate / 1024
        r.markTimer = some 0 ∧ r.revCount = (q.revCount + 1) % 8 ∧
        (q.markTimer = none → r.history = q.history ∧ r.speed = q.speed) ∧
        (∀ n, q.markTimer = some n →
          r.history = (if q.history.length < 8 then q.history else q.history.tail) ++
            [max 1 (min 1048575 (n + elapsed))] ∧
          r.speed = if r.history.length < 8 then 0
            else min 1048575 (960000000 / (r.history.foldl (fun x y => x + y) 0))) ∧
        ((r.phase = .accelerating ∨ r.phase = .locked ∨ r.phase = .drifting) →
          s.settings.dutyFloor ≤ s.settings.dutyCeiling →
          (r.dutyStaging : Int) = max (s.settings.dutyFloor : Int) (min (s.settings.dutyCeiling : Int) draw) ∧
          r.integrator =
            if ((s.settings.dutyCeiling : Int) < draw ∧ 0 < ec) ∨
                (draw < (s.settings.dutyFloor : Int) ∧ ec < 0) then i
            else candidate) ∧
        (r.phase = .starting → r.dutyStaging = q.dutyStaging ∧ r.integrator = q.integrator) ∧
        (r.phase = .stopping → r.integrator = q.integrator ∧
          (r.dutyStaging = 0 ∨ r.dutyStaging = q.dutyStaging)) ∧
        r.activeTarget = q.activeTarget ∧ r.dutyActive = q.dutyActive ∧ r.pwm = q.pwm ∧
        t.settings = s.settings ∧ t.counts = s.counts ∧ t.ports = s.ports ∧ t.hostMem = s.hostMem ∧
        t.bay b.other = s.bay b.other ∧ t.positioner b.other = s.positioner b.other ∧
        t.map b.other = s.map b.other)

/-- R27, R92, R93, R96, R100: every eighth mark of a LOCKED spindle is a revolution event. It ends a slip;
the second one without the Target is an ID failure, counted for the task or the mount whose search it is;
the second one without an index ends a format with Index Fault. The other marks do nothing to the channel.
That the retry count is the bay's (log 27), that exhausted retries stand before an Abort mark (log 73), and that
the Index Fault stands where a press is held (log 68), are the model's choices. The tasks of the queue have
names of their own (`State.queueLaw`, which every step keeps). -/
def Obligations.RevolutionEventsReachTheChannel : Prop :=
  ∀ (s : State) (b : Bay) (elapsed : Nat), (s.spindle b).phase = .locked →
    ∃ t : State, exec (.tachMark b elapsed) s = .next t.instantEnd ∧
      let c := s.channel
      let inBand := (((s.spindle b).activeTarget : Int) * 16 - ((t.spindle b).speed : Int)).natAbs ≤
        2 * s.settings.hysteresis
      let slid (e : Entry) : Entry :=
        if e.state = .active ∧ e.stage = .slip ∧ e.run.map Run.bay = some b then
          { e with stage := .atChannel }
        else e
      let slips := (∃ e ∈ s.entries, e.stage = .slip) ∨ (s.map b).mountStage = .slip
      let n := min 8 (c.retryCount.get b + 1)
      let failed : Channel := { c with searchRevs := 0, retryCount := c.retryCount.update b fun _ => n }
      (inBand → (s.spindle b).revCount ≠ 7 →
        t.channel = c ∧ t.entries = s.entries ∧ t.maps = s.maps ∧ t.slots = s.slots) ∧
      (inBand → (s.spindle b).revCount = 7 →
        (c.grant ≠ some b ∨ (c.search ≠ .searching ∧ c.search ≠ .formatting) →
          t.channel = c ∧ t.entries = s.entries.map slid ∧ t.slots = s.slots ∧
          (t.map b).mountStage =
            (if (s.map b).mountStage = .slip then .atChannel else (s.map b).mountStage)) ∧
        (c.grant = some b → c.search = .searching → c.searchRevs = 0 →
          t.channel = { c with searchRevs := 1 } ∧ t.entries = s.entries.map slid) ∧
        (c.grant = some b → c.search = .searching → 1 ≤ c.searchRevs → ¬slips →
          (∀ id, s.client? b = some (.task id) → (s.entries.map Entry.id).Nodup →
            ∀ e, s.entry? id = some e → t.channel = failed ∧
            (t.entry? id).map (fun y => (y.retriesUsed, y.stage, y.ending)) =
              some (min 255 (e.retriesUsed + 1), e.stage,
                if e.ending = none ∧ s.allowance e < n then
                  some (if e.kind = some .reassign ∨ e.kind = some .resetRecord ∨
                    e.kind = some .formatTrack then .dataError else .idNotFound)
                else e.ending)) ∧
          (s.client? b = some .mount →
            (t.map b).mountRetries = min 255 ((s.map b).mountRetries + 1) ∧
            (n ≤ s.settings.retryLimit → t.channel = failed ∧ (t.map b).mountStage = .atChannel ∧
              (t.map b).status = (s.map b).status) ∧
            (s.settings.retryLimit < n → t.channel.grant = none ∧ (t.map b).mountStage = .idle ∧
              (t.map b).status = .absent ∧ (t.map b).table = []))) ∧
        (c.grant = some b → c.search = .formatting → c.formatRevs = 0 →
          t.channel = { c with formatRevs := 1 } ∧ t.entries = s.entries.map slid) ∧
        (c.grant = some b → c.search = .formatting → 1 ≤ c.formatRevs → ¬slips →
          ∀ id, s.client? b = some (.task id) → (s.entries.map Entry.id).Nodup →
            ∀ e, s.entry? id = some e →
            t.channel.grant = none ∧ t.channel.writeGate = false ∧ t.channel.search = .idle ∧
            (t.entry? id).map (fun y => y.ending) = some (some (e.ending.getD .indexFault))))

/-- R32, R37, R38, R39, R42: the phase after a mark. A mark strictly below Fly Speed, 7/8 of the target, in
DRIFTING or on the way into it is a Speed Lost. -/
def Obligations.MarkDecidesThePhase : Prop :=
  ∀ (s : State) (b : Bay) (elapsed : Nat), s.waitingLaw →
    (s.spindle b).phase ≠ .stopped → (s.spindle b).phase ≠ .pending →
      ∃ t : State, exec (.tachMark b elapsed) s = .next t.instantEnd ∧
        let q := s.spindle b
        let r := t.spindle b
        let e : Int := (q.activeTarget : Int) * 16 - (r.speed : Int)
        let counted := if e.natAbs ≤ s.settings.hysteresis then min 255 (q.inBand + 1) else 0
        let needed := min 255 (32 * 2 ^ s.settings.stability)
        let slow := r.speed < q.activeTarget * 16 * 7 / 8
        (q.phase = .starting →
          (r.history.length < 8 → r.phase = .starting ∧ r.startTimer = some 0) ∧
          (8 ≤ r.history.length → r.phase = .accelerating ∧ r.startTimer = none ∧
            r.inBand = if e.natAbs ≤ s.settings.hysteresis then 1 else 0)) ∧
        (q.phase = .accelerating →
          (needed ≤ counted → r.phase = .locked ∧ r.inBand = 0 ∧ r.spinUpTimer = none ∧
            r.indexArmed = true ∧ r.missCount = 0 ∧ r.indexSince = none ∧ t.permitHolder ≠ some b) ∧
          (counted < needed → q.inBand ≤ 255 → r.phase = .accelerating ∧ r.inBand = counted ∧
            t.permitHolder = s.permitHolder)) ∧
        (q.phase = .locked →
          (e.natAbs ≤ 2 * s.settings.hysteresis → r.phase = .locked) ∧
          (2 * s.settings.hysteresis < e.natAbs →
            t.channel.grant ≠ some b ∧
            (¬slow → r.phase = .drifting ∧ r.inBand = 0 ∧ r.driftTimer = some 0 ∧
              r.indexArmed = false ∧ (t.positioner b).state = (s.positioner b).state) ∧
            (slow → r.phase = .stopping ∧ r.stopTimer = some 0 ∧ (t.bay b).faultClass = .speedLost))) ∧
        (q.phase = .drifting →
          (needed ≤ counted → r.phase = .locked ∧ r.inBand = 0 ∧ r.driftTimer = none ∧
            r.indexArmed = true) ∧
          (counted < needed → q.inBand ≤ 255 →
            (¬slow → r.phase = .drifting ∧ r.inBand = counted) ∧
            (slow → r.phase = .stopping ∧ r.stopTimer = some 0 ∧
              (t.bay b).faultClass = .speedLost))) ∧
        (q.phase = .stopping → r.phase = .stopping ∧ r.stopTimer = some 0)

/-- R32, R33, R39 to R41: the Spin Faults of the start timer, the Spin-Up Limit, the loss of marks and the
drift timer. R145: they end the tasks that wait for the spindle or use it. R146: a Spin Down whose park runs
waits for the stop alone from then on. That "a Spin Fault while a Read drains its slots" leaves that Read
without an end (log 29), that an expiry in another phase changes nothing (log 11), and that the Spin Fault
stands where a press is held over the field it cuts (log 68), are the model's choices. -/
def Obligations.SpindleLimitsAreSpinFaults : Prop :=
  ∀ (s : State) (b : Bay), s.waitingLaw →
    let phase := (s.spindle b).phase
    let next : State := { s with instant := s.instant + 1 }
    (phase = .starting →
      ∃ t : State, exec (.startTimerExpiry b) s = .next t.instantEnd ∧ SpinFaulted s t b .spinFault ∧
        t.standing = next.standing) ∧
    (phase = .starting ∨ phase = .accelerating →
      ∃ t : State, exec (.spinUpLimitExpiry b) s = .next t.instantEnd ∧ SpinFaulted s t b .spinFault ∧
        t.standing = next.standing) ∧
    (phase = .accelerating ∨ phase = .locked ∨ phase = .drifting →
      ∃ t : State, exec (.markSilence b) s = .next t.instantEnd ∧ SpinFaulted s t b .spinFault ∧
        t.standing = next.standing) ∧
    (phase = .drifting →
      ∃ t : State, exec (.driftTimerExpiry b) s = .next t.instantEnd ∧ SpinFaulted s t b .speedLost ∧
        t.standing = next.standing) ∧
    (phase ≠ .starting → exec (.startTimerExpiry b) s = .next next.instantEnd) ∧
    (phase ≠ .starting → phase ≠ .accelerating →
      exec (.spinUpLimitExpiry b) s = .next next.instantEnd) ∧
    (phase ≠ .accelerating → phase ≠ .locked → phase ≠ .drifting →
      exec (.markSilence b) s = .next next.instantEnd) ∧
    (phase ≠ .drifting → exec (.driftTimerExpiry b) s = .next next.instantEnd)

/-- R43, R30, R31, R45: entry to STOPPED, from which a Restart Held passes on at once to PENDING and, with
the permit free, to STARTING. That an expiry outside STOPPING changes nothing is the model's choice
(log 11). -/
def Obligations.StopTimerEndsTheStop : Prop :=
  ∀ (s : State) (b : Bay),
    let next : State := { s with instant := s.instant + 1 }
    ((s.spindle b).phase ≠ .stopping → exec (.stopTimerExpiry b) s = .next next.instantEnd) ∧
    ((s.spindle b).phase = .stopping →
      ∃ t : State, exec (.stopTimerExpiry b) s = .next t.instantEnd ∧
        let q := s.spindle b
        let r := t.spindle b
        (r.history = [] ∧ r.markTimer = none ∧ r.speed = 0 ∧ r.integrator = 0 ∧ r.inBand = 0 ∧
          r.revCount = 0 ∧ r.brake = false ∧ r.stopTimer = none ∧ r.restartHeld = false) ∧
        (q.restartHeld = false → r.phase = .stopped ∧ r.dutyStaging = 0 ∧
          t.permitHolder = s.permitHolder) ∧
        (q.restartHeld = true → s.permitHolder ≠ none →
          r.phase = .pending ∧ r.dutyStaging = 0 ∧ t.permitHolder = s.permitHolder ∧
            t.permitWaiting = some b) ∧
        (q.restartHeld = true → s.permitHolder = none →
          r.phase = .starting ∧ t.permitHolder = some b ∧ r.activeTarget = s.settings.targetSpeed ∧
            r.dutyStaging = s.settings.startDuty ∧ r.startTimer = some 0 ∧ r.spinUpTimer = some 0) ∧
        t.bays = s.bays ∧ t.channel = s.channel ∧ t.slots = s.slots ∧ BayKept s t b.other ∧
        t.standing = next.standing)

/-- R36, R42: a PWM period begins: Duty Active takes Duty Staging, a Brake that waits for the boundary is
asserted, and the line is asserted where the duty is not 0. R48, R49: an index pulse against the window of
the expected period, where no format waits for it, and an Index Missing. A pulse outside the window changes
no state but that its time has passed (the model's choice, log 24), and an INDEX_MISSING with the check
disarmed or no reference instant changes nothing (log 11). -/
def Obligations.PeriodsAndIndexPulses : Prop :=
  ∀ (s : State) (b : Bay) (elapsed : Nat),
    let q := s.spindle b
    let period := 60000000 / q.activeTarget
    let half := period / 16
    let set (f : Spindle → Spindle) : State :=
      { s with instant := s.instant + 1, spindles := s.spindles.update b f }
    (exec (.pwmPeriodBoundary b) s = .next (set fun q =>
      { q with
        dutyActive := q.dutyStaging, pwm := decide (0 < q.dutyStaging)
        brake := q.brake || q.brakePending, brakePending := false }).instantEnd) ∧
    (¬(s.channel.grant = some b ∧ s.channel.search = .formatting) →
      (q.indexArmed = false → exec (.indexPulse b elapsed) s = .next (set id).instantEnd) ∧
      (q.indexArmed = true →
        (q.indexSince = none → exec (.indexPulse b elapsed) s =
          .next (set fun q => { q with indexSince := some 0, missCount := 0 }).instantEnd) ∧
        (∀ n, q.indexSince = some n → period - half ≤ n + elapsed → n + elapsed ≤ period + half →
          exec (.indexPulse b elapsed) s =
            .next (set fun q => { q with indexSince := some 0, missCount := 0 }).instantEnd))) ∧
    (∀ n, q.indexSince = some n → q.indexArmed = true →
      n + elapsed < period - half ∨ period + half < n + elapsed →
      exec (.indexPulse b elapsed) s =
        .next (set fun q => { q with indexSince := some (n + elapsed) }).instantEnd) ∧
    (∀ n, q.indexSince = some n → q.indexArmed = true → period + half ≤ n →
      exec (.indexMissing b) s = .next (set fun q =>
        { q with
          missCount := min 255 (q.missCount + 1)
          indexSince := some (n - period) }).instantEnd) ∧
    (q.indexArmed = false ∨ q.indexSince = none →
      exec (.indexMissing b) s = .next (set id).instantEnd)

/-! ### The Read/Write Channel (spec/04) -/

/-- R92, R95 to R98: an ID field that passes its check while the channel searches for a task: the Target is
read into a slot or written from one, or slips; another sector of the cylinder is passed over; a Wrong
Cylinder counts one retry and releases the channel, also where the task's end is decided already, and a
recalibrate follows while its work goes on. The same of the mount's read (R110, R111, R128). Any other ID
field changes nothing. That a gate condition which fails at the match is a slip, that the retry count is the
bay's, that an ID field without a search changes nothing, and that exhausted retries stand before an Abort
mark, are the model's choices (log 25, log 27, log 11, log 73). The tasks of the queue have names of their own
(`State.queueLaw`, which every step keeps). -/
def Obligations.IdFieldsAreMatched : Prop :=
  ∀ (s : State) (f : IdField),
    let next : State := { s with instant := s.instant + 1 }
    (s.channel.search ≠ .searching ∨ idPasses f = false ∨ s.channel.grant = none ∨
        s.channel.target = none → exec (.idField f) s = .next next.instantEnd) ∧
    (∀ b, s.channel.grant = some b → ∀ w, s.channel.target = some w → s.channel.search = .searching →
      idPasses f = true → ∀ id, s.client? b = some (.task id) →
      (s.entries.map Entry.id).Nodup → ∀ e, s.entry? id = some e →
      ∀ r, e.run = some r → ∀ x, r.sectors.head? = some x →
      let here := 256 * f.cylinderHigh.toNat + f.cylinderLow.toNat = w.cylinder
      let target := here ∧ f.head.toNat = w.head ∧ f.sector.toNat = w.sector
      let sector : SlotSector := x.lsn.elim .record .lsn
      let slipped (t : State) : Prop :=
        t.channel.grant = none ∧ t.channel.search = .idle ∧ t.channel.readGate = false ∧
          t.channel.retryCount = s.channel.retryCount ∧ t.slots = s.slots ∧
          t.entries = s.entries.map fun e => if e.id = id then { e with stage := .slip } else e
      (here → ¬target → exec (.idField f) s = .next next.instantEnd) ∧
      (target → ∀ p, readPurpose e = some p →
        ∃ t : State, exec (.idField f) s = .next t.instantEnd ∧
          (s.slotForTake (.task id) = none → slipped t) ∧
          (∀ i, s.slotForTake (.task id) = some i → t.channel.search = .reading ∧
            t.channel.slot = some i ∧ t.channel.grant = some b ∧ t.entries = s.entries ∧
            t.slots = s.slots.modify i fun y =>
              { y with
                state := .filling, owner := some (.task id), purpose := some p, bay := b
                sector := sector, wordsMoved := 0, age := s.instant + 1
                hostAddress :=
                  if p = .read then x.lsn.map (fun n => e.block.buffer + 512 * (n - e.block.address))
                  else none })) ∧
      (target → readPurpose e = none →
        ∃ t : State, exec (.idField f) s = .next t.instantEnd ∧
          (s.slotFor? id sector = none → slipped t) ∧
          (∀ i, s.slotFor? id sector = some i →
            if (s.slots[i]?.map Slot.state) = some .full ∧ s.gateAllowed b r.cylinder = true then
              t.channel.search = .writing ∧ t.channel.writeGate = true ∧ t.channel.readGate = false ∧
                t.channel.slot = some i ∧ t.channel.grant = some b ∧ t.entries = s.entries ∧
                t.slots = s.slots.modify i fun y => { y with state := .draining }
            else slipped t)) ∧
      (¬here →
        ∃ t : State, exec (.idField f) s = .next t.instantEnd ∧ t.channel.grant = none ∧
          t.channel.retryCount.get b = min 8 (s.channel.retryCount.get b + 1) ∧
          (t.entry? id).map Entry.retriesUsed = some (min 255 (e.retriesUsed + 1)) ∧
          (t.entry? id).map (fun y => (y.stage, y.ending)) =
            (if e.ending.isSome then some (e.stage, e.ending)
            else if min 8 (s.channel.retryCount.get b + 1) ≤ s.allowance e then
              some (.recalibrating, none)
            else some (e.stage, some (if e.kind = some .reassign ∨ e.kind = some .resetRecord ∨
              e.kind = some .formatTrack then .dataError else .idNotFound))) ∧
          t.slots = s.slots ∧ t.spindles = s.spindles)) ∧
    (∀ b, s.channel.grant = some b → ∀ w, s.channel.target = some w → s.channel.search = .searching →
      idPasses f = true → s.client? b = some .mount →
      let here := 256 * f.cylinderHigh.toNat + f.cylinderLow.toNat = w.cylinder
      let target := here ∧ f.head.toNat = w.head ∧ f.sector.toNat = w.sector
      let n := min 8 (s.channel.retryCount.get b + 1)
      (here → ¬target → exec (.idField f) s = .next next.instantEnd) ∧
      (target →
        ∃ t : State, exec (.idField f) s = .next t.instantEnd ∧
          (s.freeSlot? = none → t.channel.grant = none ∧ t.channel.search = .idle ∧
            t.channel.retryCount = s.channel.retryCount ∧ t.slots = s.slots ∧
            (t.map b).mountStage = .slip ∧ (t.map b).status = (s.map b).status) ∧
          (∀ i, s.freeSlot? = some i → t.channel.search = .reading ∧ t.channel.slot = some i ∧
            t.channel.grant = some b ∧ t.map b = s.map b ∧
            t.slots = s.slots.modify i fun y =>
              { y with
                state := .filling, owner := some (.mount b), purpose := some .recordRead, bay := b
                sector := .record, hostAddress := none, wordsMoved := 0, age := s.instant + 1 })) ∧
      (¬here →
        ∃ t : State, exec (.idField f) s = .next t.instantEnd ∧ t.channel.grant = none ∧
          t.channel.retryCount.get b = n ∧
          (t.map b).mountRetries = min 255 ((s.map b).mountRetries + 1) ∧
          (n ≤ s.settings.retryLimit → (t.map b).mountStage = .recalibrating ∧
            (t.map b).status = (s.map b).status ∧ (t.map b).table = (s.map b).table) ∧
          (s.settings.retryLimit < n → (t.map b).mountStage = .idle ∧ (t.map b).status = .absent ∧
            (t.map b).table = [] ∧ (t.map b).nextSpare = 0) ∧
          t.map b.other = s.map b.other ∧ t.spindles = s.spindles))

/-- R93, R94, R96, R121, R123, R126: the end of a data field that a task reads. A failure is counted also
where the task's end is decided already. That the retry count is the bay's, that a field end with no read in
progress changes nothing, and that a marked task whose retries the field exhausts ends Data Error and not
Aborted, are the model's choices (log 27, log 11, log 73). The tasks of the queue have names of their own
(`State.queueLaw`, which every step keeps). -/
def Obligations.ReadFieldsEnd : Prop :=
  ∀ (s : State) (f : DataField),
    let next : State := { s with instant := s.instant + 1 }
    (s.channel.search ≠ .reading ∨ s.channel.grant = none ∨ s.channel.slot = none →
      exec (.dataFieldReadEnd f) s = .next next.instantEnd) ∧
    (∀ b, s.channel.grant = some b → ∀ i, s.channel.slot = some i → s.channel.search = .reading →
      ∀ id, s.client? b = some (.task id) → (s.entries.map Entry.id).Nodup →
      ∀ e, s.entry? id = some e → ∀ r, e.run = some r →
      let n := s.channel.retryCount.get b
      (dataPasses f = true →
        ∃ t : State, exec (.dataFieldReadEnd f) s = .next t.instantEnd ∧
          t.channel.retryCount.get b = 0 ∧ t.channel.slot = none ∧
          (t.map b).softErrors = (if 0 < n then min 255 ((s.map b).softErrors + 1)
            else (s.map b).softErrors) ∧
          (r.sectors.length ≤ 1 → t.channel.grant = none ∧
            (t.entry? id).map (fun y => (y.run, y.stage)) = some (none, .positioning)) ∧
          (1 < r.sectors.length → t.channel.grant = some b ∧ t.channel.search = .searching ∧
            (t.entry? id).map (fun y => y.run) = some (some { r with sectors := r.sectors.tail })) ∧
          (readPurpose e = some .read →
            (t.entry? id).map (fun y => (y.next, y.sectorsDone, y.ending)) =
              some (e.next + 1, e.sectorsDone, e.ending) ∧
            t.slots = s.slots.modify i fun y =>
              { y with state := .full, data := f.bytes.toList, age := s.instant + 1 }) ∧
          (readPurpose e = some .verify →
            (t.entry? id).map (fun y => (y.next, y.sectorsDone, y.ending)) =
              some (e.next + 1, e.sectorsDone + 1,
                if e.ending = none ∧ e.sectorsDone + 1 = e.block.count then
                  some (if e.aborted then .aborted else if 0 < e.retriesUsed then .recovered
                    else .complete)
                else e.ending) ∧
            (t.slots[i]?.map fun y => (y.state, y.owner)) = s.slots[i]?.map fun _ => (.free, none)) ∧
          (readPurpose e = some .copy →
            (t.entry? id).map (fun y => (y.sectorsDone, y.ending)) = some (e.sectorsDone, e.ending) ∧
            t.slots = s.slots.modify i fun y =>
              { y with state := .full, data := f.bytes.toList })) ∧
      (dataPasses f = false →
        ∃ t : State, exec (.dataFieldReadEnd f) s = .next t.instantEnd ∧
          t.channel.grant = some b ∧ t.channel.search = .searching ∧ t.channel.slot = none ∧
          t.channel.retryCount.get b = min 8 (n + 1) ∧
          (t.slots[i]?.map fun y => (y.state, y.owner)) = (s.slots[i]?.map fun _ => (.free, none)) ∧
          (t.entry? id).map (fun y => (y.retriesUsed, y.sectorsDone)) =
            some (min 255 (e.retriesUsed + 1), e.sectorsDone) ∧
          (t.entry? id).map (fun y => y.ending) =
            some (if e.ending = none ∧ s.allowance e < min 8 (n + 1) then some .dataError
              else e.ending)))

/-- R112: where nothing more follows in an instant, no task waits for a mount that may begin and has not.
R109, R59: a mount sequence that begins has its order taken from the actuator's present state: refused in
FAULT, and awaited in every other. That it stays awaited, though an order an ended sequence left ends or is
replaced, is the model's choice (log 44), and so is that none begins in a Part Reset (log 53). R107, R110, R105:
the end of the mount's read. A table it loads is lawful. That the retry count which decides between a retry and
DAMAGED is the bay's is the model's choice (log 27). -/
def Obligations.MountBeginsAndItsReadDecides : Prop :=
  (∀ s : State, s.Settled → ∀ b, s.supply.accepted = false → s.resetInProgress = false →
    (s.bay b).state = .locked → (s.spindle b).phase = .locked → (s.map b).status = .none →
    ∀ e ∈ s.entries, e.state = .active → e.ending = none → e.stage = .bayWait → e.names b = true →
      e.waits.get b = .mount → (s.map b).mountStage ≠ .idle) ∧
  (∀ (s : State) (b : Bay), s.mountable b = true →
    let t := s.beginMount b
    let given : Option Order := some ⟨.loadRecalibrate, .mount⟩
    (t.map b).mountStage = .loading ∧ (t.map b).mountRetries = 0 ∧ (t.map b).status = .none ∧
      (t.positioner b).reseekUsed = false ∧
      ((s.positioner b).state = .fault → (t.map b).mountOrder = .refused) ∧
      ((s.positioner b).state ≠ .fault → (t.map b).mountOrder = .outstanding ∧
        ((t.positioner b).order = given ∨ (t.positioner b).held = given ∨
          (t.positioner b).heldBehind = given)) ∧
      t.bays = s.bays ∧ t.spindles = s.spindles ∧ t.channel = s.channel ∧ t.slots = s.slots ∧
      t.map b.other = s.map b.other ∧ t.positioner b.other = s.positioner b.other ∧
      t.counts = s.counts ∧ t.settings = s.settings ∧ t.hostMem = s.hostMem) ∧
  ∀ (s : State) (f : DataField) (b : Bay), s.channel.grant = some b → s.channel.search = .reading →
    (s.map b).mountStage = .atChannel → ∀ i, s.channel.slot = some i →
      ∃ t : State, exec (.dataFieldReadEnd f) s = .next t.instantEnd ∧
        let n := min 8 (s.channel.retryCount.get b + 1)
        (dataPasses f = true → t.channel.grant = none ∧ (t.map b).mountStage = .idle ∧
          (∀ x, readRecord f.bytes.toList = some x →
            (t.map b).status = .valid ∧ (t.map b).table = x.1 ∧ (t.map b).nextSpare = x.2 ∧
              (t.map b).tableLaw) ∧
          (readRecord f.bytes.toList = none →
            (t.map b).status = .damaged ∧ (t.map b).table = [] ∧ (t.map b).nextSpare = 0)) ∧
        (dataPasses f = false → n ≤ s.settings.retryLimit →
          t.channel.grant = some b ∧ t.channel.search = .searching ∧
            (t.map b).mountStage = .atChannel ∧ (t.map b).status = (s.map b).status ∧
            (t.map b).mountRetries = min 255 ((s.map b).mountRetries + 1)) ∧
        (dataPasses f = false → s.settings.retryLimit < n →
          t.channel.grant = none ∧ (t.map b).mountStage = .idle ∧ (t.map b).status = .damaged ∧
            (t.map b).table = [] ∧ (t.map b).nextSpare = 0) ∧
        t.spindles = s.spindles ∧ t.bays = s.bays ∧ t.map b.other = s.map b.other ∧
        t.hostMem = s.hostMem ∧ t.settings = s.settings

/-- R97, R114, R116, R125, R127: the end of a data field that a task writes: the gate falls, the medium
holds the field, the slot is FREE, and the sector is counted; a Reassign or Reset Defect Record establishes
its table and ends. R10, R98: a Held press is delivered as the gate falls; that it comes before the sector is
counted, so that a task whose last field this was ends Ejected, is the model's choice (log 51). The tasks of
the queue have names of their own (`State.queueLaw`, which every step keeps). -/
def Obligations.WrittenFieldsEnd : Prop :=
  ∀ (s : State) (b : Bay), s.channel.grant = some b → s.channel.search = .writing →
    ∀ i, s.channel.slot = some i → ∀ id, s.client? b = some (.task id) →
    (s.entries.map Entry.id).Nodup → ∀ e, s.entry? id = some e →
      ∃ t : State, exec .dataFieldWriteEnd s = .next t.instantEnd ∧
        let m := s.map b
        let ends := if e.ending = none then some (if e.aborted then .aborted
          else if 0 < e.retriesUsed then .recovered else .complete) else e.ending
        let plain := (t.entry? id).map (fun y => (y.sectorsDone, y.next, y.ending)) =
          some (e.sectorsDone + 1, e.next + 1,
            if e.sectorsDone + 1 = e.block.count then ends else e.ending)
        let record := e.kind = some .reassign ∨ e.kind = some .resetRecord
        t.channel.writeGate = false ∧ t.channel.heldPress = none ∧ t.channel.retryCount.get b = 0 ∧
        (t.slots[i]?.map fun y => (y.state, y.owner)) = (s.slots[i]?.map fun _ => (.free, none)) ∧
        (∀ w, s.channel.target = some w → ∀ y, s.slots[i]? = some y → t.mediumOut =
          some (.field b w (List.replicate 12 0#8 ++ [0x6A#8] ++ y.data ++
            highFirst 4 (crc32 (0x6A#8 :: y.data)).toNat))) ∧
        (s.channel.heldPress = none →
          (¬record → plain ∧ (t.map b).table = m.table ∧ (t.map b).nextSpare = m.nextSpare ∧
            (t.map b).status = m.status) ∧
          (e.kind = some .reassign → reassignResult e.block.address m = none →
            (t.entry? id).map (fun y => y.ending) = some ends ∧ (t.map b).status = m.status ∧
              (t.map b).table = remap e.block.address m.nextSpare m.table ∧
              (t.map b).nextSpare = m.nextSpare + 1) ∧
          (e.kind = some .resetRecord → (s.bay b).state = .locked →
            (t.entry? id).map (fun y => y.ending) = some ends ∧ (t.map b).status = .valid ∧
              (t.map b).table = [] ∧ (t.map b).nextSpare = 0) ∧
          t.bays = s.bays ∧ t.positioners = s.positioners) ∧
        (s.channel.heldPress = some b → s.resetInProgress = false → s.supply.accepted = false →
          (s.bay b).presentUndecided = false → (s.bay b).state = .locked → e.names b = true →
          ((s.bay b).prevent = true → (t.bay b).state = .locked ∧ (t.bay b).ejectRequested = true ∧
            (¬record → plain)) ∧
          ((s.bay b).prevent = false → e.releases = false →
            (t.bay b).state = .releasing .ejecting ∧ (t.map b).status = .none ∧
              (t.map b).table = [] ∧ (t.map b).nextSpare = 0 ∧
              (t.entry? id).map (fun y => y.ending) = some (some (e.ending.getD .ejected)) ∧
              (¬record → (t.entry? id).map (fun y => y.sectorsDone) = some (e.sectorsDone + 1)))) ∧
        t.spindles = s.spindles ∧ t.hostMem = s.hostMem ∧ t.settings = s.settings ∧
        t.counts = s.counts

/-- R100 to R102, R48, R49: a Format Track: the arming index, the positions laid, the end of the laying, and
the closing index. A pulse counts where it is accepted: with the check disarmed, with no reference yet, or in
the window of the expected period; one outside is said in PeriodsAndIndexPulses. That a DATA_FIELD_WRITE_END
while the track is laid is the end of one position (log 28), that an arming index at which the gate is not
allowed arms nothing (log 25), and that the Index Fault, or an Abort of the laying, stands where a press is
held (log 68), are the model's choices. The tasks of the queue have names of their own
(`State.queueLaw`, which every step keeps). -/
def Obligations.FormatLaysTheTrack : Prop :=
  ∀ (s : State) (b : Bay), s.channel.grant = some b → s.channel.search = .formatting →
    ∀ id, s.client? b = some (.task id) → (s.entries.map Entry.id).Nodup →
    ∀ e, s.entry? id = some e → ∀ r, e.run = some r →
      let ends := if e.ending = none then some (if e.aborted then .aborted
        else if 0 < e.retriesUsed then .recovered else .complete) else e.ending
      (s.channel.format = .laying →
        (∃ t : State, exec .layingEnd s = .next t.instantEnd ∧
          t.channel.format = .closing ∧ t.channel.writeGate = false ∧ t.channel.readGate = true ∧
          t.channel.grant = some b ∧
          t.mediumOut = some (.track b (e.block.address % 65536) (e.block.address / 65536 % 256)
            (trackBytes (e.block.address % 65536) (e.block.address / 65536 % 256)
              (e.block.address / 16777216) (BitVec.ofNat 8 e.block.parameter))) ∧
          t.slots = s.slots ∧ t.bays = s.bays ∧ t.spindles = s.spindles ∧ t.maps = s.maps) ∧
        (e.aborted = false → e.ending = none →
          exec .dataFieldWriteEnd s = .next (State.instantEnd
            { s with
              instant := s.instant + 1
              channel := { s.channel with
                formatPosition := min 31 (s.channel.formatPosition + 1) } })) ∧
        (e.aborted = true → e.ending = none →
          ∃ t : State, exec .dataFieldWriteEnd s = .next t.instantEnd ∧ t.channel.grant = none ∧
            t.channel.writeGate = false ∧
            (t.entry? id).map (fun y => y.ending) = some (some .aborted))) ∧
      (∀ elapsed,
        let q := s.spindle b
        let period := 60000000 / q.activeTarget
        let half := period / 16
        (q.indexArmed = false ∨ ∀ n, q.indexSince = some n →
          period - half ≤ n + elapsed ∧ n + elapsed ≤ period + half) →
        ∃ t : State, exec (.indexPulse b elapsed) s = .next t.instantEnd ∧
          t.spindle b = (if q.indexArmed then { q with indexSince := some 0, missCount := 0 } else q) ∧
          t.spindle b.other = s.spindle b.other ∧ t.bays = s.bays ∧ t.positioners = s.positioners ∧
          (s.channel.format = .arming → s.gateAllowed b r.cylinder = false →
            t.channel = s.channel ∧ t.entries = s.entries ∧ t.maps = s.maps) ∧
          (s.channel.format = .arming → s.gateAllowed b r.cylinder = true →
            t.channel.format = .laying ∧ t.channel.writeGate = true ∧ t.channel.readGate = false ∧
              t.channel.formatRevs = 0 ∧ t.channel.grant = some b ∧ t.entries = s.entries ∧
              (r.cylinder = 638 → r.head = 0 →
                (t.map b).status = .absent ∧ (t.map b).table = [] ∧ (t.map b).nextSpare = 0) ∧
              (¬(r.cylinder = 638 ∧ r.head = 0) → t.map b = s.map b)) ∧
          (s.channel.format = .laying → t.channel.grant = none ∧ t.channel.writeGate = false ∧
            (t.entry? id).map (fun y => y.ending) = some (some (e.ending.getD .indexFault))) ∧
          (s.channel.format = .closing → t.channel.grant = none ∧
            (t.entry? id).map (fun y => y.ending) = some ends))

/-! ### The Bus Master and the Link Port (spec/06 section 6.8, spec/08) -/

/-- R130, R132: what a grant of the bus serves: the sector-data request of the oldest Age, the
lowest-numbered slot among equals; otherwise the finish; otherwise a Condition Record; otherwise the
fetcher, of whose work `State.fetchWork` says which comes first. That of a held Attention and a poll that was
due before it the re-read is the first is the model's choice (log 66). -/
def Obligations.GrantServesOneRequest : Prop :=
  ∀ s : State,
    let next : State := { s with instant := s.instant + 1 }
    let noSectors := ∀ x ∈ s.slots, slotRequests x = false
    (s.burst ≠ none → exec .dmaGrant s = .next next.instantEnd) ∧
    (s.burst = none →
      (∀ x ∈ s.slots.zipIdx, slotRequests x.1 = true →
        (∀ y ∈ s.slots.zipIdx, slotRequests y.1 = true →
          x.1.age < y.1.age ∨ (x.1.age = y.1.age ∧ x.2 ≤ y.2)) →
        exec .dmaGrant s = .next (State.instantEnd
          { next with
            slots := s.slots.modify x.2 fun y =>
              { y with state := if y.state = .full then .draining else y.state }
            burst := some
              { work := .slot x.2
                address := x.1.hostAddress.getD 0 + 2 * x.1.wordsMoved
                words :=
                  if x.1.purpose = some .read ∨ x.1.purpose = some .settingsOut then
                    bytesWords ((x.1.data.drop (2 * x.1.wordsMoved)).take 32)
                  else []
                drop := false } })) ∧
      (noSectors → ∀ id, s.finishing.head? = some id → ∀ e, s.entry? id = some e →
        ∃ t : State, exec .dmaGrant s = .next t.instantEnd ∧
          t.burst.map Burst.work = some (.finish s.link.finishStep) ∧ t.slots = s.slots ∧
          t.link = s.link ∧ t.counts = s.counts ∧ t.entries = s.entries) ∧
      (noSectors → s.finishing = [] → ∀ b, s.link.recordOrder.head? = some b →
        ∃ t : State, exec .dmaGrant s = .next t.instantEnd ∧
          t.burst.map Burst.work =
            some (if s.link.pendingRecord.get b = .raised then
              .record b (s.counts.sequence.get b + 1) true
            else .record b (s.counts.sequence.get b) false) ∧
          t.link.pendingRecord.get b = .none ∧
          t.link.pendingRecord.get b.other = s.link.pendingRecord.get b.other ∧
          t.slots = s.slots ∧ t.counts = s.counts ∧ t.entries = s.entries) ∧
      (noSectors → s.finishing = [] → s.link.recordOrder = [] →
        ∃ t : State, exec .dmaGrant s = .next t.instantEnd ∧
          t.burst.map Burst.work = s.fetchWork ∧ t.link.fetch = s.link.fetch ∧
          t.slots = s.slots ∧ t.counts = s.counts ∧ t.entries = s.entries))

/-- R130, R162 to R164, R179: a burst that a grant begins has at most 16 words, and each write of the Link
Port goes to the place its rule names with the words its rule names; those of a Condition Record are the
eight of spec/11 section 11.3, taken from the bay as it stands. -/
def Obligations.BurstsGoWhereTheRulesName : Prop :=
  ∀ s : State, s.burst = none →
    ∃ t : State, exec .dmaGrant s = .next t.instantEnd ∧ ∀ x, t.burst = some x →
      let anchor := s.ports.anchor.toNat
      x.words.length ≤ 16 ∧
      (x.work = .startWrite → x.address = anchor + 16 ∧ x.words =
        [s.counts.taken, s.counts.finished, s.counts.cursor.extractLsb' 0 16,
          s.counts.cursor.extractLsb' 16 16, BitVec.ofNat 16 (linkFaultCode s.counts.fault)]) ∧
      (x.work = .writeCursor → x.address = anchor + 20 ∧ x.words =
        [s.counts.cursor.extractLsb' 0 16, s.counts.cursor.extractLsb' 16 16]) ∧
      (x.work = .writeTaken → x.address = anchor + 16 ∧ x.words = [s.counts.taken]) ∧
      (x.work = .faultClear → x.address = anchor + 24 ∧ x.words = [0#16]) ∧
      (∀ f, x.work = .writeFault f →
        x.address = anchor + 24 ∧ x.words = [BitVec.ofNat 16 (linkFaultCode f)]) ∧
      (∀ a y, x.work = .stamp a y → x.address = a + 24 ∧ x.words = [1#16]) ∧
      (x.work = .reread ∨ x.work = .poll → x.address = anchor + 4 ∧ x.words = []) ∧
      (∀ a, x.work = .readBlock a → x.address = a ∧ x.words = []) ∧
      (x.work = .readLink → x.words = [] ∧
        x.address = if s.counts.cursor = 0 then anchor else s.counts.cursor.toNat) ∧
      (∀ b n raised, x.work = .record b n raised →
        let c := s.bay b
        let q := s.spindle b
        let p := s.positioner b
        let m := s.map b
        x.address = anchor + 32 + 16 * b.number ∧ x.words =
          [n, BitVec.ofNat 8 (phaseCode q.phase) ++ BitVec.ofNat 8 (bayStateCode c.state),
            BitVec.ofNat 16 q.speed, BitVec.ofNat 16 (q.speed / 65536),
            if p.known then BitVec.ofInt 16 p.counter else 0xFFFF#16,
            BitVec.ofNat 8 c.generation ++ BitVec.ofNat 8 (actuatorCode p.state),
            (0#3 ++ BitVec.ofBool c.ejectFailed ++ BitVec.ofBool m.marginal ++
              BitVec.ofBool c.ejectRequested ++ BitVec.ofBool c.writeProtect.accepted ++
              BitVec.ofBool c.prevent) ++ BitVec.ofNat 8 (mountCode m.status),
            BitVec.ofNat 8 m.softErrors ++ BitVec.ofNat 8 (faultClassCode c.faultClass)]) ∧
      (∀ id, s.finishing.head? = some id → ∀ e, s.entry? id = some e →
        (x.work = .finish 0 → x.address = e.blockAddress + 26 ∧ x.words =
          [BitVec.ofNat 16 e.sectorsDone, BitVec.ofNat 16 e.detail,
            BitVec.ofNat 8 (s.counts.finished + 1).toNat ++ BitVec.ofNat 8 e.retriesUsed]) ∧
        (x.work = .finish 1 → x.address = e.blockAddress + 24 ∧ x.words =
          [BitVec.ofNat 8 (resultCode (e.ending.getD .complete)) ++ 2#8]) ∧
        (x.work = .finish 2 → x.address = anchor + 18 ∧ x.words = [s.counts.finished + 1]))

/-- R122, R124, R128, R129, R169: the end of a burst of a slot. The words it wrote lie in host memory, low
byte at the lower address; the last word delivers a Read's sector, fills a Write's slot, or ends a settings
transfer. That a slot dropped at the end of a burst into it keeps none of that burst's words is the model's
choice (log 59). -/
def Obligations.SlotBurstsMoveTheSector : Prop :=
  ∀ (s : State) (words : Vector Word 16), ∀ x, s.burst = some x → ∀ i, x.work = .slot i →
    ∀ y, s.slots[i]? = some y → ∀ id, y.owner = some (.task id) → ∀ e, s.entry? id = some e →
      ∃ t : State, exec (.burstComplete words) s = .next t.instantEnd ∧
        let total := if y.purpose = some .settingsIn ∨ y.purpose = some .settingsOut then 32 else 256
        let toHost := y.purpose = some .read ∨ y.purpose = some .settingsOut
        let data := if toHost then y.data
          else y.data.take (2 * y.wordsMoved) ++ wordsBytes words.toList ++
            y.data.drop (2 * y.wordsMoved + 32)
        t.burst = none ∧ t.hostMem = s.hostMem.writeBytes x.address (wordsBytes x.words) ∧
        (x.drop = true → t.slots = s.slots.modify i (fun z => Slot.freed z.data) ∧
          t.entries = s.entries ∧ t.settings = s.settings) ∧
        (x.drop = false →
          (y.wordsMoved + 16 < total → t.entries = s.entries ∧ t.settings = s.settings ∧
            t.slots = s.slots.modify i fun z => { z with data := data, wordsMoved := y.wordsMoved + 16 }) ∧
          (total ≤ y.wordsMoved + 16 →
            (y.purpose = some .read ∨ y.purpose = some .settingsOut ∨ y.purpose = some .settingsIn →
              t.slots = s.slots.modify i fun _ => Slot.freed data) ∧
            (y.purpose = some .read →
              (t.entry? id).map (fun f => (f.sectorsDone, f.ending)) =
                some (e.sectorsDone + 1, e.ending) ∧ t.settings = s.settings) ∧
            (y.purpose = some .write →
              t.slots = s.slots.modify i (fun z =>
                { z with state := .full, data := data, wordsMoved := y.wordsMoved + 16 }) ∧
              t.entries = s.entries ∧ t.settings = s.settings) ∧
            (y.purpose = some .settingsOut → e.state = .active → e.ending = none →
              t.settings = s.settings ∧ (t.entry? id).map (fun f => (f.ending, f.detail)) =
                some (some (if e.aborted then .aborted else .complete), 0)) ∧
            (y.purpose = some .settingsIn → e.state = .active → e.ending = none →
              let taken := takeSettings s.settings (data.take 64)
              t.settings = taken.1 ∧ (t.entry? id).map (fun f => (f.ending, f.detail)) =
                some (if e.aborted then (some .aborted, 0)
                  else if 0 < taken.2 then (some .adjusted, taken.2) else (some .complete, 0))))) ∧
        t.spindles = s.spindles ∧ t.positioners = s.positioners ∧ t.maps = s.maps ∧
        t.channel = s.channel ∧ t.counts = s.counts

/-- R159 to R164, R135: the end of each access of the Link Port: of the fetcher, of a Condition Record's
write, and of the three writes of a finish. At the end of the third the Finished Count is raised and the
entry leaves the queue. These are the model's choices: that a link read outside RUNNING, or whose fetch has
been withdrawn, is dropped (log 18); that the fault write which enters STALLED leaves a due poll due (log 49);
that a re-read and a poll bring their fields in every state but OFFLINE, also where the burst was begun before
an OFFLINE that it has outlived (log 61). -/
def Obligations.LinkBurstsEnd : Prop :=
  ∀ (s : State) (words : Vector Word 16), ∀ x, s.burst = some x →
    let ended : State :=
      { s with
        instant := s.instant + 1, burst := none
        hostMem := s.hostMem.writeBytes x.address (wordsBytes x.words) }
    let fetched (f : Fetch) : State := { ended with link := { s.link with fetch := f } }
    let ends (t : State) : Prop := exec (.burstComplete words) s = .next t.instantEnd
    let link := words[0].toNat + 65536 * words[1].toNat
    (x.work = .startWrite ∨ x.work = .faultClear → ends ended) ∧
    (x.work = .readLink → s.link.fetch ≠ .readLink → ends ended) ∧
    (x.work = .readLink → s.link.fetch = .readLink → s.link.state = .running →
      (link = 0 → ends (fetched (.writeFault .brokenChain))) ∧
      (link ≠ 0 → 2 ^ 24 ≤ link ∨ link % 16 ≠ 0 → ends (fetched (.writeFault .misaligned))) ∧
      (link ≠ 0 → link < 2 ^ 24 → link % 16 = 0 → ends (fetched (.readBlock link)))) ∧
    (x.work = .readLink → s.link.fetch = .readLink → s.link.state ≠ .running →
      ends (fetched .idle)) ∧
    (∀ a, x.work = .readBlock a →
      ends (fetched (.stamp a (parseBlock (wordsBytes words.toList))))) ∧
    (∀ a y, x.work = .stamp a y → ends
      { ended with
        counts := { s.counts with taken := s.counts.taken + 1, cursor := BitVec.ofNat 32 a }
        entries := s.entries ++ [newEntry s.nextId y a s.resetInProgress s.supply.accepted]
        nextId := s.nextId + 1
        link := { s.link with fetch := .writeCursor } }) ∧
    (x.work = .writeCursor → ends (fetched .writeTaken)) ∧
    (x.work = .writeTaken → ends (fetched .idle)) ∧
    (∀ f, x.work = .writeFault f → ends
      { ended with
        counts := { s.counts with fault := f }
        link := { s.link with
          fetch := .idle
          state := if s.link.state = .running then .stalled else s.link.state } }) ∧
    (x.work = .reread → s.link.state ≠ .offline → ends
      { ended with
        hostFields :=
          { posted := words[0], interruptEnable := words[1].getLsbD 0, finishedSeen := words[2]
            conditionSeen := ⟨words[3], words[4]⟩, pollInterval := words[5] }
        link := { s.link with
          pollTimer :=
            if words[5] = s.hostFields.pollInterval then s.link.pollTimer
            else s.link.pollTimer.map fun _ => 0 } }) ∧
    (x.work = .poll → s.link.state ≠ .offline →
      ends { ended with hostFields := { s.hostFields with posted := words[0] } }) ∧
    (∀ b n raised, x.work = .record b n raised → ends
      (if raised = true then
        { ended with counts := { s.counts with sequence := s.counts.sequence.update b fun _ => n } }
      else ended)) ∧
    (x.work = .finish 0 → ends
      { ended with link := { s.link with finishStep := 1 } }) ∧
    (x.work = .finish 1 → ends
      { ended with link := { s.link with finishStep := 2 } }) ∧
    (x.work = .finish 2 → ∀ id, s.finishing.head? = some id →
      ends
        { ended with
          counts := { s.counts with finished := s.counts.finished + 1 }
          finishing := s.finishing.tail
          entries := s.entries.filter fun e => e.id != id
          link := { s.link with finishStep := 0 } })

/-! ### The timers of the Link Port and of the bays (spec/01, spec/08) -/

/-- R159, R160, R165: the poll timer, whose expiry a held Attention serves, and a bay's refresh timer. R13:
the end of the pulse, and the two ends of an eject that fails, each with the bay SEATED, Eject Failed set,
and the task that ejects ended. An expiry of a timer that does not run changes nothing (the model's choice,
log 11). -/
def Obligations.LinkAndEjectTimersExpire : Prop :=
  ∀ (s : State) (b : Bay),
    let next : State := { s with instant := s.instant + 1 }
    let failed (c : BayControl) : BayControl :=
      { c with
        state := .seated, ejectFailed := true, eject := false, startBound := none, pulse := none
        leave := none }
    let ended := ((next.modBay b failed).modEntries fun e =>
      if e.names b && e.stage == .ejecting then decided .ejectFailed 0 e else e)
    let timer := s.link.refreshTimer.update b fun _ => some 0
    (s.link.pollTimer = none → exec .pollTimerExpiry s = .next next.instantEnd) ∧
    (s.link.pollTimer.isSome = true → exec .pollTimerExpiry s = .next (State.instantEnd
      { next with
        link := { s.link with
          pollTimer := some 0, pollDue := s.link.pollDue || !s.link.attentionHeld } })) ∧
    (s.link.refreshTimer.get b = none → exec (.refreshTimerExpiry b) s = .next next.instantEnd) ∧
    ((s.link.refreshTimer.get b).isSome = true → s.link.pendingRecord.get b ≠ .none →
      exec (.refreshTimerExpiry b) s = .next (State.instantEnd
        { next with link := { s.link with refreshTimer := timer } })) ∧
    ((s.link.refreshTimer.get b).isSome = true → s.link.pendingRecord.get b = .none →
      b ∉ s.link.recordOrder →
      exec (.refreshTimerExpiry b) s = .next (State.instantEnd
        { next with
          link := { s.link with
            refreshTimer := timer
            pendingRecord := s.link.pendingRecord.update b fun _ => .refresh
            recordOrder := s.link.recordOrder ++ [b] } })) ∧
    ((s.bay b).pulse.isSome = true → exec (.pulseTimerExpiry b) s = .next (State.instantEnd
      { next with bays := s.bays.update b fun c => { c with eject := false, pulse := none } })) ∧
    ((s.bay b).pulse = none → exec (.pulseTimerExpiry b) s = .next next.instantEnd) ∧
    ((s.bay b).leave.isSome = true → exec (.leaveTimerExpiry b) s = .next ended.instantEnd) ∧
    ((s.bay b).leave = none → exec (.leaveTimerExpiry b) s = .next next.instantEnd) ∧
    ((s.bay b).startBound.isSome = true → exec (.startBoundTimerExpiry b) s = .next ended.instantEnd) ∧
    ((s.bay b).startBound = none → exec (.startBoundTimerExpiry b) s = .next next.instantEnd)

/-- R17, R21, R76: the retry timer orders one retract while the spindle regulates, and none otherwise; the
idle timer orders the heads parked, and with the heads parked already the spindle is to stop. An order held
there for its load is replaced, told not carried out (the model's choice, log 40). R111: an idle Park ends a
mount sequence where it is taken, in RETRACTING at the joining already (the model's reading, log 70). The row
is taken at its own moment, whatever count the timer shows (the model's choice, log 12), and changes nothing
where its timer does not run (the model's choice, log 11). -/
def Obligations.RetryAndIdleParkTheHeads : Prop :=
  ∀ (s : State) (b : Bay),
    let next : State := { s with instant := s.instant + 1 }
    let quiet : State := { next with bays := s.bays.update b fun c => { c with retry := none } }
    let idle : State :=
      { next with
        bays := s.bays.update b fun c => { c with idle := none, idleStop := true, idleSpent := true } }
    ((s.bay b).retry = none → exec (.retryTimerExpiry b) s = .next next.instantEnd) ∧
    ((s.bay b).retry.isSome = true →
      (¬((s.spindle b).phase = .locked ∨ (s.spindle b).phase = .drifting) →
        exec (.retryTimerExpiry b) s = .next quiet.instantEnd) ∧
      ((s.spindle b).phase = .locked ∨ (s.spindle b).phase = .drifting →
        (s.positioner b).state = .fault → s.supply.accepted = false →
        ∃ t : State, exec (.retryTimerExpiry b) s = .next t.instantEnd ∧ t.bays = quiet.bays ∧
          (t.positioner b).state = .retracting ∧ (t.positioner b).dac = -80 ∧
          (t.positioner b).retract = true ∧ (t.positioner b).retractTimer = some 0 ∧
          (t.positioner b).retractFromFault = true ∧
          (t.positioner b).order = some ⟨.park, .bay⟩ ∧ t.spindles = s.spindles ∧
          t.entries = s.entries ∧ BayKept s t b.other)) ∧
    ((s.bay b).idle = none ∨ s.settings.idleLimit = 0 →
      exec (.idleTimerExpiry b) s = .next next.instantEnd) ∧
    ((s.bay b).idle.isSome = true → s.settings.idleLimit ≠ 0 →
      ((s.positioner b).state = .parked → (∀ o, (s.positioner b).held = some o → o.kind = .park) →
        (s.map b).mountStage = .idle → exec (.idleTimerExpiry b) s = .next idle.instantEnd) ∧
      ((s.positioner b).state = .parked → (∀ o, (s.positioner b).held = some o → o.kind = .park) →
        ∃ t : State, exec (.idleTimerExpiry b) s = .next t.instantEnd ∧ t.bays = idle.bays ∧
          MountEnded s t b ∧ t.positioners = s.positioners ∧ t.entries = s.entries ∧
          t.spindles = s.spindles ∧ BayKept s t b.other) ∧
      ((s.positioner b).state = .parked → ∀ o, (s.positioner b).held = some o → o.kind ≠ .park →
        ∃ t : State, exec (.idleTimerExpiry b) s = .next t.instantEnd ∧ t.bays = idle.bays ∧
          (t.positioner b).held = none ∧ (t.positioner b).state = .parked ∧
          (t.positioner b).heldBehind = (s.positioner b).heldBehind ∧
          (∀ id, o.giver = .task id → t.entries = s.entries.map fun e =>
            if e.id = id ∧ e.order = .outstanding then { e with order := .returned } else e) ∧
          MountEnded s t b ∧ t.spindles = s.spindles ∧ BayKept s t b.other) ∧
      ((s.positioner b).state = .retracting → s.supply.accepted = false →
        ∃ t : State, exec (.idleTimerExpiry b) s = .next t.instantEnd ∧ t.bays = idle.bays ∧
          (t.positioner b).state = .retracting ∧
          (t.positioner b).retractTimer = (s.positioner b).retractTimer ∧
          ((∀ g, (s.positioner b).order ≠ some ⟨.park, g⟩) →
            (t.positioner b).order = some ⟨.park, .bay⟩) ∧
          (∀ o, (s.positioner b).held = some o → o.kind ≠ .park → (t.positioner b).held = none) ∧
          MountEnded s t b ∧ t.spindles = s.spindles ∧ BayKept s t b.other) ∧
      ((s.positioner b).state = .following → s.supply.accepted = false →
        (s.positioner b).held = none →
        exec (.idleTimerExpiry b) s = .next (State.instantEnd
          { idle with
            positioners := s.positioners.update b fun p => { p with held := some ⟨.park, .bay⟩ } })))

/-! ### What the blocks compute -/

/-- R66: the demanded velocity of an acceptable profile, by breakpoint; it never falls as the distance
grows. R65, R67: the DAC value of the velocity loop: the demand carries the sign of the direction of motion,
and Vmeas counts against it where the last crossing went the other way. -/
def Obligations.DemandFollowsTheProfile : Prop :=
  (∀ p : List Breakpoint, profileAcceptable p = true →
    (∀ first, p.head? = some first → ∀ d, d < first.distance →
      profileVelocity p d = first.velocity * d / first.distance) ∧
    (∀ last, p.getLast? = some last → ∀ d, last.distance ≤ d →
      profileVelocity p d = last.velocity) ∧
    (∀ k lo hi, p[k]? = some lo → p[k + 1]? = some hi → ∀ d, lo.distance ≤ d → d < hi.distance →
      profileVelocity p d = lo.velocity +
        (hi.velocity - lo.velocity) * (d - lo.distance) / (hi.distance - lo.distance)) ∧
    ∀ d e, d ≤ e → profileVelocity p d ≤ profileVelocity p e) ∧
  ∀ p : Positioner,
    let v : Int := motionDemand p
    let inward : Bool := match p.state with
      | .seeking => decide (p.counter < (p.target : Int))
      | .recalibrating => p.recalLeg == .inward
      | _ => p.lastDirection == .inward
    let vt : Int := if inward = (p.lastDirection == .inward) then p.vmeas else -p.vmeas
    let a : Int := max (-127) (min 127 ((p.kv : Int) * (v - vt) / 16))
    (p.state = .seeking → v = profileVelocity p.profile ((p.target : Int) - p.counter).natAbs) ∧
    (p.state = .recalibrating → v = 32) ∧ (p.state = .stopping → v = 0) ∧
    loopDac p = (if inward then a else -a) ∧ -127 ≤ loopDac p ∧ loopDac p ≤ 127

/-- R104, R105: the physical sector of an LSN: its home sector, or under a lawful table the spare sector of
its entry. No two LSNs go to one sector, and the maintenance cylinder is never reached. -/
def Obligations.TranslationIsOneToOne : Prop :=
  ∀ m : DefectMap, m.tableLaw → ∀ n, n < 40448 →
    (∀ e ∈ m.table, e.lsn = n → translate m.table n =
      { cylinder := 632 + e.spare / 64, head := e.spare % 64 / 32, sector := e.spare % 32 }) ∧
    ((∀ e ∈ m.table, e.lsn ≠ n) → translate m.table n =
      { cylinder := n / 64, head := n % 64 / 32, sector := n % 32 }) ∧
    (translate m.table n).cylinder < 638 ∧ (translate m.table n).head ≤ 1 ∧
    (translate m.table n).sector ≤ 31 ∧
    ∀ k, k < 40448 → translate m.table k = translate m.table n → k = n

/-- R107: a Defect Record is well-formed exactly when its six conditions hold, and is then loaded whole. -/
def Obligations.WellFormedRecordsAreLoaded : Prop :=
  ∀ data : List Byte,
    let count := mediumField2 data 2
    let next := mediumField2 data 4
    let lsn (i : Nat) := mediumField2 data (8 + 4 * i)
    let spare (i : Nat) := mediumField2 data (10 + 4 * i)
    let wellFormed := mediumField2 data 0 = 0xD5E3 ∧ count ≤ 48 ∧ next ≤ 384 ∧
      (∀ i, i + 1 < count → lsn i < lsn (i + 1)) ∧ (∀ i, i < count → lsn i < 40448) ∧
      (∀ i, i < count → spare i < next) ∧ ∀ i j, i < j → j < count → spare i ≠ spare j
    (wellFormed → readRecord data =
      some ((List.range count).map fun i => { lsn := lsn i, spare := spare i }, next)) ∧
    (¬wellFormed → readRecord data = none)

/-- R105: every step keeps the law of both Remap Tables, whatever a mount loads or a task remaps. R113, R114:
a Reassign that passes its checks gives the LSN the old Next Spare, and leaves every other LSN where it
was. -/
def Obligations.StepKeepsTheTableLaw : Prop :=
  (∀ s t : State, (∀ b, (s.map b).tableLaw) → step s = .next t → ∀ b, (t.map b).tableLaw) ∧
  ∀ (m : DefectMap) (lsn : Nat), m.tableLaw → reassignResult lsn m = none →
    (reassigned lsn m).tableLaw ∧ (reassigned lsn m).status = .valid ∧
    (reassigned lsn m).nextSpare = m.nextSpare + 1 ∧
    findEntry (reassigned lsn m).table lsn = some { lsn := lsn, spare := m.nextSpare } ∧
    ∀ n, n ≠ lsn → findEntry (reassigned lsn m).table n = findEntry m.table n

/-- R169, R171: the record that a Read Settings writes is taken back by a Set Parameters without an
adjustment; whatever a record holds, what is taken lies in its range (R168). -/
def Obligations.SettingsAreTakenInRange : Prop :=
  (∀ t old : Settings, t.inRange → old.inRange →
    (settingsBytes t).length = 64 ∧ takeSettings old (settingsBytes t) = (t, 0)) ∧
  ∀ (old : Settings) (data : List Byte), old.inRange → (takeSettings old data).1.inRange

/-- R86, R87, R92, R97, R100: what Format Track and the write CRC unit record is read back with a passing
check, naming its own cylinder, head and sector. -/
def Obligations.WhatIsRecordedIsReadBack : Prop :=
  (∀ cylinder head sector, cylinder ≤ 638 → head ≤ 1 → sector ≤ 31 →
    ∃ f : IdField, idFieldBytes cylinder head sector = List.replicate 12 0#8 ++
        [f.mark, f.cylinderHigh, f.cylinderLow, f.head, f.sector, f.flags,
          f.check.extractLsb' 8 8, f.check.extractLsb' 0 8] ∧
      idPasses f = true ∧ idCylinder f = cylinder ∧ f.head.toNat = head ∧ f.sector.toNat = sector ∧
      f.flags = 0) ∧
  (∀ data : Vector Byte 512,
    ∃ f : DataField, f.bytes = data ∧ dataPasses f = true ∧
      dataFieldBytes data.toList = List.replicate 12 0#8 ++ f.mark :: data.toList ++
        [f.check.extractLsb' 24 8, f.check.extractLsb' 16 8, f.check.extractLsb' 8 8,
          f.check.extractLsb' 0 8]) ∧
  ∀ m : DefectMap, m.tableLaw → (∀ e ∈ m.table, e.lsn < 40448) →
    (recordBytes m.table m.nextSpare).length = 512 ∧
      readRecord (recordBytes m.table m.nextSpare) = some (m.table, m.nextSpare)

/-- R101: the placement under every interleave: sector 0 at position 0, each sector at the first free
position at or after its predecessor's plus k, so that every sector has one position of its own. -/
def Obligations.InterleavePlacesEverySector : Prop :=
  ∀ k, 1 ≤ k → k ≤ 31 →
    let p := sectorPositions k
    p.length = 32 ∧ p.Nodup ∧ p[0]? = some 0 ∧
    (∀ s, s < 31 → ∃ step, step < 32 ∧
      p[s + 1]? = some ((p.getD s 0 + k + step) % 32) ∧
      ∀ j, j < step → (p.getD s 0 + k + j) % 32 ∈ p.take (s + 1)) ∧
    ∀ s, s < 32 → (interleave k)[p.getD s 0]? = some s

/-- R88: a run is one redirected LSN by itself, or the longest sequence from its first LSN on one track
that the table does not redirect, of at most the sectors left and at most 32 (8 for a Copy). -/
def Obligations.RunsAreTheLongest : Prop :=
  ∀ (b : Bay) (table : List RemapEntry) (lsn left most : Nat), 1 ≤ left → 1 ≤ most →
    let r := formRun b table lsn left most
    let first := translate table lsn
    let n := r.sectors.length
    r.bay = b ∧ r.cylinder = first.cylinder ∧ r.head = first.head ∧ 1 ≤ n ∧ n ≤ left ∧ n ≤ most ∧
    (∀ i, i < n → r.sectors[i]? =
      some { lsn := some (lsn + i), sector := (translate table (lsn + i)).sector }) ∧
    ((findEntry table lsn).isSome = true → n = 1) ∧
    ((findEntry table lsn).isSome = false →
      (∀ i, i < n → findEntry table (lsn + i) = none ∧ (lsn + i) / 32 = lsn / 32) ∧
      (n < left → n < most → findEntry table (lsn + n) ≠ none ∨ (lsn + n) / 32 ≠ lsn / 32))

/-- R140: the four checks on the fields of an entry alone, in their order. -/
def Obligations.FieldChecksDecideInOrder : Prop :=
  ∀ (s : State) (e : Entry),
    let t := e.block
    let kind := t.kind
    let goodKind := 1 ≤ kind ∧ kind ≤ 15
    let goodBay := kind = 14 ∨ kind = 15 ∨ (t.bay ≤ 1 ∧ (kind = 4 → t.secondBay ≤ 1))
    let goodRange :=
      ((kind = 1 ∨ kind = 2 ∨ kind = 3 ∨ kind = 4) →
        1 ≤ t.count ∧ t.count ≤ 128 ∧ t.address + t.count ≤ 40448) ∧
      (kind = 4 → t.parameter + t.count ≤ 40448) ∧
      (kind = 5 ∨ kind = 11 → t.address % 65536 ≤ 638 ∧ t.address / 65536 % 256 ≤ 1) ∧
      (kind = 11 → 1 ≤ t.address / 16777216 ∧ t.address / 16777216 ≤ 31) ∧
      (kind = 12 → t.address < 40448)
    let goodAddress :=
      ((kind = 1 ∨ kind = 2) → t.buffer % 2 = 0 ∧ t.buffer < 2 ^ 24 ∧
        t.buffer + 512 * t.count ≤ 16777216) ∧
      ((kind = 14 ∨ kind = 15) → t.buffer % 2 = 0 ∧ t.buffer < 2 ^ 24 ∧ t.buffer + 64 ≤ 16777216)
    (¬goodKind → s.checkResult e = some .badKind) ∧
    (goodKind → ¬goodBay → s.checkResult e = some .badBay) ∧
    (goodKind → goodBay → ¬goodRange → s.checkResult e = some .outOfRange) ∧
    (goodKind → goodBay → goodRange → ¬goodAddress → s.checkResult e = some .badAddress) ∧
    (goodKind → goodBay → goodRange → goodAddress →
      s.checkResult e ≠ some .badKind ∧ s.checkResult e ≠ some .badBay ∧
        s.checkResult e ≠ some .outOfRange ∧ s.checkResult e ≠ some .badAddress)

/-- R22, R141, R142: the checks after those of R140 on a task that names bays: the generations, the gate by
Bay State (of a Copy the source bay's and then the destination bay's), Write Protect, and of a Reassign with
the mount ended those of R113; a task that fails none of them passes. R138, R152: the
start of a task that a check fails or that is marked. R7, R10, R13, R22, R29, R148: what the gate does to the
bays of a task that passes; where a Copy asks both spindles at one moment, bay 0 is granted the permit
(R45). R138, R139: when the turn of a task has come; that an entry which a Part Reset has marked does not
wait for Present is the model's choice (log 30). -/
def Obligations.BayGateDecidesTheStart : Prop :=
  ∀ (s : State) (e : Entry) (k : TaskKind), e.kind = some k → k.partWide = false →
    baysInOrder k e.block = true → Machine.inRange k e.block = true →
    bufferInOrder k e.block = true →
    let c := s.bay e.bay
    let d := s.bay e.secondBay
    let t := s.start e
    let fresh := (e.block.expectedGeneration = 0 ∨ e.block.expectedGeneration = c.generation) ∧
      (k = .copy → e.block.secondGeneration = 0 ∨ e.block.secondGeneration = d.generation)
    let verdict (x : BayControl) : Option Result := match x.state with
      | .empty => some .noMedia
      | .seated => if s.settings.autoSpin then none else some .mediaNotReady
      | .locked => none
      | .fault => if k = .spinUp ∧ x.faultClass = .headsOffRamp then none else some .mediaNotReady
      | .releasing _ | .ejecting => some .mediaNotReady
    let turns := k.medium = true ∨ k = .spinUp
    let active := s.entries.map fun f => if f.id = e.id then { f with state := .active } else f
    let ended (r : Result) : State :=
      { s with entries := active.map fun f => if f.id = e.id then { f with ending := some r } else f }
    (¬fresh → s.checkResult e = some .mediaChanged) ∧
    (fresh → turns → ∀ r, verdict c = some r → s.checkResult e = some r) ∧
    (fresh → k = .copy → verdict c = none →
      (∀ r, verdict d = some r → s.checkResult e = some r) ∧
      (verdict d = none → s.checkResult e =
        if d.writeProtect.accepted then some .writeProtected else none)) ∧
    (fresh → verdict c = none → c.writeProtect.accepted = true →
      k = .write ∨ k = .formatTrack ∨ k = .reassign ∨ k = .resetRecord →
      s.checkResult e = some .writeProtected) ∧
    (fresh → turns → k ≠ .copy → verdict c = none →
      (c.writeProtect.accepted = true →
        k ≠ .write ∧ k ≠ .formatTrack ∧ k ≠ .reassign ∧ k ≠ .resetRecord) →
      s.checkResult e =
        let m := s.map e.bay
        if k ≠ .reassign ∨ m.status = .none ∨ m.status = .mounting then none
        else if m.status ≠ .valid then some .recordNotValid
        else if m.nextSpare = 384 ∨
            (48 ≤ m.table.length ∧ ∀ x ∈ m.table, x.lsn ≠ e.block.address) then some .tableFull
        else none) ∧
    (fresh → ¬turns →
      (c.state = .empty → s.checkResult e = some .noMedia) ∧
      (c.state = .fault ∨ c.state = .ejecting ∨ c.state = .releasing .seated ∨
        c.state = .releasing .ejecting → s.checkResult e = some .mediaNotReady) ∧
      (c.state = .seated → k = .spinDown ∨ (k = .lock ∧ e.block.releaseOption = true) →
        s.checkResult e = some .complete) ∧
      (c.state = .locked ∨ (c.state = .seated ∧ (k = .eject ∨ (k = .lock ∧
        e.block.releaseOption = false))) → s.checkResult e = none)) ∧
    (∀ r, s.checkResult e = some r → e.aborted = false → t = ended r) ∧
    (e.aborted = true → t = ended .aborted) ∧
    (s.checkResult e = none → e.aborted = false →
      t.entries.map (fun f => (f.id, f.state)) = active.map (fun f => (f.id, f.state)) ∧
      (turns → ∀ b, e.names b = true →
        ((s.bay b).state = .seated → (t.bay b).state = .locked ∧ (t.bay b).lock = true ∧
          (s.supply.accepted = false → (s.spindle b).phase = .stopped →
            (t.spindle b).phase = .starting ∨ (t.spindle b).phase = .pending)) ∧
        ((s.bay b).state ≠ .seated → t.bay b = s.bay b ∧
          (s.permitHolder ≠ none → t.spindle b = s.spindle b))) ∧
      (k = .copy → e.bay ≠ e.secondBay → s.permitHolder = none → s.supply.accepted = false →
        (∀ b, (s.bay b).state = .seated ∧ (s.spindle b).phase = .stopped) →
        (t.spindle .bay0).phase = .starting ∧ (t.spindle .bay1).phase = .pending) ∧
      (k = .spinDown → t.bays = s.bays ∧ t.spindles = s.spindles) ∧
      (k = .lock → e.block.releaseOption = false →
        (t.bay e.bay).state = .locked ∧ (t.bay e.bay).prevent = e.block.preventOption ∧
          (c.state = .seated → (t.bay e.bay).lock = true) ∧ t.spindles = s.spindles) ∧
      (k = .lock → e.block.releaseOption = true →
        (t.bay e.bay).state = .releasing .seated ∧ (t.bay e.bay).prevent = false ∧
          (t.map e.bay).status = .none) ∧
      (k = .eject → c.state = .seated → t.bay e.bay =
        { c with
          state := .ejecting, ejectRequested := false, ejectFailed := false, prevent := false
          eject := false, startBound := some 0, pulse := none, leave := none }) ∧
      (k = .eject → c.state = .locked →
        (t.bay e.bay).state = .releasing .ejecting ∧ (t.bay e.bay).prevent = false ∧
          (t.bay e.bay).ejectRequested = false ∧ (t.map e.bay).status = .none)) ∧
    (s.turnCome e = true ↔
      (∀ o ∈ s.olderThan e.id, o.state ≠ .finishing → e.partWide = false ∧ o.partWide = false ∧
        ∀ b, ¬(o.names b = true ∧ e.names b = true)) ∧
      ((s.resetInProgress = true ∧ e.aborted = true) ∨
        ∀ b, e.names b = true → (s.bay b).sensing = true ∧ (s.bay b).presentUndecided = false))

/-- Spec/00 section 4.4: a byte written to host memory is read back, and every other byte reads as before;
a burst's words lie low byte first at rising addresses, and the canonical form is kept. That an access past
address 16,777,215 goes on at address 0 is the model's choice (log 6). -/
def Obligations.HostMemoryReadsWhatWasWritten : Prop :=
  ∀ (m : Memory) (address : Nat) (words : List Word), m.wf = true → words.length ≤ 16 →
    (∀ i w, words[i]? = some w →
      Memory.read (m.writeBytes address (wordsBytes words)) ((address + 2 * i) % 2 ^ 24) =
        some (w.extractLsb' 0 8) ∧
      Memory.read (m.writeBytes address (wordsBytes words)) ((address + 2 * i + 1) % 2 ^ 24) =
        some (w.extractLsb' 8 8)) ∧
    (∀ a, (∀ i, i < 2 * words.length → a ≠ (address + i) % 2 ^ 24) →
      Memory.read (m.writeBytes address (wordsBytes words)) a = Memory.read m a) ∧
    (m.writeBytes address (wordsBytes words)).wf = true

end
end

