-- ==== Sys2Proof/Laws/State.lean ====
section
/-!
SUPPORT. What each named update of the state leaves in each field: one lemma for each field of each
update, so that no later proof unfolds a record update.
-/

namespace Sys2Proof

/-! ### One value for each bay -/

@[simp] theorem Bay.other_other (b : Bay) : b.other.other = b := by cases b <;> rfl

@[simp] theorem Bay.other_ne (b : Bay) : b.other ≠ b := by cases b <;> decide

theorem Bay.eq_or_other (b c : Bay) : c = b ∨ c = b.other := by cases b <;> cases c <;> decide

@[simp] theorem PerBay.get_update_same {α : Type} (p : PerBay α) (b : Bay) (f : α → α) :
    (p.update b f).get b = f (p.get b) := by cases b <;> rfl

@[simp] theorem PerBay.get_update_other {α : Type} (p : PerBay α) (b : Bay) (f : α → α) :
    (p.update b f).get b.other = p.get b.other := by cases b <;> rfl

theorem PerBay.get_update {α : Type} (p : PerBay α) (b c : Bay) (f : α → α) :
    (p.update b f).get c = if c = b then f (p.get c) else p.get c := by
  cases b <;> cases c <;> rfl

@[simp] theorem PerBay.get_both {α : Type} (x : α) (b : Bay) : (PerBay.both x).get b = x := by
  cases b <;> rfl

theorem PerBay.ext_get {α : Type} {p q : PerBay α} (h : ∀ b, p.get b = q.get b) : p = q := by
  cases p; cases q
  have h0 := h .bay0
  have h1 := h .bay1
  simp only [PerBay.get] at h0 h1
  rw [h0, h1]

namespace Machine

variable (s : State) (b c : Bay)

/-! ### Notable changes (R164) -/

/-- What a report does to the Link Port. -/
theorem State.report_link (changed : Bool) :
    (s.report b changed).link =
      if changed && s.link.state.reports then raiseRecord b s.link else s.link := by
  unfold State.report State.notable
  cases changed <;> cases s.link.state.reports <;> simp

@[simp] theorem State.report_pending (changed : Bool) :
    (s.report b changed).pending = s.pending := by
  unfold State.report State.notable; split <;> (try split) <;> rfl
@[simp] theorem State.report_cycle (changed : Bool) : (s.report b changed).cycle = s.cycle := by
  unfold State.report State.notable; split <;> (try split) <;> rfl
@[simp] theorem State.report_instant (changed : Bool) :
    (s.report b changed).instant = s.instant := by
  unfold State.report State.notable; split <;> (try split) <;> rfl
@[simp] theorem State.report_freeCount (changed : Bool) :
    (s.report b changed).freeCount = s.freeCount := by
  unfold State.report State.notable; split <;> (try split) <;> rfl
@[simp] theorem State.report_supply (changed : Bool) : (s.report b changed).supply = s.supply := by
  unfold State.report State.notable; split <;> (try split) <;> rfl
@[simp] theorem State.report_resetInProgress (changed : Bool) :
    (s.report b changed).resetInProgress = s.resetInProgress := by
  unfold State.report State.notable; split <;> (try split) <;> rfl
@[simp] theorem State.report_bays (changed : Bool) : (s.report b changed).bays = s.bays := by
  unfold State.report State.notable; split <;> (try split) <;> rfl
@[simp] theorem State.report_spindles (changed : Bool) :
    (s.report b changed).spindles = s.spindles := by
  unfold State.report State.notable; split <;> (try split) <;> rfl
@[simp] theorem State.report_permitHolder (changed : Bool) :
    (s.report b changed).permitHolder = s.permitHolder := by
  unfold State.report State.notable; split <;> (try split) <;> rfl
@[simp] theorem State.report_permitWaiting (changed : Bool) :
    (s.report b changed).permitWaiting = s.permitWaiting := by
  unfold State.report State.notable; split <;> (try split) <;> rfl
@[simp] theorem State.report_positioners (changed : Bool) :
    (s.report b changed).positioners = s.positioners := by
  unfold State.report State.notable; split <;> (try split) <;> rfl
@[simp] theorem State.report_maps (changed : Bool) : (s.report b changed).maps = s.maps := by
  unfold State.report State.notable; split <;> (try split) <;> rfl
@[simp] theorem State.report_channel (changed : Bool) :
    (s.report b changed).channel = s.channel := by
  unfold State.report State.notable; split <;> (try split) <;> rfl
@[simp] theorem State.report_slots (changed : Bool) : (s.report b changed).slots = s.slots := by
  unfold State.report State.notable; split <;> (try split) <;> rfl
@[simp] theorem State.report_waiters (changed : Bool) :
    (s.report b changed).waiters = s.waiters := by
  unfold State.report State.notable; split <;> (try split) <;> rfl
@[simp] theorem State.report_burst (changed : Bool) : (s.report b changed).burst = s.burst := by
  unfold State.report State.notable; split <;> (try split) <;> rfl
@[simp] theorem State.report_dmaRequest (changed : Bool) :
    (s.report b changed).dmaRequest = s.dmaRequest := by
  unfold State.report State.notable; split <;> (try split) <;> rfl
@[simp] theorem State.report_entries (changed : Bool) :
    (s.report b changed).entries = s.entries := by
  unfold State.report State.notable; split <;> (try split) <;> rfl
@[simp] theorem State.report_finishing (changed : Bool) :
    (s.report b changed).finishing = s.finishing := by
  unfold State.report State.notable; split <;> (try split) <;> rfl
@[simp] theorem State.report_nextId (changed : Bool) : (s.report b changed).nextId = s.nextId := by
  unfold State.report State.notable; split <;> (try split) <;> rfl
@[simp] theorem State.report_ports (changed : Bool) : (s.report b changed).ports = s.ports := by
  unfold State.report State.notable; split <;> (try split) <;> rfl
@[simp] theorem State.report_counts (changed : Bool) : (s.report b changed).counts = s.counts := by
  unfold State.report State.notable; split <;> (try split) <;> rfl
@[simp] theorem State.report_hostFields (changed : Bool) :
    (s.report b changed).hostFields = s.hostFields := by
  unfold State.report State.notable; split <;> (try split) <;> rfl
@[simp] theorem State.report_settings (changed : Bool) :
    (s.report b changed).settings = s.settings := by
  unfold State.report State.notable; split <;> (try split) <;> rfl
@[simp] theorem State.report_pins (changed : Bool) : (s.report b changed).pins = s.pins := by
  unfold State.report State.notable; split <;> (try split) <;> rfl
@[simp] theorem State.report_hostMem (changed : Bool) :
    (s.report b changed).hostMem = s.hostMem := by
  unfold State.report State.notable; split <;> (try split) <;> rfl
@[simp] theorem State.report_mediumOut (changed : Bool) :
    (s.report b changed).mediumOut = s.mediumOut := by
  unfold State.report State.notable; split <;> (try split) <;> rfl

/-! ### modBay -/

@[simp] theorem State.modBay_bays (f : BayControl → BayControl) :
    (s.modBay b f).bays = s.bays.update b f := by
  simp [State.modBay]

@[simp] theorem State.modBay_pending (f : BayControl → BayControl) :
    (s.modBay b f).pending = s.pending := by simp [State.modBay]
@[simp] theorem State.modBay_cycle (f : BayControl → BayControl) :
    (s.modBay b f).cycle = s.cycle := by simp [State.modBay]
@[simp] theorem State.modBay_instant (f : BayControl → BayControl) :
    (s.modBay b f).instant = s.instant := by simp [State.modBay]
@[simp] theorem State.modBay_freeCount (f : BayControl → BayControl) :
    (s.modBay b f).freeCount = s.freeCount := by simp [State.modBay]
@[simp] theorem State.modBay_supply (f : BayControl → BayControl) :
    (s.modBay b f).supply = s.supply := by simp [State.modBay]
@[simp] theorem State.modBay_resetInProgress (f : BayControl → BayControl) :
    (s.modBay b f).resetInProgress = s.resetInProgress := by simp [State.modBay]
@[simp] theorem State.modBay_spindles (f : BayControl → BayControl) :
    (s.modBay b f).spindles = s.spindles := by simp [State.modBay]
@[simp] theorem State.modBay_permitHolder (f : BayControl → BayControl) :
    (s.modBay b f).permitHolder = s.permitHolder := by simp [State.modBay]
@[simp] theorem State.modBay_permitWaiting (f : BayControl → BayControl) :
    (s.modBay b f).permitWaiting = s.permitWaiting := by simp [State.modBay]
@[simp] theorem State.modBay_positioners (f : BayControl → BayControl) :
    (s.modBay b f).positioners = s.positioners := by simp [State.modBay]
@[simp] theorem State.modBay_maps (f : BayControl → BayControl) :
    (s.modBay b f).maps = s.maps := by simp [State.modBay]
@[simp] theorem State.modBay_channel (f : BayControl → BayControl) :
    (s.modBay b f).channel = s.channel := by simp [State.modBay]
@[simp] theorem State.modBay_slots (f : BayControl → BayControl) :
    (s.modBay b f).slots = s.slots := by simp [State.modBay]
@[simp] theorem State.modBay_waiters (f : BayControl → BayControl) :
    (s.modBay b f).waiters = s.waiters := by simp [State.modBay]
@[simp] theorem State.modBay_burst (f : BayControl → BayControl) :
    (s.modBay b f).burst = s.burst := by simp [State.modBay]
@[simp] theorem State.modBay_dmaRequest (f : BayControl → BayControl) :
    (s.modBay b f).dmaRequest = s.dmaRequest := by simp [State.modBay]
@[simp] theorem State.modBay_entries (f : BayControl → BayControl) :
    (s.modBay b f).entries = s.entries := by simp [State.modBay]
@[simp] theorem State.modBay_finishing (f : BayControl → BayControl) :
    (s.modBay b f).finishing = s.finishing := by simp [State.modBay]
@[simp] theorem State.modBay_nextId (f : BayControl → BayControl) :
    (s.modBay b f).nextId = s.nextId := by simp [State.modBay]
@[simp] theorem State.modBay_ports (f : BayControl → BayControl) :
    (s.modBay b f).ports = s.ports := by simp [State.modBay]
@[simp] theorem State.modBay_counts (f : BayControl → BayControl) :
    (s.modBay b f).counts = s.counts := by simp [State.modBay]
@[simp] theorem State.modBay_hostFields (f : BayControl → BayControl) :
    (s.modBay b f).hostFields = s.hostFields := by simp [State.modBay]
@[simp] theorem State.modBay_settings (f : BayControl → BayControl) :
    (s.modBay b f).settings = s.settings := by simp [State.modBay]
@[simp] theorem State.modBay_pins (f : BayControl → BayControl) :
    (s.modBay b f).pins = s.pins := by simp [State.modBay]
@[simp] theorem State.modBay_hostMem (f : BayControl → BayControl) :
    (s.modBay b f).hostMem = s.hostMem := by simp [State.modBay]
@[simp] theorem State.modBay_mediumOut (f : BayControl → BayControl) :
    (s.modBay b f).mediumOut = s.mediumOut := by simp [State.modBay]

@[simp] theorem State.bay_modBay (f : BayControl → BayControl) :
    (s.modBay b f).bay c = if c = b then f (s.bay c) else s.bay c := by
  simp [State.bay, PerBay.get_update]

@[simp] theorem State.spindle_modBay (f : BayControl → BayControl) :
    (s.modBay b f).spindle c = s.spindle c := by
  simp [State.spindle]
@[simp] theorem State.positioner_modBay (f : BayControl → BayControl) :
    (s.modBay b f).positioner c = s.positioner c := by
  simp [State.positioner]
@[simp] theorem State.map_modBay (f : BayControl → BayControl) :
    (s.modBay b f).map c = s.map c := by
  simp [State.map]

/-! ### modSpindle -/

@[simp] theorem State.modSpindle_spindles (f : Spindle → Spindle) :
    (s.modSpindle b f).spindles = s.spindles.update b f := by
  simp [State.modSpindle]

@[simp] theorem State.modSpindle_pending (f : Spindle → Spindle) :
    (s.modSpindle b f).pending = s.pending := by simp [State.modSpindle]
@[simp] theorem State.modSpindle_cycle (f : Spindle → Spindle) :
    (s.modSpindle b f).cycle = s.cycle := by simp [State.modSpindle]
@[simp] theorem State.modSpindle_instant (f : Spindle → Spindle) :
    (s.modSpindle b f).instant = s.instant := by simp [State.modSpindle]
@[simp] theorem State.modSpindle_freeCount (f : Spindle → Spindle) :
    (s.modSpindle b f).freeCount = s.freeCount := by simp [State.modSpindle]
@[simp] theorem State.modSpindle_supply (f : Spindle → Spindle) :
    (s.modSpindle b f).supply = s.supply := by simp [State.modSpindle]
@[simp] theorem State.modSpindle_resetInProgress (f : Spindle → Spindle) :
    (s.modSpindle b f).resetInProgress = s.resetInProgress := by simp [State.modSpindle]
@[simp] theorem State.modSpindle_bays (f : Spindle → Spindle) :
    (s.modSpindle b f).bays = s.bays := by simp [State.modSpindle]
@[simp] theorem State.modSpindle_permitHolder (f : Spindle → Spindle) :
    (s.modSpindle b f).permitHolder = s.permitHolder := by simp [State.modSpindle]
@[simp] theorem State.modSpindle_permitWaiting (f : Spindle → Spindle) :
    (s.modSpindle b f).permitWaiting = s.permitWaiting := by simp [State.modSpindle]
@[simp] theorem State.modSpindle_positioners (f : Spindle → Spindle) :
    (s.modSpindle b f).positioners = s.positioners := by simp [State.modSpindle]
@[simp] theorem State.modSpindle_maps (f : Spindle → Spindle) :
    (s.modSpindle b f).maps = s.maps := by simp [State.modSpindle]
@[simp] theorem State.modSpindle_channel (f : Spindle → Spindle) :
    (s.modSpindle b f).channel = s.channel := by simp [State.modSpindle]
@[simp] theorem State.modSpindle_slots (f : Spindle → Spindle) :
    (s.modSpindle b f).slots = s.slots := by simp [State.modSpindle]
@[simp] theorem State.modSpindle_waiters (f : Spindle → Spindle) :
    (s.modSpindle b f).waiters = s.waiters := by simp [State.modSpindle]
@[simp] theorem State.modSpindle_burst (f : Spindle → Spindle) :
    (s.modSpindle b f).burst = s.burst := by simp [State.modSpindle]
@[simp] theorem State.modSpindle_dmaRequest (f : Spindle → Spindle) :
    (s.modSpindle b f).dmaRequest = s.dmaRequest := by simp [State.modSpindle]
@[simp] theorem State.modSpindle_entries (f : Spindle → Spindle) :
    (s.modSpindle b f).entries = s.entries := by simp [State.modSpindle]
@[simp] theorem State.modSpindle_finishing (f : Spindle → Spindle) :
    (s.modSpindle b f).finishing = s.finishing := by simp [State.modSpindle]
@[simp] theorem State.modSpindle_nextId (f : Spindle → Spindle) :
    (s.modSpindle b f).nextId = s.nextId := by simp [State.modSpindle]
@[simp] theorem State.modSpindle_ports (f : Spindle → Spindle) :
    (s.modSpindle b f).ports = s.ports := by simp [State.modSpindle]
@[simp] theorem State.modSpindle_counts (f : Spindle → Spindle) :
    (s.modSpindle b f).counts = s.counts := by simp [State.modSpindle]
@[simp] theorem State.modSpindle_hostFields (f : Spindle → Spindle) :
    (s.modSpindle b f).hostFields = s.hostFields := by simp [State.modSpindle]
@[simp] theorem State.modSpindle_settings (f : Spindle → Spindle) :
    (s.modSpindle b f).settings = s.settings := by simp [State.modSpindle]
@[simp] theorem State.modSpindle_pins (f : Spindle → Spindle) :
    (s.modSpindle b f).pins = s.pins := by simp [State.modSpindle]
@[simp] theorem State.modSpindle_hostMem (f : Spindle → Spindle) :
    (s.modSpindle b f).hostMem = s.hostMem := by simp [State.modSpindle]
@[simp] theorem State.modSpindle_mediumOut (f : Spindle → Spindle) :
    (s.modSpindle b f).mediumOut = s.mediumOut := by simp [State.modSpindle]

@[simp] theorem State.spindle_modSpindle (f : Spindle → Spindle) :
    (s.modSpindle b f).spindle c = if c = b then f (s.spindle c) else s.spindle c := by
  simp [State.spindle, PerBay.get_update]

@[simp] theorem State.bay_modSpindle (f : Spindle → Spindle) :
    (s.modSpindle b f).bay c = s.bay c := by
  simp [State.bay]
@[simp] theorem State.positioner_modSpindle (f : Spindle → Spindle) :
    (s.modSpindle b f).positioner c = s.positioner c := by
  simp [State.positioner]
@[simp] theorem State.map_modSpindle (f : Spindle → Spindle) :
    (s.modSpindle b f).map c = s.map c := by
  simp [State.map]

/-! ### modPositioner -/

@[simp] theorem State.modPositioner_positioners (f : Positioner → Positioner) :
    (s.modPositioner b f).positioners = s.positioners.update b f := by
  simp [State.modPositioner]

@[simp] theorem State.modPositioner_pending (f : Positioner → Positioner) :
    (s.modPositioner b f).pending = s.pending := by simp [State.modPositioner]
@[simp] theorem State.modPositioner_cycle (f : Positioner → Positioner) :
    (s.modPositioner b f).cycle = s.cycle := by simp [State.modPositioner]
@[simp] theorem State.modPositioner_instant (f : Positioner → Positioner) :
    (s.modPositioner b f).instant = s.instant := by simp [State.modPositioner]
@[simp] theorem State.modPositioner_freeCount (f : Positioner → Positioner) :
    (s.modPositioner b f).freeCount = s.freeCount := by simp [State.modPositioner]
@[simp] theorem State.modPositioner_supply (f : Positioner → Positioner) :
    (s.modPositioner b f).supply = s.supply := by simp [State.modPositioner]
@[simp] theorem State.modPositioner_resetInProgress (f : Positioner → Positioner) :
    (s.modPositioner b f).resetInProgress = s.resetInProgress := by simp [State.modPositioner]
@[simp] theorem State.modPositioner_bays (f : Positioner → Positioner) :
    (s.modPositioner b f).bays = s.bays := by simp [State.modPositioner]
@[simp] theorem State.modPositioner_spindles (f : Positioner → Positioner) :
    (s.modPositioner b f).spindles = s.spindles := by simp [State.modPositioner]
@[simp] theorem State.modPositioner_permitHolder (f : Positioner → Positioner) :
    (s.modPositioner b f).permitHolder = s.permitHolder := by simp [State.modPositioner]
@[simp] theorem State.modPositioner_permitWaiting (f : Positioner → Positioner) :
    (s.modPositioner b f).permitWaiting = s.permitWaiting := by simp [State.modPositioner]
@[simp] theorem State.modPositioner_maps (f : Positioner → Positioner) :
    (s.modPositioner b f).maps = s.maps := by simp [State.modPositioner]
@[simp] theorem State.modPositioner_channel (f : Positioner → Positioner) :
    (s.modPositioner b f).channel = s.channel := by simp [State.modPositioner]
@[simp] theorem State.modPositioner_slots (f : Positioner → Positioner) :
    (s.modPositioner b f).slots = s.slots := by simp [State.modPositioner]
@[simp] theorem State.modPositioner_waiters (f : Positioner → Positioner) :
    (s.modPositioner b f).waiters = s.waiters := by simp [State.modPositioner]
@[simp] theorem State.modPositioner_burst (f : Positioner → Positioner) :
    (s.modPositioner b f).burst = s.burst := by simp [State.modPositioner]
@[simp] theorem State.modPositioner_dmaRequest (f : Positioner → Positioner) :
    (s.modPositioner b f).dmaRequest = s.dmaRequest := by simp [State.modPositioner]
@[simp] theorem State.modPositioner_entries (f : Positioner → Positioner) :
    (s.modPositioner b f).entries = s.entries := by simp [State.modPositioner]
@[simp] theorem State.modPositioner_finishing (f : Positioner → Positioner) :
    (s.modPositioner b f).finishing = s.finishing := by simp [State.modPositioner]
@[simp] theorem State.modPositioner_nextId (f : Positioner → Positioner) :
    (s.modPositioner b f).nextId = s.nextId := by simp [State.modPositioner]
@[simp] theorem State.modPositioner_ports (f : Positioner → Positioner) :
    (s.modPositioner b f).ports = s.ports := by simp [State.modPositioner]
@[simp] theorem State.modPositioner_counts (f : Positioner → Positioner) :
    (s.modPositioner b f).counts = s.counts := by simp [State.modPositioner]
@[simp] theorem State.modPositioner_hostFields (f : Positioner → Positioner) :
    (s.modPositioner b f).hostFields = s.hostFields := by simp [State.modPositioner]
@[simp] theorem State.modPositioner_settings (f : Positioner → Positioner) :
    (s.modPositioner b f).settings = s.settings := by simp [State.modPositioner]
@[simp] theorem State.modPositioner_pins (f : Positioner → Positioner) :
    (s.modPositioner b f).pins = s.pins := by simp [State.modPositioner]
@[simp] theorem State.modPositioner_hostMem (f : Positioner → Positioner) :
    (s.modPositioner b f).hostMem = s.hostMem := by simp [State.modPositioner]
@[simp] theorem State.modPositioner_mediumOut (f : Positioner → Positioner) :
    (s.modPositioner b f).mediumOut = s.mediumOut := by simp [State.modPositioner]

@[simp] theorem State.positioner_modPositioner (f : Positioner → Positioner) :
    (s.modPositioner b f).positioner c = if c = b then f (s.positioner c) else s.positioner c := by
  simp [State.positioner, PerBay.get_update]

@[simp] theorem State.bay_modPositioner (f : Positioner → Positioner) :
    (s.modPositioner b f).bay c = s.bay c := by
  simp [State.bay]
@[simp] theorem State.spindle_modPositioner (f : Positioner → Positioner) :
    (s.modPositioner b f).spindle c = s.spindle c := by
  simp [State.spindle]
@[simp] theorem State.map_modPositioner (f : Positioner → Positioner) :
    (s.modPositioner b f).map c = s.map c := by
  simp [State.map]

/-! ### modMap -/

@[simp] theorem State.modMap_maps (f : DefectMap → DefectMap) :
    (s.modMap b f).maps = s.maps.update b f := by
  simp [State.modMap]

@[simp] theorem State.modMap_pending (f : DefectMap → DefectMap) :
    (s.modMap b f).pending = s.pending := by simp [State.modMap]
@[simp] theorem State.modMap_cycle (f : DefectMap → DefectMap) :
    (s.modMap b f).cycle = s.cycle := by simp [State.modMap]
@[simp] theorem State.modMap_instant (f : DefectMap → DefectMap) :
    (s.modMap b f).instant = s.instant := by simp [State.modMap]
@[simp] theorem State.modMap_freeCount (f : DefectMap → DefectMap) :
    (s.modMap b f).freeCount = s.freeCount := by simp [State.modMap]
@[simp] theorem State.modMap_supply (f : DefectMap → DefectMap) :
    (s.modMap b f).supply = s.supply := by simp [State.modMap]
@[simp] theorem State.modMap_resetInProgress (f : DefectMap → DefectMap) :
    (s.modMap b f).resetInProgress = s.resetInProgress := by simp [State.modMap]
@[simp] theorem State.modMap_bays (f : DefectMap → DefectMap) :
    (s.modMap b f).bays = s.bays := by simp [State.modMap]
@[simp] theorem State.modMap_spindles (f : DefectMap → DefectMap) :
    (s.modMap b f).spindles = s.spindles := by simp [State.modMap]
@[simp] theorem State.modMap_permitHolder (f : DefectMap → DefectMap) :
    (s.modMap b f).permitHolder = s.permitHolder := by simp [State.modMap]
@[simp] theorem State.modMap_permitWaiting (f : DefectMap → DefectMap) :
    (s.modMap b f).permitWaiting = s.permitWaiting := by simp [State.modMap]
@[simp] theorem State.modMap_positioners (f : DefectMap → DefectMap) :
    (s.modMap b f).positioners = s.positioners := by simp [State.modMap]
@[simp] theorem State.modMap_channel (f : DefectMap → DefectMap) :
    (s.modMap b f).channel = s.channel := by simp [State.modMap]
@[simp] theorem State.modMap_slots (f : DefectMap → DefectMap) :
    (s.modMap b f).slots = s.slots := by simp [State.modMap]
@[simp] theorem State.modMap_waiters (f : DefectMap → DefectMap) :
    (s.modMap b f).waiters = s.waiters := by simp [State.modMap]
@[simp] theorem State.modMap_burst (f : DefectMap → DefectMap) :
    (s.modMap b f).burst = s.burst := by simp [State.modMap]
@[simp] theorem State.modMap_dmaRequest (f : DefectMap → DefectMap) :
    (s.modMap b f).dmaRequest = s.dmaRequest := by simp [State.modMap]
@[simp] theorem State.modMap_entries (f : DefectMap → DefectMap) :
    (s.modMap b f).entries = s.entries := by simp [State.modMap]
@[simp] theorem State.modMap_finishing (f : DefectMap → DefectMap) :
    (s.modMap b f).finishing = s.finishing := by simp [State.modMap]
@[simp] theorem State.modMap_nextId (f : DefectMap → DefectMap) :
    (s.modMap b f).nextId = s.nextId := by simp [State.modMap]
@[simp] theorem State.modMap_ports (f : DefectMap → DefectMap) :
    (s.modMap b f).ports = s.ports := by simp [State.modMap]
@[simp] theorem State.modMap_counts (f : DefectMap → DefectMap) :
    (s.modMap b f).counts = s.counts := by simp [State.modMap]
@[simp] theorem State.modMap_hostFields (f : DefectMap → DefectMap) :
    (s.modMap b f).hostFields = s.hostFields := by simp [State.modMap]
@[simp] theorem State.modMap_settings (f : DefectMap → DefectMap) :
    (s.modMap b f).settings = s.settings := by simp [State.modMap]
@[simp] theorem State.modMap_pins (f : DefectMap → DefectMap) :
    (s.modMap b f).pins = s.pins := by simp [State.modMap]
@[simp] theorem State.modMap_hostMem (f : DefectMap → DefectMap) :
    (s.modMap b f).hostMem = s.hostMem := by simp [State.modMap]
@[simp] theorem State.modMap_mediumOut (f : DefectMap → DefectMap) :
    (s.modMap b f).mediumOut = s.mediumOut := by simp [State.modMap]

@[simp] theorem State.map_modMap (f : DefectMap → DefectMap) :
    (s.modMap b f).map c = if c = b then f (s.map c) else s.map c := by
  simp [State.map, PerBay.get_update]

@[simp] theorem State.bay_modMap (f : DefectMap → DefectMap) : (s.modMap b f).bay c = s.bay c := by
  simp [State.bay]
@[simp] theorem State.spindle_modMap (f : DefectMap → DefectMap) :
    (s.modMap b f).spindle c = s.spindle c := by
  simp [State.spindle]
@[simp] theorem State.positioner_modMap (f : DefectMap → DefectMap) :
    (s.modMap b f).positioner c = s.positioner c := by
  simp [State.positioner]

/-! ### What a change reports (R25, R53, R84, R118) -/

/-- R25. -/
theorem State.modBay_link (f : BayControl → BayControl) :
    (s.modBay b f).link =
      if bayReported (f (s.bay b)) ≠ bayReported (s.bay b) ∧ s.link.state.reports = true then
        raiseRecord b s.link
      else s.link := by
  simp [State.modBay, State.report_link]

/-- R53. -/
theorem State.modSpindle_link (f : Spindle → Spindle) :
    (s.modSpindle b f).link =
      if (f (s.spindle b)).phase ≠ (s.spindle b).phase ∧ s.link.state.reports = true then
        raiseRecord b s.link
      else s.link := by
  simp [State.modSpindle, State.report_link]

/-- R84. -/
theorem State.modPositioner_link (f : Positioner → Positioner) :
    (s.modPositioner b f).link =
      if actuatorNotable (s.positioner b).state (f (s.positioner b)).state = true ∧
          s.link.state.reports = true then
        raiseRecord b s.link
      else s.link := by
  simp [State.modPositioner, State.report_link]

/-- R118. -/
theorem State.modMap_link (f : DefectMap → DefectMap) :
    (s.modMap b f).link =
      if ((f (s.map b)).status ≠ (s.map b).status ∨ (f (s.map b)).marginal ≠ (s.map b).marginal) ∧
          s.link.state.reports = true then
        raiseRecord b s.link
      else s.link := by
  simp [State.modMap, State.report_link]

@[simp] theorem raiseRecord_state (l : Link) : (raiseRecord b l).state = l.state := rfl

@[simp] theorem State.report_linkState (f : Bool) : (s.report b f).link.state = s.link.state := by
  rw [State.report_link]; split <;> rfl
@[simp] theorem State.modBay_linkState (f : BayControl → BayControl) :
    (s.modBay b f).link.state = s.link.state := by
  rw [State.modBay_link]; split <;> rfl
@[simp] theorem State.modSpindle_linkState (f : Spindle → Spindle) :
    (s.modSpindle b f).link.state = s.link.state := by
  rw [State.modSpindle_link]; split <;> rfl
@[simp] theorem State.modPositioner_linkState (f : Positioner → Positioner) :
    (s.modPositioner b f).link.state = s.link.state := by
  rw [State.modPositioner_link]; split <;> rfl
@[simp] theorem State.modMap_linkState (f : DefectMap → DefectMap) :
    (s.modMap b f).link.state = s.link.state := by
  rw [State.modMap_link]; split <;> rfl

/-! ### The updates of one field -/

@[simp] theorem State.modChannel_channel (f : Channel → Channel) :
    (s.modChannel f).channel = f s.channel := rfl
@[simp] theorem State.modChannel_pending (f : Channel → Channel) :
    (s.modChannel f).pending = s.pending := rfl
@[simp] theorem State.modChannel_cycle (f : Channel → Channel) :
    (s.modChannel f).cycle = s.cycle := rfl
@[simp] theorem State.modChannel_instant (f : Channel → Channel) :
    (s.modChannel f).instant = s.instant := rfl
@[simp] theorem State.modChannel_freeCount (f : Channel → Channel) :
    (s.modChannel f).freeCount = s.freeCount := rfl
@[simp] theorem State.modChannel_supply (f : Channel → Channel) :
    (s.modChannel f).supply = s.supply := rfl
@[simp] theorem State.modChannel_resetInProgress (f : Channel → Channel) :
    (s.modChannel f).resetInProgress = s.resetInProgress := rfl
@[simp] theorem State.modChannel_bays (f : Channel → Channel) :
    (s.modChannel f).bays = s.bays := rfl
@[simp] theorem State.modChannel_spindles (f : Channel → Channel) :
    (s.modChannel f).spindles = s.spindles := rfl
@[simp] theorem State.modChannel_permitHolder (f : Channel → Channel) :
    (s.modChannel f).permitHolder = s.permitHolder := rfl
@[simp] theorem State.modChannel_permitWaiting (f : Channel → Channel) :
    (s.modChannel f).permitWaiting = s.permitWaiting := rfl
@[simp] theorem State.modChannel_positioners (f : Channel → Channel) :
    (s.modChannel f).positioners = s.positioners := rfl
@[simp] theorem State.modChannel_maps (f : Channel → Channel) :
    (s.modChannel f).maps = s.maps := rfl
@[simp] theorem State.modChannel_slots (f : Channel → Channel) :
    (s.modChannel f).slots = s.slots := rfl
@[simp] theorem State.modChannel_waiters (f : Channel → Channel) :
    (s.modChannel f).waiters = s.waiters := rfl
@[simp] theorem State.modChannel_burst (f : Channel → Channel) :
    (s.modChannel f).burst = s.burst := rfl
@[simp] theorem State.modChannel_dmaRequest (f : Channel → Channel) :
    (s.modChannel f).dmaRequest = s.dmaRequest := rfl
@[simp] theorem State.modChannel_entries (f : Channel → Channel) :
    (s.modChannel f).entries = s.entries := rfl
@[simp] theorem State.modChannel_finishing (f : Channel → Channel) :
    (s.modChannel f).finishing = s.finishing := rfl
@[simp] theorem State.modChannel_nextId (f : Channel → Channel) :
    (s.modChannel f).nextId = s.nextId := rfl
@[simp] theorem State.modChannel_ports (f : Channel → Channel) :
    (s.modChannel f).ports = s.ports := rfl
@[simp] theorem State.modChannel_counts (f : Channel → Channel) :
    (s.modChannel f).counts = s.counts := rfl
@[simp] theorem State.modChannel_hostFields (f : Channel → Channel) :
    (s.modChannel f).hostFields = s.hostFields := rfl
@[simp] theorem State.modChannel_link (f : Channel → Channel) :
    (s.modChannel f).link = s.link := rfl
@[simp] theorem State.modChannel_settings (f : Channel → Channel) :
    (s.modChannel f).settings = s.settings := rfl
@[simp] theorem State.modChannel_pins (f : Channel → Channel) :
    (s.modChannel f).pins = s.pins := rfl
@[simp] theorem State.modChannel_hostMem (f : Channel → Channel) :
    (s.modChannel f).hostMem = s.hostMem := rfl
@[simp] theorem State.modChannel_mediumOut (f : Channel → Channel) :
    (s.modChannel f).mediumOut = s.mediumOut := rfl
@[simp] theorem State.bay_modChannel (f : Channel → Channel) :
    (s.modChannel f).bay c = s.bay c := rfl
@[simp] theorem State.spindle_modChannel (f : Channel → Channel) :
    (s.modChannel f).spindle c = s.spindle c := rfl
@[simp] theorem State.positioner_modChannel (f : Channel → Channel) :
    (s.modChannel f).positioner c = s.positioner c := rfl
@[simp] theorem State.map_modChannel (f : Channel → Channel) :
    (s.modChannel f).map c = s.map c := rfl

@[simp] theorem State.modLink_link (f : Link → Link) :
    (s.modLink f).link = f s.link := rfl
@[simp] theorem State.modLink_pending (f : Link → Link) : (s.modLink f).pending = s.pending := rfl
@[simp] theorem State.modLink_cycle (f : Link → Link) : (s.modLink f).cycle = s.cycle := rfl
@[simp] theorem State.modLink_instant (f : Link → Link) : (s.modLink f).instant = s.instant := rfl
@[simp] theorem State.modLink_freeCount (f : Link → Link) :
    (s.modLink f).freeCount = s.freeCount := rfl
@[simp] theorem State.modLink_supply (f : Link → Link) : (s.modLink f).supply = s.supply := rfl
@[simp] theorem State.modLink_resetInProgress (f : Link → Link) :
    (s.modLink f).resetInProgress = s.resetInProgress := rfl
@[simp] theorem State.modLink_bays (f : Link → Link) : (s.modLink f).bays = s.bays := rfl
@[simp] theorem State.modLink_spindles (f : Link → Link) :
    (s.modLink f).spindles = s.spindles := rfl
@[simp] theorem State.modLink_permitHolder (f : Link → Link) :
    (s.modLink f).permitHolder = s.permitHolder := rfl
@[simp] theorem State.modLink_permitWaiting (f : Link → Link) :
    (s.modLink f).permitWaiting = s.permitWaiting := rfl
@[simp] theorem State.modLink_positioners (f : Link → Link) :
    (s.modLink f).positioners = s.positioners := rfl
@[simp] theorem State.modLink_maps (f : Link → Link) : (s.modLink f).maps = s.maps := rfl
@[simp] theorem State.modLink_channel (f : Link → Link) : (s.modLink f).channel = s.channel := rfl
@[simp] theorem State.modLink_slots (f : Link → Link) : (s.modLink f).slots = s.slots := rfl
@[simp] theorem State.modLink_waiters (f : Link → Link) : (s.modLink f).waiters = s.waiters := rfl
@[simp] theorem State.modLink_burst (f : Link → Link) : (s.modLink f).burst = s.burst := rfl
@[simp] theorem State.modLink_dmaRequest (f : Link → Link) :
    (s.modLink f).dmaRequest = s.dmaRequest := rfl
@[simp] theorem State.modLink_entries (f : Link → Link) : (s.modLink f).entries = s.entries := rfl
@[simp] theorem State.modLink_finishing (f : Link → Link) :
    (s.modLink f).finishing = s.finishing := rfl
@[simp] theorem State.modLink_nextId (f : Link → Link) : (s.modLink f).nextId = s.nextId := rfl
@[simp] theorem State.modLink_ports (f : Link → Link) : (s.modLink f).ports = s.ports := rfl
@[simp] theorem State.modLink_counts (f : Link → Link) : (s.modLink f).counts = s.counts := rfl
@[simp] theorem State.modLink_hostFields (f : Link → Link) :
    (s.modLink f).hostFields = s.hostFields := rfl
@[simp] theorem State.modLink_settings (f : Link → Link) :
    (s.modLink f).settings = s.settings := rfl
@[simp] theorem State.modLink_pins (f : Link → Link) : (s.modLink f).pins = s.pins := rfl
@[simp] theorem State.modLink_hostMem (f : Link → Link) : (s.modLink f).hostMem = s.hostMem := rfl
@[simp] theorem State.modLink_mediumOut (f : Link → Link) :
    (s.modLink f).mediumOut = s.mediumOut := rfl
@[simp] theorem State.bay_modLink (f : Link → Link) : (s.modLink f).bay c = s.bay c := rfl
@[simp] theorem State.spindle_modLink (f : Link → Link) :
    (s.modLink f).spindle c = s.spindle c := rfl
@[simp] theorem State.positioner_modLink (f : Link → Link) :
    (s.modLink f).positioner c = s.positioner c := rfl
@[simp] theorem State.map_modLink (f : Link → Link) : (s.modLink f).map c = s.map c := rfl

@[simp] theorem State.modSlot_slots (i : Nat) (f : Slot → Slot) :
    (s.modSlot i f).slots = s.slots.modify i f := rfl
@[simp] theorem State.modSlot_pending (i : Nat) (f : Slot → Slot) :
    (s.modSlot i f).pending = s.pending := rfl
@[simp] theorem State.modSlot_cycle (i : Nat) (f : Slot → Slot) :
    (s.modSlot i f).cycle = s.cycle := rfl
@[simp] theorem State.modSlot_instant (i : Nat) (f : Slot → Slot) :
    (s.modSlot i f).instant = s.instant := rfl
@[simp] theorem State.modSlot_freeCount (i : Nat) (f : Slot → Slot) :
    (s.modSlot i f).freeCount = s.freeCount := rfl
@[simp] theorem State.modSlot_supply (i : Nat) (f : Slot → Slot) :
    (s.modSlot i f).supply = s.supply := rfl
@[simp] theorem State.modSlot_resetInProgress (i : Nat) (f : Slot → Slot) :
    (s.modSlot i f).resetInProgress = s.resetInProgress := rfl
@[simp] theorem State.modSlot_bays (i : Nat) (f : Slot → Slot) :
    (s.modSlot i f).bays = s.bays := rfl
@[simp] theorem State.modSlot_spindles (i : Nat) (f : Slot → Slot) :
    (s.modSlot i f).spindles = s.spindles := rfl
@[simp] theorem State.modSlot_permitHolder (i : Nat) (f : Slot → Slot) :
    (s.modSlot i f).permitHolder = s.permitHolder := rfl
@[simp] theorem State.modSlot_permitWaiting (i : Nat) (f : Slot → Slot) :
    (s.modSlot i f).permitWaiting = s.permitWaiting := rfl
@[simp] theorem State.modSlot_positioners (i : Nat) (f : Slot → Slot) :
    (s.modSlot i f).positioners = s.positioners := rfl
@[simp] theorem State.modSlot_maps (i : Nat) (f : Slot → Slot) :
    (s.modSlot i f).maps = s.maps := rfl
@[simp] theorem State.modSlot_channel (i : Nat) (f : Slot → Slot) :
    (s.modSlot i f).channel = s.channel := rfl
@[simp] theorem State.modSlot_waiters (i : Nat) (f : Slot → Slot) :
    (s.modSlot i f).waiters = s.waiters := rfl
@[simp] theorem State.modSlot_burst (i : Nat) (f : Slot → Slot) :
    (s.modSlot i f).burst = s.burst := rfl
@[simp] theorem State.modSlot_dmaRequest (i : Nat) (f : Slot → Slot) :
    (s.modSlot i f).dmaRequest = s.dmaRequest := rfl
@[simp] theorem State.modSlot_entries (i : Nat) (f : Slot → Slot) :
    (s.modSlot i f).entries = s.entries := rfl
@[simp] theorem State.modSlot_finishing (i : Nat) (f : Slot → Slot) :
    (s.modSlot i f).finishing = s.finishing := rfl
@[simp] theorem State.modSlot_nextId (i : Nat) (f : Slot → Slot) :
    (s.modSlot i f).nextId = s.nextId := rfl
@[simp] theorem State.modSlot_ports (i : Nat) (f : Slot → Slot) :
    (s.modSlot i f).ports = s.ports := rfl
@[simp] theorem State.modSlot_counts (i : Nat) (f : Slot → Slot) :
    (s.modSlot i f).counts = s.counts := rfl
@[simp] theorem State.modSlot_hostFields (i : Nat) (f : Slot → Slot) :
    (s.modSlot i f).hostFields = s.hostFields := rfl
@[simp] theorem State.modSlot_link (i : Nat) (f : Slot → Slot) :
    (s.modSlot i f).link = s.link := rfl
@[simp] theorem State.modSlot_settings (i : Nat) (f : Slot → Slot) :
    (s.modSlot i f).settings = s.settings := rfl
@[simp] theorem State.modSlot_pins (i : Nat) (f : Slot → Slot) :
    (s.modSlot i f).pins = s.pins := rfl
@[simp] theorem State.modSlot_hostMem (i : Nat) (f : Slot → Slot) :
    (s.modSlot i f).hostMem = s.hostMem := rfl
@[simp] theorem State.modSlot_mediumOut (i : Nat) (f : Slot → Slot) :
    (s.modSlot i f).mediumOut = s.mediumOut := rfl
@[simp] theorem State.bay_modSlot (i : Nat) (f : Slot → Slot) :
    (s.modSlot i f).bay c = s.bay c := rfl
@[simp] theorem State.spindle_modSlot (i : Nat) (f : Slot → Slot) :
    (s.modSlot i f).spindle c = s.spindle c := rfl
@[simp] theorem State.positioner_modSlot (i : Nat) (f : Slot → Slot) :
    (s.modSlot i f).positioner c = s.positioner c := rfl
@[simp] theorem State.map_modSlot (i : Nat) (f : Slot → Slot) :
    (s.modSlot i f).map c = s.map c := rfl

@[simp] theorem State.modEntry_entries (id : Nat) (f : Entry → Entry) :
    (s.modEntry id f).entries = s.entries.map (fun e => if e.id = id then f e else e) := rfl
@[simp] theorem State.modEntry_pending (id : Nat) (f : Entry → Entry) :
    (s.modEntry id f).pending = s.pending := rfl
@[simp] theorem State.modEntry_cycle (id : Nat) (f : Entry → Entry) :
    (s.modEntry id f).cycle = s.cycle := rfl
@[simp] theorem State.modEntry_instant (id : Nat) (f : Entry → Entry) :
    (s.modEntry id f).instant = s.instant := rfl
@[simp] theorem State.modEntry_freeCount (id : Nat) (f : Entry → Entry) :
    (s.modEntry id f).freeCount = s.freeCount := rfl
@[simp] theorem State.modEntry_supply (id : Nat) (f : Entry → Entry) :
    (s.modEntry id f).supply = s.supply := rfl
@[simp] theorem State.modEntry_resetInProgress (id : Nat) (f : Entry → Entry) :
    (s.modEntry id f).resetInProgress = s.resetInProgress := rfl
@[simp] theorem State.modEntry_bays (id : Nat) (f : Entry → Entry) :
    (s.modEntry id f).bays = s.bays := rfl
@[simp] theorem State.modEntry_spindles (id : Nat) (f : Entry → Entry) :
    (s.modEntry id f).spindles = s.spindles := rfl
@[simp] theorem State.modEntry_permitHolder (id : Nat) (f : Entry → Entry) :
    (s.modEntry id f).permitHolder = s.permitHolder := rfl
@[simp] theorem State.modEntry_permitWaiting (id : Nat) (f : Entry → Entry) :
    (s.modEntry id f).permitWaiting = s.permitWaiting := rfl
@[simp] theorem State.modEntry_positioners (id : Nat) (f : Entry → Entry) :
    (s.modEntry id f).positioners = s.positioners := rfl
@[simp] theorem State.modEntry_maps (id : Nat) (f : Entry → Entry) :
    (s.modEntry id f).maps = s.maps := rfl
@[simp] theorem State.modEntry_channel (id : Nat) (f : Entry → Entry) :
    (s.modEntry id f).channel = s.channel := rfl
@[simp] theorem State.modEntry_slots (id : Nat) (f : Entry → Entry) :
    (s.modEntry id f).slots = s.slots := rfl
@[simp] theorem State.modEntry_waiters (id : Nat) (f : Entry → Entry) :
    (s.modEntry id f).waiters = s.waiters := rfl
@[simp] theorem State.modEntry_burst (id : Nat) (f : Entry → Entry) :
    (s.modEntry id f).burst = s.burst := rfl
@[simp] theorem State.modEntry_dmaRequest (id : Nat) (f : Entry → Entry) :
    (s.modEntry id f).dmaRequest = s.dmaRequest := rfl
@[simp] theorem State.modEntry_finishing (id : Nat) (f : Entry → Entry) :
    (s.modEntry id f).finishing = s.finishing := rfl
@[simp] theorem State.modEntry_nextId (id : Nat) (f : Entry → Entry) :
    (s.modEntry id f).nextId = s.nextId := rfl
@[simp] theorem State.modEntry_ports (id : Nat) (f : Entry → Entry) :
    (s.modEntry id f).ports = s.ports := rfl
@[simp] theorem State.modEntry_counts (id : Nat) (f : Entry → Entry) :
    (s.modEntry id f).counts = s.counts := rfl
@[simp] theorem State.modEntry_hostFields (id : Nat) (f : Entry → Entry) :
    (s.modEntry id f).hostFields = s.hostFields := rfl
@[simp] theorem State.modEntry_link (id : Nat) (f : Entry → Entry) :
    (s.modEntry id f).link = s.link := rfl
@[simp] theorem State.modEntry_settings (id : Nat) (f : Entry → Entry) :
    (s.modEntry id f).settings = s.settings := rfl
@[simp] theorem State.modEntry_pins (id : Nat) (f : Entry → Entry) :
    (s.modEntry id f).pins = s.pins := rfl
@[simp] theorem State.modEntry_hostMem (id : Nat) (f : Entry → Entry) :
    (s.modEntry id f).hostMem = s.hostMem := rfl
@[simp] theorem State.modEntry_mediumOut (id : Nat) (f : Entry → Entry) :
    (s.modEntry id f).mediumOut = s.mediumOut := rfl
@[simp] theorem State.bay_modEntry (id : Nat) (f : Entry → Entry) :
    (s.modEntry id f).bay c = s.bay c := rfl
@[simp] theorem State.spindle_modEntry (id : Nat) (f : Entry → Entry) :
    (s.modEntry id f).spindle c = s.spindle c := rfl
@[simp] theorem State.positioner_modEntry (id : Nat) (f : Entry → Entry) :
    (s.modEntry id f).positioner c = s.positioner c := rfl
@[simp] theorem State.map_modEntry (id : Nat) (f : Entry → Entry) :
    (s.modEntry id f).map c = s.map c := rfl

@[simp] theorem State.modEntries_entries (f : Entry → Entry) :
    (s.modEntries f).entries = s.entries.map f := rfl
@[simp] theorem State.modEntries_pending (f : Entry → Entry) :
    (s.modEntries f).pending = s.pending := rfl
@[simp] theorem State.modEntries_cycle (f : Entry → Entry) : (s.modEntries f).cycle = s.cycle := rfl
@[simp] theorem State.modEntries_instant (f : Entry → Entry) :
    (s.modEntries f).instant = s.instant := rfl
@[simp] theorem State.modEntries_freeCount (f : Entry → Entry) :
    (s.modEntries f).freeCount = s.freeCount := rfl
@[simp] theorem State.modEntries_supply (f : Entry → Entry) :
    (s.modEntries f).supply = s.supply := rfl
@[simp] theorem State.modEntries_resetInProgress (f : Entry → Entry) :
    (s.modEntries f).resetInProgress = s.resetInProgress := rfl
@[simp] theorem State.modEntries_bays (f : Entry → Entry) : (s.modEntries f).bays = s.bays := rfl
@[simp] theorem State.modEntries_spindles (f : Entry → Entry) :
    (s.modEntries f).spindles = s.spindles := rfl
@[simp] theorem State.modEntries_permitHolder (f : Entry → Entry) :
    (s.modEntries f).permitHolder = s.permitHolder := rfl
@[simp] theorem State.modEntries_permitWaiting (f : Entry → Entry) :
    (s.modEntries f).permitWaiting = s.permitWaiting := rfl
@[simp] theorem State.modEntries_positioners (f : Entry → Entry) :
    (s.modEntries f).positioners = s.positioners := rfl
@[simp] theorem State.modEntries_maps (f : Entry → Entry) : (s.modEntries f).maps = s.maps := rfl
@[simp] theorem State.modEntries_channel (f : Entry → Entry) :
    (s.modEntries f).channel = s.channel := rfl
@[simp] theorem State.modEntries_slots (f : Entry → Entry) : (s.modEntries f).slots = s.slots := rfl
@[simp] theorem State.modEntries_waiters (f : Entry → Entry) :
    (s.modEntries f).waiters = s.waiters := rfl
@[simp] theorem State.modEntries_burst (f : Entry → Entry) : (s.modEntries f).burst = s.burst := rfl
@[simp] theorem State.modEntries_dmaRequest (f : Entry → Entry) :
    (s.modEntries f).dmaRequest = s.dmaRequest := rfl
@[simp] theorem State.modEntries_finishing (f : Entry → Entry) :
    (s.modEntries f).finishing = s.finishing := rfl
@[simp] theorem State.modEntries_nextId (f : Entry → Entry) :
    (s.modEntries f).nextId = s.nextId := rfl
@[simp] theorem State.modEntries_ports (f : Entry → Entry) : (s.modEntries f).ports = s.ports := rfl
@[simp] theorem State.modEntries_counts (f : Entry → Entry) :
    (s.modEntries f).counts = s.counts := rfl
@[simp] theorem State.modEntries_hostFields (f : Entry → Entry) :
    (s.modEntries f).hostFields = s.hostFields := rfl
@[simp] theorem State.modEntries_link (f : Entry → Entry) : (s.modEntries f).link = s.link := rfl
@[simp] theorem State.modEntries_settings (f : Entry → Entry) :
    (s.modEntries f).settings = s.settings := rfl
@[simp] theorem State.modEntries_pins (f : Entry → Entry) : (s.modEntries f).pins = s.pins := rfl
@[simp] theorem State.modEntries_hostMem (f : Entry → Entry) :
    (s.modEntries f).hostMem = s.hostMem := rfl
@[simp] theorem State.modEntries_mediumOut (f : Entry → Entry) :
    (s.modEntries f).mediumOut = s.mediumOut := rfl
@[simp] theorem State.bay_modEntries (f : Entry → Entry) : (s.modEntries f).bay c = s.bay c := rfl
@[simp] theorem State.spindle_modEntries (f : Entry → Entry) :
    (s.modEntries f).spindle c = s.spindle c := rfl
@[simp] theorem State.positioner_modEntries (f : Entry → Entry) :
    (s.modEntries f).positioner c = s.positioner c := rfl
@[simp] theorem State.map_modEntries (f : Entry → Entry) : (s.modEntries f).map c = s.map c := rfl

/-! ### The orders an ended mount sequence leaves -/

/-- No order that is left is one of the mount's. -/
@[simp] theorem orderLeft_giver_ne (o : Order) : (orderLeft o).giver ≠ .mount := by
  unfold orderLeft; split <;> simp_all

@[simp] theorem orderLeft_kind (o : Order) : (orderLeft o).kind = o.kind := by
  unfold orderLeft; split <;> rfl

@[simp] theorem mountAwaited_state (p : Positioner) : (mountAwaited p).state = p.state := rfl
@[simp] theorem mountAwaited_reseekUsed (p : Positioner) : (mountAwaited p).reseekUsed = false := rfl
@[simp] theorem mountAwaited_order (p : Positioner) :
    (mountAwaited p).order = p.order.map orderLeft := rfl
@[simp] theorem mountAwaited_held (p : Positioner) : (mountAwaited p).held = p.held.map orderLeft := rfl
@[simp] theorem mountAwaited_heldBehind (p : Positioner) :
    (mountAwaited p).heldBehind = p.heldBehind.map orderLeft := rfl

/-- Handing back an order that is not the mount's leaves both Defect Map Units. -/
theorem State.handBack_maps (o : Order) (outcome : OrderState) (h : o.giver ≠ .mount) :
    (s.handBack b o outcome).maps = s.maps := by
  unfold State.handBack; split <;> simp_all

/-! ### The next instant -/

@[simp] theorem State.nextInstant_instant : s.nextInstant.instant = s.instant + 1 := rfl
@[simp] theorem State.nextInstant_pending : s.nextInstant.pending = s.pending := rfl
@[simp] theorem State.nextInstant_cycle : s.nextInstant.cycle = s.cycle := rfl
@[simp] theorem State.nextInstant_freeCount : s.nextInstant.freeCount = s.freeCount := rfl
@[simp] theorem State.nextInstant_supply : s.nextInstant.supply = s.supply := rfl
@[simp] theorem State.nextInstant_resetInProgress :
    s.nextInstant.resetInProgress = s.resetInProgress := rfl
@[simp] theorem State.nextInstant_bays : s.nextInstant.bays = s.bays := rfl
@[simp] theorem State.nextInstant_spindles : s.nextInstant.spindles = s.spindles := rfl
@[simp] theorem State.nextInstant_permitHolder : s.nextInstant.permitHolder = s.permitHolder := rfl
@[simp] theorem State.nextInstant_permitWaiting :
    s.nextInstant.permitWaiting = s.permitWaiting := rfl
@[simp] theorem State.nextInstant_positioners : s.nextInstant.positioners = s.positioners := rfl
@[simp] theorem State.nextInstant_maps : s.nextInstant.maps = s.maps := rfl
@[simp] theorem State.nextInstant_channel : s.nextInstant.channel = s.channel := rfl
@[simp] theorem State.nextInstant_slots : s.nextInstant.slots = s.slots := rfl
@[simp] theorem State.nextInstant_waiters : s.nextInstant.waiters = s.waiters := rfl
@[simp] theorem State.nextInstant_burst : s.nextInstant.burst = s.burst := rfl
@[simp] theorem State.nextInstant_dmaRequest : s.nextInstant.dmaRequest = s.dmaRequest := rfl
@[simp] theorem State.nextInstant_entries : s.nextInstant.entries = s.entries := rfl
@[simp] theorem State.nextInstant_finishing : s.nextInstant.finishing = s.finishing := rfl
@[simp] theorem State.nextInstant_nextId : s.nextInstant.nextId = s.nextId := rfl
@[simp] theorem State.nextInstant_ports : s.nextInstant.ports = s.ports := rfl
@[simp] theorem State.nextInstant_counts : s.nextInstant.counts = s.counts := rfl
@[simp] theorem State.nextInstant_hostFields : s.nextInstant.hostFields = s.hostFields := rfl
@[simp] theorem State.nextInstant_link : s.nextInstant.link = s.link := rfl
@[simp] theorem State.nextInstant_settings : s.nextInstant.settings = s.settings := rfl
@[simp] theorem State.nextInstant_pins : s.nextInstant.pins = s.pins := rfl
@[simp] theorem State.nextInstant_hostMem : s.nextInstant.hostMem = s.hostMem := rfl
@[simp] theorem State.nextInstant_mediumOut : s.nextInstant.mediumOut = s.mediumOut := rfl
@[simp] theorem State.bay_nextInstant : s.nextInstant.bay c = s.bay c := rfl
@[simp] theorem State.spindle_nextInstant : s.nextInstant.spindle c = s.spindle c := rfl
@[simp] theorem State.positioner_nextInstant : s.nextInstant.positioner c = s.positioner c := rfl
@[simp] theorem State.map_nextInstant : s.nextInstant.map c = s.map c := rfl

end Machine

end Sys2Proof
end

