-- ==== Sys2Proof/Laws/Standing.lean ====
section
/-!
SUPPORT. No wait changes what stands (`State.standing`): one lemma for each shared operation, up to
`settle`.
-/

namespace Sys2Proof.Machine

variable (s : State) (b : Bay)

/-! ### The named updates -/

@[simp] theorem State.standing_report (changed : Bool) : (s.report b changed).standing = s.standing := by
  simp [State.standing]

theorem PerBay.map_update {α β : Type} (g : α → β) (p : PerBay α) (f : α → α)
    (h : g (f (p.get b)) = g (p.get b)) : PerBay.map g (p.update b f) = PerBay.map g p := by
  cases b <;> simp_all [PerBay.map, PerBay.update, PerBay.get]

@[simp] theorem State.standing_modBay (f : BayControl → BayControl)
    (h : (f (s.bay b)).media = (s.bay b).media) : (s.modBay b f).standing = s.standing := by
  simp [State.standing, PerBay.map_update b BayControl.media s.bays f h]

@[simp] theorem State.standing_modSpindle (f : Spindle → Spindle)
    (h : (f (s.spindle b)).drive = (s.spindle b).drive) : (s.modSpindle b f).standing = s.standing := by
  simp [State.standing, PerBay.map_update b Spindle.drive s.spindles f h]

@[simp] theorem State.standing_modPositioner (f : Positioner → Positioner)
    (h : (f (s.positioner b)).heads = (s.positioner b).heads) :
    (s.modPositioner b f).standing = s.standing := by
  simp [State.standing, PerBay.map_update b Positioner.heads s.positioners f h]

@[simp] theorem State.standing_modMap (f : DefectMap → DefectMap) :
    (s.modMap b f).standing = s.standing := by simp [State.standing]

@[simp] theorem State.standing_modChannel (f : Channel → Channel) :
    (s.modChannel f).standing = s.standing := rfl

@[simp] theorem State.standing_modLink (f : Link → Link) : (s.modLink f).standing = s.standing := rfl

@[simp] theorem State.standing_modSlot (i : Nat) (f : Slot → Slot) :
    (s.modSlot i f).standing = s.standing := by simp [State.standing]

@[simp] theorem State.standing_modEntry (id : Nat) (f : Entry → Entry) (h : ∀ e, (f e).task = e.task) :
    (s.modEntry id f).standing = s.standing := by
  simp only [State.standing, State.modEntry_entries, List.map_map, State.modEntry_pending,
    State.modEntry_slots]
  congr 1
  apply List.map_congr_left
  intro e _
  simp only [Function.comp]
  split
  · exact h e
  · rfl

@[simp] theorem State.standing_modEntries (f : Entry → Entry) (h : ∀ e, (f e).task = e.task) :
    (s.modEntries f).standing = s.standing := by
  simp only [State.standing, State.modEntries_entries, List.map_map]
  congr 1
  exact List.map_congr_left (fun e _ => h e)

/-- A fold of an operation that changes nothing that stands. -/
theorem standing_foldl {α : Type} (f : State → α → State) (h : ∀ s x, (f s x).standing = s.standing)
    (xs : List α) (s : State) : (xs.foldl f s).standing = s.standing := by
  induction xs generalizing s with
  | nil => rfl
  | cons x xs ih => rw [List.foldl_cons, ih, h]

/-! ### What the changes of one record leave standing -/

@[simp] theorem deferredBrake_drive (q : Spindle) : (deferredBrake q).drive = q.drive := by
  unfold deferredBrake; split <;> rfl

@[simp] theorem startingEntered_drive (t : Settings) (q : Spindle) : (startingEntered t q).drive = q.drive := (rfl)

@[simp] theorem stoppingEntered_drive (q : Spindle) : (stoppingEntered q).drive = q.drive := (rfl)

@[simp] theorem stoppedEntered_drive (q : Spindle) : (stoppedEntered q).drive = q.drive := (rfl)

@[simp] theorem lockedEntered_drive (q : Spindle) : (lockedEntered q).drive = q.drive := (rfl)

@[simp] theorem driftingEntered_drive (q : Spindle) : (driftingEntered q).drive = q.drive := (rfl)

@[simp] theorem motionTimersStopped_heads (p : Positioner) : (motionTimersStopped p).heads = p.heads := (rfl)

@[simp] theorem demandComputed_heads (p : Positioner) : (demandComputed p).heads = p.heads := (rfl)

@[simp] theorem loadBegun_heads (p : Positioner) : (loadBegun p).heads = p.heads := (rfl)

@[simp] theorem recalibrateBegun_heads (t : Settings) (p : Positioner) : (recalibrateBegun t p).heads = p.heads := (rfl)

@[simp] theorem seekBegun_heads (t : Settings) (n : Nat) (p : Positioner) : (seekBegun t n p).heads = p.heads := (rfl)

@[simp] theorem settlingEntered_heads (t : Settings) (p : Positioner) : (settlingEntered t p).heads = p.heads := (rfl)

@[simp] theorem reseekBegun_heads (t : Settings) (p : Positioner) : (reseekBegun t p).heads = p.heads := (rfl)

@[simp] theorem stopBegun_heads (t : Settings) (p : Positioner) : (stopBegun t p).heads = p.heads := (rfl)

@[simp] theorem retractBegun_heads (v : Bool) (p : Positioner) : (retractBegun v p).heads = p.heads := (rfl)

@[simp] theorem velocityLegEnded_heads (t : Settings) (p : Positioner) : (velocityLegEnded t p).heads = p.heads := by
  unfold velocityLegEnded; split <;> rfl

@[simp] theorem strandedActuator_heads (p : Positioner) : (strandedActuator p).heads = p.heads := (rfl)

@[simp] theorem mountAwaited_heads (p : Positioner) : (mountAwaited p).heads = p.heads := (rfl)

@[simp] theorem withdrawHeld_heads (g : Giver) (p : Positioner) : (withdrawHeld g p).heads = p.heads := by
  unfold withdrawHeld; simp only []; split <;> rfl

@[simp] theorem ejectStopped_media (c : BayControl) : (ejectStopped c).media = c.media := (rfl)

@[simp] theorem ejectingEntered_media (c : BayControl) : (ejectingEntered c).media = c.media := (rfl)

@[simp] theorem pulseBegun_media (c : BayControl) : (pulseBegun c).media = c.media := (rfl)

@[simp] theorem sensingRestarted_media (c : BayControl) : (sensingRestarted c).media = c.media := (rfl)

@[simp] theorem decided_task (r : Result) (n : Nat) (e : Entry) : (decided r n e).task = e.task := by
  unfold decided; split
  · split <;> rfl
  · rfl

@[simp] theorem completed_task (e : Entry) : (completed e).task = e.task := by
  unfold completed; exact decided_task _ _ _

@[simp] theorem releaseReached_task (b : Bay) (e : Entry) : (releaseReached b e).task = e.task := by
  unfold releaseReached; split
  · split
    · rfl
    · exact completed_task _
  · rfl

@[simp] theorem slipOver_task (b : Bay) (e : Entry) : (slipOver b e).task = e.task := by
  unfold slipOver; split <;> rfl

@[simp] theorem runPopped_task (e : Entry) : (runPopped e).task = e.task := by
  unfold runPopped; split
  · rfl
  · split <;> rfl

/-! ### Ops.lean -/

@[simp] theorem standing_notable (s : State) (b : Bay) :
    (State.notable s b).standing = s.standing := by
  unfold State.notable
  split <;> rfl

@[simp] theorem standing_recordFault (s : State) (b : Bay) (f : FaultClass) :
    (State.recordFault s b f).standing = s.standing := by
  unfold State.recordFault
  simp (disch :=
      intros
      first
      | exact Eq.trans rfl rfl
      | (refine Eq.trans ?_ rfl; split <;> rfl)
      | simp)

@[simp] theorem standing_freeSlot (s : State) (i : Nat) :
    (State.freeSlot s i).standing = s.standing := by simp [State.freeSlot]

@[simp] theorem standing_dropSlot (s : State) (i : Nat) :
    (State.dropSlot s i).standing = s.standing := by
  unfold State.dropSlot
  (repeat' split) <;> first | rfl | simp (disch :=
      intros
      first
      | exact Eq.trans rfl rfl
      | (refine Eq.trans ?_ rfl; split <;> rfl)
      | simp)

@[simp] theorem State.standing_dropSlots (s : State) (p : Nat → Slot → Bool) :
    (s.dropSlots p).standing = s.standing := standing_foldl _ standing_dropSlot _ _

@[simp] theorem standing_takeSlot (s : State) (i : Nat) (state : SlotState) (owner : Owner) (purpose : Purpose) (bay : Bay) (sector : SlotSector) (host : Option Nat) :
    (State.takeSlot s i state owner purpose bay sector host).standing = s.standing := by simp [State.takeSlot]

@[simp] theorem standing_handBack (s : State) (b : Bay) (o : Order) (outcome : OrderState) :
    (State.handBack s b o outcome).standing = s.standing := by
  unfold State.handBack
  split
  · rfl
  · exact State.standing_modMap ..
  · exact State.standing_modEntry _ _ _ fun e => by split <;> rfl

@[simp] theorem standing_handBack? (s : State) (b : Bay) (o : Option Order) (outcome : OrderState) :
    (s.handBack? b o outcome).standing = s.standing := by
  cases o <;> simp [State.handBack?]

@[simp] theorem standing_countRetry (s : State) (b : Bay) (g : Giver) :
    (State.countRetry s b g).standing = s.standing := by
  unfold State.countRetry
  split <;>
    simp (disch :=
      intros
      first
      | exact Eq.trans rfl rfl
      | (refine Eq.trans ?_ rfl; split <;> rfl)
      | simp)

@[simp] theorem standing_countReseek (s : State) (b : Bay) (g : Giver) :
    (State.countReseek s b g).standing = s.standing := by
  unfold State.countReseek
  split
  · rfl
  · exact State.standing_modMap ..
  · exact State.standing_modEntry _ _ _ fun e => by split <;> rfl

@[simp] theorem standing_decideEnd (s : State) (id : Nat) (result : Result) (detail : Nat) :
    (State.decideEnd s id result detail).standing = s.standing := by simp [State.decideEnd]

@[simp] theorem standing_complete (s : State) (id : Nat) :
    (State.complete s id).standing = s.standing := by simp [State.complete]

/-! ### ChannelOps.lean -/

@[simp] theorem standing_releaseChannel (s : State) :
    (State.releaseChannel s).standing = s.standing := by simp [State.releaseChannel]

@[simp] theorem standing_releaseOf (s : State) (b : Bay) :
    (State.releaseOf s b).standing = s.standing := by
  unfold State.releaseOf
  split <;> simp

@[simp] theorem standing_cutField (s : State) (b : Bay) :
    (State.cutField s b).standing = s.standing := by
  unfold State.cutField
  (repeat' split) <;> first | rfl | exact standing_freeSlot .. | exact (State.standing_modSlot s _ _)

@[simp] theorem standing_loseChannel (s : State) (b : Bay) :
    (State.loseChannel s b).standing = s.standing := by
  unfold State.loseChannel
  split <;> simp

@[simp] theorem standing_withdrawWaiting (s : State) (b : Bay) :
    (State.withdrawWaiting s b).standing = s.standing := by
  unfold State.withdrawWaiting
  split <;> simp

@[simp] theorem standing_freeMountSlots (s : State) (b : Bay) :
    (State.freeMountSlots s b).standing = s.standing := by simp [State.freeMountSlots]

@[simp] theorem standing_endMount (s : State) (b : Bay) :
    (State.endMount s b).standing = s.standing := by
  unfold State.endMount
  (repeat' split) <;> simp

@[simp] theorem standing_mountReadEnd (s : State) (b : Bay) (status : MountStatus) (table : List RemapEntry) (nextSpare : Nat) :
    (State.mountReadEnd s b status table nextSpare).standing = s.standing := by simp [State.mountReadEnd]

@[simp] theorem standing_clearMount (s : State) (b : Bay) :
    (State.clearMount s b).standing = s.standing := by simp [State.clearMount]

@[simp] theorem standing_exhausted (s : State) (b : Bay) (g : Giver) (f : FailKind) :
    (State.exhausted s b g f).standing = s.standing := by
  unfold State.exhausted
  split <;> simp

@[simp] theorem standing_failAttempt (s : State) (b : Bay) (g : Giver) (f : FailKind) :
    (State.failAttempt s b g f).standing = s.standing := by
  unfold State.failAttempt
  simp only []
  (repeat' split) <;>
    simp (disch :=
      intros
      first
      | exact Eq.trans rfl rfl
      | (refine Eq.trans ?_ rfl; split <;> rfl)
      | simp)

@[simp] theorem standing_interruptChannel (s : State) (b : Bay) :
    (State.interruptChannel s b).standing = s.standing := by
  unfold State.interruptChannel
  (repeat' split) <;> simp

@[simp] theorem standing_beginSearch (s : State) (r : Run) :
    (State.beginSearch s r).standing = s.standing := by simp [State.beginSearch]

@[simp] theorem standing_newTarget (s : State) (b : Bay) :
    (State.newTarget s b).standing = s.standing := by simp [State.newTarget]

@[simp] theorem standing_grantChannel (s : State) (b : Bay) :
    (State.grantChannel s b).standing = s.standing := by
  unfold State.grantChannel
  (repeat' split) <;> simp

@[simp] theorem standing_requestChannel (s : State) (b : Bay) :
    (State.requestChannel s b).standing = s.standing := by
  unfold State.requestChannel
  split <;> simp

@[simp] theorem standing_countSoftError (s : State) (b : Bay) :
    (State.countSoftError s b).standing = s.standing := by
  unfold State.countSoftError
  split <;> simp

@[simp] theorem standing_nextTarget (s : State) (b : Bay) (id : Nat) :
    (State.nextTarget s b id).standing = s.standing := by
  unfold State.nextTarget
  split <;> simp

@[simp] theorem standing_slip (s : State) (b : Bay) (g : Giver) :
    (State.slip s b g).standing = s.standing := by
  unfold State.slip
  split <;>
    simp (disch :=
      intros
      first
      | exact Eq.trans rfl rfl
      | (refine Eq.trans ?_ rfl; split <;> rfl)
      | simp)

@[simp] theorem standing_readInto (s : State) (b : Bay) (g : Giver) (owner : Owner) (purpose : Purpose) (sector : SlotSector) (host : Option Nat) :
    (State.readInto s b g owner purpose sector host).standing = s.standing := by
  unfold State.readInto
  split <;> simp

@[simp] theorem standing_writeFrom (s : State) (b : Bay) (id : Nat) (cylinder : Nat) (sector : SlotSector) :
    (State.writeFrom s b id cylinder sector).standing = s.standing := by
  unfold State.writeFrom
  (repeat' split) <;> simp

@[simp] theorem standing_targetMatched (s : State) (b : Bay) (g : Giver) (r : Run) :
    (State.targetMatched s b g r).standing = s.standing := by
  unfold State.targetMatched
  (repeat' split) <;> simp

@[simp] theorem standing_indexFault (s : State) (b : Bay) :
    (State.indexFault s b).standing = s.standing := by
  unfold State.indexFault
  split <;> simp

@[simp] theorem standing_formatRevolution (s : State) (b : Bay) :
    (State.formatRevolution s b).standing = s.standing := by
  unfold State.formatRevolution
  simp only []
  (repeat' split) <;>
    simp (disch :=
      intros
      first
      | exact Eq.trans rfl rfl
      | (refine Eq.trans ?_ rfl; split <;> rfl)
      | simp)

@[simp] theorem standing_beginLaying (s : State) (b : Bay) (r : Run) :
    (State.beginLaying s b r).standing = s.standing := by
  unfold State.beginLaying
  (repeat' split) <;> simp

@[simp] theorem standing_formatIndex (s : State) (b : Bay) :
    (State.formatIndex s b).standing = s.standing := by
  unfold State.formatIndex
  (repeat' split) <;> simp

@[simp] theorem standing_searchRevolution (s : State) (b : Bay) :
    (State.searchRevolution s b).standing = s.standing := by
  unfold State.searchRevolution
  simp only []
  (repeat' split) <;>
    simp (disch :=
      intros
      first
      | exact Eq.trans rfl rfl
      | (refine Eq.trans ?_ rfl; split <;> rfl)
      | simp)

@[simp] theorem standing_revolution (s : State) (b : Bay) :
    (State.revolution s b).standing = s.standing := by
  unfold State.revolution
  (repeat' split) <;> simp

/-! ### PositionerOps.lean -/

@[simp] theorem standing_selectHead (s : State) (b : Bay) (head : Nat) :
    (State.selectHead s b head).standing = s.standing := by
  unfold State.selectHead
  exact State.standing_modPositioner _ _ _ (by split <;> rfl)

@[simp] theorem standing_endOrder (s : State) (b : Bay) (outcome : OrderState) :
    (State.endOrder s b outcome).standing = s.standing := by
  unfold State.endOrder
  exact (State.standing_modPositioner _ _ _ rfl).trans (standing_handBack? ..)

@[simp] theorem standing_dropHeld (s : State) (b : Bay) (outcome : OrderState) :
    (State.dropHeld s b outcome).standing = s.standing := by
  unfold State.dropHeld
  exact (State.standing_modPositioner _ _ _ rfl).trans (by simp)

@[simp] theorem standing_endSeekIfThere (s : State) (b : Bay) :
    (State.endSeekIfThere s b).standing = s.standing := by
  unfold State.endSeekIfThere
  simp only []
  (repeat' split) <;>
    simp (disch :=
      intros
      first
      | exact Eq.trans rfl rfl
      | (refine Eq.trans ?_ rfl; split <;> rfl)
      | simp)

@[simp] theorem standing_beginRetract (s : State) (b : Bay) :
    (State.beginRetract s b).standing = s.standing := by simp [State.beginRetract]

@[simp] theorem standing_emergencyRetract (s : State) (b : Bay) :
    (State.emergencyRetract s b).standing = s.standing := by
  unfold State.emergencyRetract
  split <;> simp

@[simp] theorem standing_controlledStop (s : State) (b : Bay) :
    (State.controlledStop s b).standing = s.standing := by
  unfold State.controlledStop
  split <;> simp

@[simp] theorem standing_recordSeekFault (s : State) (b : Bay) :
    (State.recordSeekFault s b).standing = s.standing := by
  unfold State.recordSeekFault
  simp (disch :=
      intros
      first
      | exact Eq.trans rfl rfl
      | (refine Eq.trans ?_ rfl; split <;> rfl)
      | simp)

@[simp] theorem standing_retryMotion (s : State) (b : Bay) (o : Order) :
    (State.retryMotion s b o).standing = s.standing := by
  unfold State.retryMotion
  split <;>
    simp (disch :=
      intros
      first
      | exact Eq.trans rfl rfl
      | (refine Eq.trans ?_ rfl; split <;> rfl)
      | simp)

@[simp] theorem standing_seekFault (s : State) (b : Bay) (stops : Bool) :
    (State.seekFault s b stops).standing = s.standing := by
  unfold State.seekFault
  (repeat' split) <;> simp

@[simp] theorem standing_overrun (s : State) (b : Bay) :
    (State.overrun s b).standing = s.standing := by
  unfold State.overrun
  simp (disch :=
      intros
      first
      | exact Eq.trans rfl rfl
      | (refine Eq.trans ?_ rfl; split <;> rfl)
      | simp)

@[simp] theorem standing_carryOut (s : State) (b : Bay) (o : Order) :
    (State.carryOut s b o).standing = s.standing := by
  unfold State.carryOut
  (repeat' split) <;>
    simp (disch :=
      intros
      first
      | exact Eq.trans rfl rfl
      | (refine Eq.trans ?_ rfl; split <;> rfl)
      | simp)

@[simp] theorem standing_loadFor (s : State) (b : Bay) (o : Order) :
    (State.loadFor s b o).standing = s.standing := by
  unfold State.loadFor
  split <;>
    simp (disch :=
      intros
      first
      | exact Eq.trans rfl rfl
      | (refine Eq.trans ?_ rfl; split <;> rfl)
      | simp)

@[simp] theorem standing_enterFollowing (s : State) (b : Bay) :
    (State.enterFollowing s b).standing = s.standing := by
  unfold State.enterFollowing
  (repeat' split) <;>
    simp (disch :=
      intros
      first
      | exact Eq.trans rfl rfl
      | (refine Eq.trans ?_ rfl; split <;> rfl)
      | simp)

@[simp] theorem standing_holdOrder (s : State) (b : Bay) (o : Order) :
    (State.holdOrder s b o).standing = s.standing := by
  unfold State.holdOrder
  split <;> exact (State.standing_modPositioner _ _ _ rfl).trans (standing_handBack? ..)

@[simp] theorem standing_giveOrder (s : State) (b : Bay) (o : Order) :
    (State.giveOrder s b o).standing = s.standing := by
  unfold State.giveOrder
  (repeat' split) <;> simp

@[simp] theorem standing_holdPark (s : State) (b : Bay) (g : Giver) :
    (State.holdPark s b g).standing = s.standing := by
  unfold State.holdPark
  split
  · exact State.standing_modPositioner _ _ _ rfl
  · exact (State.standing_modPositioner _ _ _ rfl).trans (standing_handBack? ..)

@[simp] theorem standing_replaceHeld (s : State) (b : Bay) :
    (State.replaceHeld s b).standing = s.standing := by
  unfold State.replaceHeld
  split
  · rfl
  · exact (State.standing_modPositioner _ _ _ rfl).trans (standing_handBack? ..)

@[simp] theorem standing_givePark (s : State) (b : Bay) (g : Giver) :
    (State.givePark s b g).standing = s.standing := by
  unfold State.givePark
  (repeat' split) <;>
    simp (disch :=
      intros
      first
      | exact Eq.trans rfl rfl
      | (refine Eq.trans ?_ rfl; split <;> rfl)
      | simp)

@[simp] theorem standing_takePark (s : State) (b : Bay) :
    (State.takePark s b).standing = s.standing := by
  unfold State.takePark
  simp (disch :=
      intros
      first
      | exact Eq.trans rfl rfl
      | (refine Eq.trans ?_ rfl; split <;> rfl)
      | simp)

@[simp] theorem standing_stopMotion (s : State) (b : Bay) :
    (State.stopMotion s b).standing = s.standing := by
  unfold State.stopMotion
  split
  · exact standing_controlledStop ..
  · exact State.standing_modPositioner _ _ _ rfl
  · exact State.standing_modPositioner _ _ _ rfl
  · rfl

@[simp] theorem standing_stopOrder (s : State) (b : Bay) (g : Giver) :
    (State.stopOrder s b g).standing = s.standing := by
  have h : (s.modPositioner b (ordersWithdrawn g)).standing = s.standing :=
    State.standing_modPositioner _ _ _ (by
      unfold ordersWithdrawn
      rw [withdrawHeld_heads]
      split <;> rfl)
  unfold State.stopOrder
  split
  · rfl
  · exact (standing_stopMotion ..).trans h

@[simp] theorem standing_loadFaulted (s : State) (b : Bay) :
    (State.loadFaulted s b).standing = s.standing := by simp [State.loadFaulted]

/-! ### SpindleOps.lean -/

@[simp] theorem standing_grantPermit (s : State) (b : Bay) :
    (State.grantPermit s b).standing = s.standing := by
  unfold State.grantPermit
  exact (State.standing_modSpindle _ _ _ rfl).trans rfl

@[simp] theorem standing_requestPermit (s : State) (b : Bay) :
    (State.requestPermit s b).standing = s.standing := by
  unfold State.requestPermit
  have h := State.standing_modSpindle s b (fun q => { q with phase := .pending }) rfl
  simp only []
  split
  · exact (standing_grantPermit ..).trans h
  · exact Eq.trans rfl h

@[simp] theorem standing_releasePermit (s : State) (b : Bay) :
    (State.releasePermit s b).standing = s.standing := by
  unfold State.releasePermit
  split
  · split
    · exact (standing_grantPermit ..).trans rfl
    · rfl
  · rfl

@[simp] theorem standing_leavePending (s : State) (b : Bay) :
    (State.leavePending s b).standing = s.standing := by
  unfold State.leavePending
  refine (State.standing_modSpindle _ _ _ rfl).trans ?_
  split <;> rfl

@[simp] theorem standing_dropLoad (s : State) (b : Bay) :
    (State.dropLoad s b).standing = s.standing := by
  unfold State.dropLoad
  split <;> simp

@[simp] theorem standing_enterStopping (s : State) (b : Bay) :
    (State.enterStopping s b).standing = s.standing := by simp [State.enterStopping]

@[simp] theorem standing_spinUpRequest (s : State) (b : Bay) :
    (State.spinUpRequest s b).standing = s.standing := by
  unfold State.spinUpRequest
  (repeat' split) <;>
    simp (disch :=
      intros
      first
      | exact Eq.trans rfl rfl
      | (refine Eq.trans ?_ rfl; split <;> rfl)
      | simp)

@[simp] theorem standing_stopRequest (s : State) (b : Bay) :
    (State.stopRequest s b).standing = s.standing := by
  unfold State.stopRequest
  split <;>
    simp (disch :=
      intros
      first
      | exact Eq.trans rfl rfl
      | (refine Eq.trans ?_ rfl; split <;> rfl)
      | simp)

@[simp] theorem standing_enterStopped (s : State) (b : Bay) :
    (State.enterStopped s b).standing = s.standing := by
  unfold State.enterStopped
  split <;> simp

/-! ### BayOps.lean -/

@[simp] theorem standing_endTasksOn (s : State) (b : Bay) (p : Entry → Bool) (result : Result) :
    (State.endTasksOn s b p result).standing = s.standing := by
  unfold State.endTasksOn
  exact State.standing_modEntries _ _ fun e => by
    split
    · exact decided_task ..
    · rfl

@[simp] theorem standing_stopTask (s : State) (e : Entry) :
    (State.stopTask s e).standing = s.standing := by
  unfold State.stopTask
  split <;>
    simp (disch :=
      intros
      first
      | exact Eq.trans rfl rfl
      | (refine Eq.trans ?_ rfl; split <;> rfl)
      | simp)

@[simp] theorem standing_ejectTasks (s : State) (b : Bay) :
    (State.ejectTasks s b).standing = s.standing := by
  unfold State.ejectTasks
  exact (standing_endTasksOn ..).trans (standing_foldl _ standing_stopTask _ _)

@[simp] theorem standing_beginMount (s : State) (b : Bay) :
    (State.beginMount s b).standing = s.standing := by
  unfold State.beginMount
  simp (disch :=
      intros
      first
      | exact Eq.trans rfl rfl
      | (refine Eq.trans ?_ rfl; split <;> rfl)
      | simp)

@[simp] theorem standing_mountIfDue (s : State) (b : Bay) :
    (State.mountIfDue s b).standing = s.standing := by
  unfold State.mountIfDue
  split <;> simp

@[simp] theorem standing_failMount (s : State) (b : Bay) (result : Result) :
    (State.failMount s b result).standing = s.standing := by simp [State.failMount]

@[simp] theorem standing_lockBay (s : State) (b : Bay) :
    (State.lockBay s b).standing = s.standing := by
  unfold State.lockBay
  simp (disch :=
      intros
      first
      | exact Eq.trans rfl rfl
      | (refine Eq.trans ?_ rfl; split <;> rfl)
      | simp)

@[simp] theorem standing_lockAndSpin (s : State) (b : Bay) :
    (State.lockAndSpin s b).standing = s.standing := by simp [State.lockAndSpin]

@[simp] theorem standing_enterReleasing (s : State) (b : Bay) (d : Destination) :
    (State.enterReleasing s b d).standing = s.standing := by
  unfold State.enterReleasing
  simp (disch :=
      intros
      first
      | exact Eq.trans rfl rfl
      | (refine Eq.trans ?_ rfl; split <;> rfl)
      | simp)

@[simp] theorem standing_releaseLock (s : State) (b : Bay) (d : Destination) :
    (State.releaseLock s b d).standing = s.standing := by
  unfold State.releaseLock
  split
  · refine (State.standing_modEntries _ _ fun e => ?_).trans (State.standing_modBay _ _ _ rfl)
    split
    · exact completed_task e
    · rfl
  · refine (State.standing_modEntries _ _ (releaseReached_task b)).trans ?_
    split <;> exact State.standing_modBay _ _ _ rfl

@[simp] theorem standing_failEject (s : State) (b : Bay) :
    (State.failEject s b).standing = s.standing := by
  unfold State.failEject
  simp (disch :=
      intros
      first
      | exact Eq.trans rfl rfl
      | (refine Eq.trans ?_ rfl; split <;> rfl)
      | simp)

@[simp] theorem standing_press (s : State) (b : Bay) :
    (State.press s b).standing = s.standing := by
  unfold State.press
  (repeat' split) <;>
    simp (disch :=
      intros
      first
      | exact Eq.trans rfl rfl
      | (refine Eq.trans ?_ rfl; split <;> rfl)
      | simp)

@[simp] theorem standing_ordinaryRemoval (s : State) (b : Bay) :
    (State.ordinaryRemoval s b).standing = s.standing := by
  unfold State.ordinaryRemoval
  refine (State.standing_modEntries _ _ fun e => ?_).trans
    ((State.standing_modBay _ _ _ rfl).trans (standing_loseChannel ..))
  split
  · exact completed_task e
  · rfl

@[simp] theorem standing_cutCopy (s : State) (b : Bay) : (State.cutCopy s b).standing = s.standing := by
  unfold State.cutCopy
  split <;> simp

@[simp] theorem standing_unexpectedRemoval (s : State) (b : Bay) :
    (State.unexpectedRemoval s b).standing = s.standing := by
  unfold State.unexpectedRemoval
  simp (disch :=
      intros
      first
      | exact Eq.trans rfl rfl
      | (refine Eq.trans ?_ rfl; split <;> rfl)
      | simp)

@[simp] theorem standing_failRecovery (s : State) (b : Bay) :
    (State.failRecovery s b).standing = s.standing := by
  unfold State.failRecovery
  simp (disch :=
      intros
      first
      | exact Eq.trans rfl rfl
      | (refine Eq.trans ?_ rfl; split <;> rfl)
      | simp)

@[simp] theorem standing_returnToLocked (s : State) (b : Bay) :
    (State.returnToLocked s b).standing = s.standing := by
  unfold State.returnToLocked
  simp (disch :=
      intros
      first
      | exact Eq.trans rfl rfl
      | (refine Eq.trans ?_ rfl; split <;> rfl)
      | simp)

@[simp] theorem standing_enterSpindleLocked (s : State) (b : Bay) :
    (State.enterSpindleLocked s b).standing = s.standing := by
  unfold State.enterSpindleLocked
  split <;> simp

@[simp] theorem standing_enterDrifting (s : State) (b : Bay) :
    (State.enterDrifting s b).standing = s.standing := by simp [State.enterDrifting]

@[simp] theorem stopAwaited_task (b : Bay) (e : Entry) : (stopAwaited b e).task = e.task := by
  unfold stopAwaited
  split <;> rfl

@[simp] theorem standing_spinFault (s : State) (b : Bay) (f : FaultClass) :
    (State.spinFault s b f).standing = s.standing := by
  unfold State.spinFault
  split <;> simp [State.standing_modEntries _ (stopAwaited b) (stopAwaited_task b)]

/-! ### DispatchOps.lean -/

@[simp] theorem standing_lockIfSeated (s : State) (b : Bay) :
    (State.lockIfSeated s b).standing = s.standing := by
  unfold State.lockIfSeated
  split <;> simp

@[simp] theorem standing_lockNamed (s : State) (e : Entry) : (State.lockNamed s e).standing = s.standing :=
  standing_foldl _ standing_lockIfSeated _ _

@[simp] theorem standing_clearReseek (s : State) (b : Bay) :
    (State.clearReseek s b).standing = s.standing := by
  unfold State.clearReseek
  simp (disch :=
      intros
      first
      | exact Eq.trans rfl rfl
      | (refine Eq.trans ?_ rfl; split <;> rfl)
      | simp)

@[simp] theorem standing_engage (s : State) (e : Entry) :
    (State.engage s e).standing = s.standing := by
  unfold State.engage
  split <;>
    simp (disch :=
      intros
      first
      | exact Eq.trans rfl rfl
      | (refine Eq.trans ?_ rfl; split <;> rfl)
      | simp)

@[simp] theorem standing_beginWork (s : State) (k : TaskKind) (e : Entry) :
    (State.beginWork s k e).standing = s.standing := by
  unfold State.beginWork
  simp only []
  (repeat' split) <;>
    simp (disch :=
      intros
      first
      | exact Eq.trans rfl rfl
      | (refine Eq.trans ?_ rfl; split <;> rfl)
      | simp)

@[simp] theorem standing_start (s : State) (e : Entry) :
    (State.start s e).standing = s.standing := by
  unfold State.start
  have h := State.standing_modEntry s e.id (fun f => { f with state := .active }) fun _ => rfl
  have g := fun r => (State.standing_modEntry (s.modEntry e.id fun f => { f with state := .active }) e.id
    (fun f => { f with ending := r }) fun _ => rfl).trans h
  simp only []
  (repeat' split) <;>
    first
    | exact h
    | exact g _
    | exact (standing_beginWork ..).trans ((standing_foldl _ standing_clearReseek _ _).trans h)

@[simp] theorem standing_leaveChannel (s : State) (e : Entry) :
    (State.leaveChannel s e).standing = s.standing := by
  unfold State.leaveChannel
  split <;> simp

theorem standing_tidyEntry (s : State) (e : Entry) (t : State)
    (h : State.tidyEntry s e = some t) : t.standing = s.standing := by
  unfold State.tidyEntry at h
  (repeat' split at h)
  · obtain rfl := Option.some.inj h
    rw [State.standing_dropSlots]; rfl
  · obtain rfl := Option.some.inj h
    rw [State.standing_modEntry, standing_leaveChannel]
    exact fun _ => rfl
  · contradiction
  · contradiction

theorem standing_reportStop (s : State) (e : Entry) (t : State)
    (h : State.reportStop s e = some t) : t.standing = s.standing := by
  unfold State.reportStop at h
  (repeat' split at h) <;>
    first
    | contradiction
    | (obtain rfl := Option.some.inj h; exact State.standing_modEntry _ _ _ fun _ => rfl)

@[simp] theorem standing_restartIdle (s : State) (b : Bay) :
    (State.restartIdle s b).standing = s.standing := by
  unfold State.restartIdle
  simp (disch :=
      intros
      first
      | exact Eq.trans rfl rfl
      | (refine Eq.trans ?_ rfl; split <;> rfl)
      | simp)

@[simp] theorem standing_handOver (s : State) (e : Entry) :
    (State.handOver s e).standing = s.standing := by
  unfold State.handOver
  exact (standing_foldl _ standing_restartIdle _ _).trans
    (State.standing_modEntry s e.id (fun f => { f with state := .finishing }) fun _ => rfl)

@[simp] theorem standing_setWait (s : State) (e : Entry) (b : Bay) (w : BayWait) :
    (State.setWait s e b w).standing = s.standing := State.standing_modEntry _ _ _ fun _ => rfl

theorem standing_waitSpindle (s : State) (e : Entry) (b : Bay) (t : State)
    (h : State.waitSpindle s e b = some t) : t.standing = s.standing := by
  unfold State.waitSpindle at h
  (repeat' split at h) <;>
    first
    | contradiction
    | (obtain rfl := Option.some.inj h; simp)

@[simp] theorem standing_completeSpinUp (s : State) (e : Entry) :
    (State.completeSpinUp s e).standing = s.standing := by
  unfold State.completeSpinUp
  have h := fun n => State.standing_modEntry s e.id
    (fun f => completed { f with retriesUsed := min 255 (f.retriesUsed + n) })
    fun f => (completed_task _).trans rfl
  simp only []
  split
  · exact h _
  · exact (State.standing_modBay _ _ _ rfl).trans (h _)

@[simp] theorem standing_afterMount (s : State) (e : Entry) :
    (State.afterMount s e).standing = s.standing := by
  unfold State.afterMount
  (repeat' split) <;>
    simp (disch :=
      intros
      first
      | exact Eq.trans rfl rfl
      | (refine Eq.trans ?_ rfl; split <;> rfl)
      | simp)

theorem standing_waitMount (s : State) (e : Entry) (b : Bay) (t : State)
    (h : State.waitMount s e b = some t) : t.standing = s.standing := by
  unfold State.waitMount at h
  simp only [] at h
  (repeat' split at h) <;>
    first
    | contradiction
    | (obtain rfl := Option.some.inj h
       first
       | exact standing_setWait ..
       | exact standing_beginMount ..
       | exact State.standing_modEntry _ _ _ fun _ => rfl)

theorem standing_waitBay (s : State) (e : Entry) (b : Bay) (t : State)
    (h : State.waitBay s e b = some t) : t.standing = s.standing := by
  unfold State.waitBay at h
  split at h
  · exact standing_waitSpindle _ _ _ _ h
  · exact standing_waitMount _ _ _ _ h
  · contradiction

theorem standing_waitBays (s : State) (e : Entry) (t : State)
    (h : State.waitBays s e = some t) : t.standing = s.standing := by
  unfold State.waitBays at h
  split at h
  · obtain rfl := Option.some.inj h
    exact standing_afterMount ..
  · obtain ⟨b, _, hb⟩ := List.exists_of_findSome?_eq_some h
    exact standing_waitBay _ _ _ _ hb

@[simp] theorem standing_takeFor (s : State) (e : Entry) (i : Nat) :
    (State.takeFor s e i).standing = s.standing := by
  unfold State.takeFor
  split <;>
    simp (disch :=
      intros
      first
      | exact Eq.trans rfl rfl
      | (refine Eq.trans ?_ rfl; split <;> rfl)
      | simp)

theorem standing_takeAhead (s : State) (e : Entry) (t : State)
    (h : State.takeAhead s e = some t) : t.standing = s.standing := by
  unfold State.takeAhead at h
  (repeat' split at h) <;>
    first
    | contradiction
    | (obtain rfl := Option.some.inj h; first | rfl | exact standing_takeFor ..)

theorem standing_serveWaiter (s : State) (t : State)
    (h : State.serveWaiter s = some t) : t.standing = s.standing := by
  unfold State.serveWaiter at h
  (repeat' split at h) <;>
    first
    | contradiction
    | (obtain rfl := Option.some.inj h; first | rfl | exact (standing_takeFor ..).trans rfl)

@[simp] theorem standing_orderFor (s : State) (e : Entry) (b : Bay) (k : OrderKind) :
    (State.orderFor s e b k).standing = s.standing := by
  unfold State.orderFor
  simp (disch :=
      intros
      first
      | exact Eq.trans rfl rfl
      | (refine Eq.trans ?_ rfl; split <;> rfl)
      | simp)

@[simp] theorem standing_setRun (s : State) (e : Entry) (r : Run) (length : Nat) :
    (State.setRun s e r length).standing = s.standing := by
  unfold State.setRun
  simp (disch :=
      intros
      first
      | exact Eq.trans rfl rfl
      | (refine Eq.trans ?_ rfl; split <;> rfl)
      | simp)

@[simp] theorem standing_beginWriteHalf (s : State) (e : Entry) :
    (State.beginWriteHalf s e).standing = s.standing := by
  unfold State.beginWriteHalf
  rw [State.standing_modEntry]
  · simp [State.standing]
  · exact fun _ => rfl

@[simp] theorem standing_nextRun (s : State) (e : Entry) :
    (State.nextRun s e).standing = s.standing := by
  unfold State.nextRun
  simp only []
  (repeat' split) <;>
    simp (disch :=
      intros
      first
      | exact Eq.trans rfl rfl
      | (refine Eq.trans ?_ rfl; split <;> rfl)
      | simp)

@[simp] theorem standing_orderNext (s : State) (e : Entry) (b : Bay) (k : OrderKind) :
    (State.orderNext s e b k).standing = s.standing := by
  unfold State.orderNext
  split <;> simp

@[simp] theorem standing_giveNext (s : State) (e : Entry) :
    (State.giveNext s e).standing = s.standing := by
  unfold State.giveNext
  (repeat' split) <;>
    simp (disch :=
      intros
      first
      | exact Eq.trans rfl rfl
      | (refine Eq.trans ?_ rfl; split <;> rfl)
      | simp)

theorem standing_waitPositioner (s : State) (e : Entry) (t : State)
    (h : State.waitPositioner s e = some t) : t.standing = s.standing := by
  unfold State.waitPositioner at h
  (repeat' split at h) <;>
    first
    | contradiction
    | (obtain rfl := Option.some.inj h; simp (disch :=
        intros
        first
        | exact Eq.trans rfl rfl
        | (refine Eq.trans ?_ rfl; split <;> rfl)
        | simp))

theorem standing_waitChannel (s : State) (e : Entry) (t : State)
    (h : State.waitChannel s e = some t) : t.standing = s.standing := by
  unfold State.waitChannel at h
  simp only [] at h
  (repeat' split at h) <;>
    first
    | contradiction
    | (obtain rfl := Option.some.inj h; simp (disch :=
        intros
        first
        | exact Eq.trans rfl rfl
        | (refine Eq.trans ?_ rfl; split <;> rfl)
        | simp))

theorem standing_waitDrain (s : State) (e : Entry) (t : State)
    (h : State.waitDrain s e = some t) : t.standing = s.standing := by
  unfold State.waitDrain at h
  (repeat' split at h) <;>
    first
    | contradiction
    | (obtain rfl := Option.some.inj h; simp)

theorem standing_waitPark (s : State) (e : Entry) (t : State)
    (h : State.waitPark s e = some t) : t.standing = s.standing := by
  unfold State.waitPark at h
  (repeat' split at h) <;>
    first
    | contradiction
    | (obtain rfl := Option.some.inj h; simp (disch :=
        intros
        first
        | exact Eq.trans rfl rfl
        | (refine Eq.trans ?_ rfl; split <;> rfl)
        | simp))

theorem standing_waitStop (s : State) (e : Entry) (t : State)
    (h : State.waitStop s e = some t) : t.standing = s.standing := by
  unfold State.waitStop at h
  (repeat' split at h) <;>
    first
    | contradiction
    | (obtain rfl := Option.some.inj h; simp)

theorem standing_advanceEntry (s : State) (e : Entry) (t : State)
    (h : State.advanceEntry s e = some t) : t.standing = s.standing := by
  unfold State.advanceEntry at h
  (repeat' split at h) <;>
    first
    | contradiction
    | exact standing_waitBays _ _ _ h
    | exact standing_waitPositioner _ _ _ h
    | exact standing_waitChannel _ _ _ h
    | exact standing_waitDrain _ _ _ h
    | exact standing_waitPark _ _ _ h
    | exact standing_waitStop _ _ _ h

theorem standing_abortEntry (s : State) (e : Entry) (t : State)
    (h : State.abortEntry s e = some t) : t.standing = s.standing := by
  unfold State.abortEntry at h
  (repeat' split at h) <;>
    first
    | contradiction
    | (obtain rfl := Option.some.inj h; simp)

/-! ### LinkOps.lean -/

@[simp] theorem standing_beginRecord (s : State) (b : Bay) :
    (State.beginRecord s b).standing = s.standing := by
  cases b <;> rfl

@[simp] theorem standing_beginBurst (s : State) :
    (State.beginBurst s).standing = s.standing := by
  unfold State.beginBurst
  (repeat' split) <;>
    first
    | rfl
    | exact standing_beginRecord ..
    | exact Eq.trans rfl (State.standing_modSlot s _ _)

@[simp] theorem standing_endReread (s : State) (ws : List Word) :
    (State.endReread s ws).standing = s.standing := by
  unfold State.endReread
  split <;> rfl

@[simp] theorem standing_endPoll (s : State) (ws : List Word) :
    (State.endPoll s ws).standing = s.standing := by
  unfold State.endPoll
  split <;> rfl

@[simp] theorem standing_enterOffline (s : State) :
    (State.enterOffline s).standing = s.standing := rfl

/-! ### Settle.lean -/

theorem standing_deliverPress (s : State) (t : State)
    (h : deliverPress s = some t) : t.standing = s.standing := by
  unfold deliverPress at h
  (repeat' split at h) <;>
    first
    | contradiction
    | (obtain rfl := Option.some.inj h; simp)

theorem standing_releaseOrphan (s : State) (t : State)
    (h : releaseOrphan s = some t) : t.standing = s.standing := by
  unfold releaseOrphan at h
  (repeat' split at h) <;>
    first
    | contradiction
    | (obtain rfl := Option.some.inj h; simp)

theorem standing_serveWaitingBay (s : State) (t : State)
    (h : serveWaitingBay s = some t) : t.standing = s.standing := by
  unfold serveWaitingBay at h
  (repeat' split at h) <;>
    first
    | contradiction
    | (obtain rfl := Option.some.inj h; simp)

theorem standing_makeRequest (b : Bay) (s : State) (t : State)
    (h : makeRequest b s = some t) : t.standing = s.standing := by
  unfold makeRequest at h
  (repeat' split at h) <;>
    first
    | contradiction
    | (obtain rfl := Option.some.inj h; simp)

theorem standing_endUnreliable (s : State) (t : State)
    (h : endUnreliable s = some t) : t.standing = s.standing := by
  unfold endUnreliable at h
  (repeat' split at h) <;>
    first
    | contradiction
    | (obtain rfl := Option.some.inj h; simp)

theorem standing_restartSensing (b : Bay) (s : State) (t : State)
    (h : restartSensing b s = some t) : t.standing = s.standing := by
  unfold restartSensing at h
  (repeat' split at h) <;>
    first
    | contradiction
    | (obtain rfl := Option.some.inj h; simp)

@[simp] theorem standing_raiseBoth (s : State) :
    (State.raiseBoth s).standing = s.standing := rfl

@[simp] theorem standing_returnFromHalted (s : State) :
    (State.returnFromHalted s).standing = s.standing := rfl

theorem standing_leaveHalted (s : State) (t : State)
    (h : leaveHalted s = some t) : t.standing = s.standing := by
  unfold leaveHalted at h
  (repeat' split at h) <;>
    first
    | contradiction
    | (obtain rfl := Option.some.inj h; rfl)

theorem standing_changeHead (b : Bay) (s : State) (t : State)
    (h : changeHead b s = some t) : t.standing = s.standing := by
  unfold changeHead at h
  (repeat' split at h) <;>
    first
    | contradiction
    | (obtain rfl := Option.some.inj h; simp (disch :=
        intros
        first
        | exact Eq.trans rfl rfl
        | (refine Eq.trans ?_ rfl; split <;> rfl)
        | simp))

theorem standing_takeHeldPark (b : Bay) (s : State) (t : State)
    (h : takeHeldPark b s = some t) : t.standing = s.standing := by
  unfold takeHeldPark at h
  (repeat' split at h) <;>
    first
    | contradiction
    | (obtain rfl := Option.some.inj h; simp)

theorem standing_takeHeldOrder (b : Bay) (s : State) (t : State)
    (h : takeHeldOrder b s = some t) : t.standing = s.standing := by
  unfold takeHeldOrder at h
  simp only [] at h
  (repeat' split at h) <;>
    first
    | contradiction
    | (obtain rfl := Option.some.inj h; simp (disch :=
        intros
        first
        | exact Eq.trans rfl rfl
        | (refine Eq.trans ?_ rfl; split <;> rfl)
        | simp))

@[simp] theorem standing_seekRecord (s : State) (b : Bay) :
    (State.seekRecord s b).standing = s.standing := by simp [State.seekRecord]

@[simp] theorem standing_beginRead (s : State) (b : Bay) :
    (State.beginRead s b).standing = s.standing := by simp [State.beginRead]

theorem standing_advanceMount (b : Bay) (s : State) (t : State)
    (h : advanceMount b s = some t) : t.standing = s.standing := by
  unfold advanceMount at h
  simp only [] at h
  (repeat' split at h) <;>
    first
    | contradiction
    | (obtain rfl := Option.some.inj h; simp)

theorem standing_leaveFault (b : Bay) (s : State) (t : State)
    (h : leaveFault b s = some t) : t.standing = s.standing := by
  unfold leaveFault at h
  (repeat' split at h) <;>
    first
    | contradiction
    | (obtain rfl := Option.some.inj h; simp)

theorem standing_stopIdle (b : Bay) (s : State) (t : State)
    (h : stopIdle b s = some t) : t.standing = s.standing := by
  unfold stopIdle at h
  (repeat' split at h) <;>
    first
    | contradiction
    | (obtain rfl := Option.some.inj h; simp (disch :=
        intros
        first
        | exact Eq.trans rfl rfl
        | (refine Eq.trans ?_ rfl; split <;> rfl)
        | simp))

theorem standing_advanceRelease (b : Bay) (s : State) (t : State)
    (h : advanceRelease b s = some t) : t.standing = s.standing := by
  unfold advanceRelease at h
  simp only [] at h
  (repeat' split at h) <;>
    first
    | contradiction
    | (obtain rfl := Option.some.inj h; simp)

theorem standing_runDown (b : Bay) (s : State) (t : State)
    (h : runDown b s = some t) : t.standing = s.standing := by
  unfold runDown at h
  simp only [] at h
  (repeat' split at h) <;>
    first
    | contradiction
    | (obtain rfl := Option.some.inj h; simp (disch :=
        intros
        first
        | exact Eq.trans rfl rfl
        | (refine Eq.trans ?_ rfl; split <;> rfl)
        | simp))

theorem standing_driveEject (b : Bay) (s : State) (t : State)
    (h : driveEject b s = some t) : t.standing = s.standing := by
  unfold driveEject at h
  simp only [] at h
  (repeat' split at h) <;>
    first
    | contradiction
    | (obtain rfl := Option.some.inj h; simp (disch :=
        intros
        first
        | exact Eq.trans rfl rfl
        | (refine Eq.trans ?_ rfl; split <;> rfl)
        | simp))

theorem standing_handOverEntry (s : State) (e : Entry) (t : State)
    (h : handOverEntry s e = some t) : t.standing = s.standing := by
  unfold handOverEntry at h
  (repeat' split at h) <;>
    first
    | contradiction
    | (obtain rfl := Option.some.inj h; simp)

theorem standing_startEntry (s : State) (e : Entry) (t : State)
    (h : startEntry s e = some t) : t.standing = s.standing := by
  unfold startEntry at h
  (repeat' split at h) <;>
    first
    | contradiction
    | (obtain rfl := Option.some.inj h; simp)

theorem standing_waitEntry (s : State) (e : Entry) (t : State)
    (h : waitEntry s e = some t) : t.standing = s.standing := by
  unfold waitEntry at h
  (repeat' split at h) <;>
    first
    | contradiction
    | (obtain rfl := Option.some.inj h; simp (disch :=
        intros
        first
        | exact Eq.trans rfl rfl
        | (refine Eq.trans ?_ rfl; split <;> rfl)
        | simp))

theorem standing_goOfflineNow (s : State) (t : State)
    (h : goOfflineNow s = some t) : t.standing = s.standing := by
  unfold goOfflineNow at h
  (repeat' split at h) <;>
    first
    | contradiction
    | (obtain rfl := Option.some.inj h; rfl)

theorem standing_withdrawFetch (s : State) (t : State)
    (h : withdrawFetch s = some t) : t.standing = s.standing := by
  unfold withdrawFetch at h
  (repeat' split at h) <;>
    first
    | contradiction
    | (obtain rfl := Option.some.inj h; rfl)

/-- What the fetcher's wait can do: the write of a COUNT SKEW, whatever the queue holds, or the link read of a
take that the queue has a place for. -/
theorem beginFetch_cases (s : State) (t : State) (h : beginFetch s = some t) :
    s.fetcherFree = true ∧
      ((32768 < s.postedAhead ∧ t = s.modLink (fun l => { l with fetch := .writeFault .countSkew })) ∨
        (0 < s.postedAhead ∧ s.postedAhead ≤ 32768 ∧ s.link.pollDue = false ∧
          s.entries.length < Config.queueSize ∧ t = s.modLink (fun l => { l with fetch := .readLink }))) := by
  unfold beginFetch at h
  split at h
  · rename_i free
    split at h
    · exact ⟨free, .inl ⟨‹_›, (Option.some.inj h).symm⟩⟩
    · split at h
      · rename_i place
        simp only [Bool.not_eq_true'] at place
        exact ⟨free, .inr ⟨place.1, by omega, place.2.1, place.2.2, (Option.some.inj h).symm⟩⟩
      · cases h
  · cases h

theorem standing_beginFetch (s : State) (t : State)
    (h : beginFetch s = some t) : t.standing = s.standing := by
  obtain ⟨-, ⟨-, rfl⟩ | ⟨-, -, -, -, rfl⟩⟩ := beginFetch_cases s t h <;> rfl

/-! ### Every wait, and the whole instant -/

theorem standing_firstEntry (f : State → Entry → Option State)
    (h : ∀ s e t, f s e = some t → t.standing = s.standing) (s t : State)
    (e : firstEntry f s = some t) : t.standing = s.standing := by
  unfold firstEntry at e
  obtain ⟨x, _, hx⟩ := List.exists_of_findSome?_eq_some e
  exact h s x t hx

theorem standing_eachBay (f : Bay → State → Option State)
    (h : ∀ b s t, f b s = some t → t.standing = s.standing) (s t : State)
    (e : eachBay f s = some t) : t.standing = s.standing := by
  unfold eachBay at e
  rcases Option.or_eq_some_iff.mp e with e | ⟨_, e⟩
  · exact h _ _ _ e
  · exact h _ _ _ e

/-- No wait changes what stands. -/
theorem standing_wait (f : State → Option State) (hf : f ∈ waits) (s t : State)
    (h : f s = some t) : t.standing = s.standing := by
  simp only [waits, List.mem_cons, List.not_mem_nil, or_false] at hf
  rcases hf with rfl | rfl | rfl | rfl | rfl | rfl | rfl | rfl | rfl | rfl | rfl | rfl | rfl | rfl |
    rfl | rfl | rfl | rfl | rfl | rfl | rfl | rfl | rfl | rfl | rfl | rfl | rfl | rfl
  · exact standing_deliverPress _ _ h
  · exact standing_eachBay _ standing_restartSensing _ _ h
  · exact standing_leaveHalted _ _ h
  · exact standing_eachBay _ standing_changeHead _ _ h
  · exact standing_eachBay _ standing_leaveFault _ _ h
  · exact standing_firstEntry _ standing_reportStop _ _ h
  · exact standing_firstEntry _ standing_tidyEntry _ _ h
  · exact standing_releaseOrphan _ _ h
  · exact standing_serveWaiter _ _ h
  · exact standing_eachBay _ standing_takeHeldPark _ _ h
  · exact standing_serveWaitingBay _ _ h
  · exact standing_endUnreliable _ _ h
  · exact standing_eachBay _ standing_stopIdle _ _ h
  · exact standing_eachBay _ standing_advanceRelease _ _ h
  · exact standing_eachBay _ standing_runDown _ _ h
  · exact standing_eachBay _ standing_takeHeldOrder _ _ h
  · exact standing_eachBay _ standing_advanceMount _ _ h
  · exact standing_eachBay _ standing_driveEject _ _ h
  · exact standing_firstEntry _ standing_abortEntry _ _ h
  · exact standing_firstEntry _ standing_advanceEntry _ _ h
  · exact standing_firstEntry _ standing_takeAhead _ _ h
  · exact standing_eachBay _ standing_makeRequest _ _ h
  · exact standing_firstEntry _ standing_handOverEntry _ _ h
  · exact standing_firstEntry _ standing_startEntry _ _ h
  · exact standing_firstEntry _ standing_waitEntry _ _ h
  · exact standing_goOfflineNow _ _ h
  · exact standing_withdrawFetch _ _ h
  · exact standing_beginFetch _ _ h

end Sys2Proof.Machine
end

