-- ==== Sys2Proof/Laws/Frames.lean ====
section
/-!
SUPPORT. The frame of each shared operation: of the blocks that waits and commands change, the ones it leaves
as they were. What every wait leaves is in Sys2Proof/Laws/Standing.lean.
-/

namespace Sys2Proof.Machine

set_option linter.unusedTactic false
set_option linter.unreachableTactic false

/-- What one change keeps, a sequence of such changes keeps. -/
theorem State.foldl_field {α β : Type} (g : State → β) (f : State → α → State) (h : ∀ s x, g (f s x) = g s)
    (xs : List α) (s : State) : g (xs.foldl f s) = g s := by
  induction xs generalizing s with
  | nil => rfl
  | cons x xs ih => rw [List.foldl_cons, ih, h]

@[simp] theorem State.notable_frame (s : State) (b : Bay) :
   (State.notable s b).bays = s.bays ∧ (State.notable s b).spindles = s.spindles ∧
    (State.notable s b).permitHolder = s.permitHolder ∧ (State.notable s b).positioners = s.positioners ∧
    (State.notable s b).maps = s.maps ∧ (State.notable s b).channel = s.channel ∧
    (State.notable s b).slots = s.slots ∧ (State.notable s b).burst = s.burst ∧
    (State.notable s b).entries = s.entries := by
  refine ⟨?_, ?_, ?_, ?_, ?_, ?_, ?_, ?_, ?_⟩ <;>
    (unfold State.notable; (repeat' split) <;> first | rfl | simp)

@[simp] theorem State.recordFault_frame (s : State) (b : Bay) (f : FaultClass) :
   (State.recordFault s b f).spindles = s.spindles ∧
    (State.recordFault s b f).permitHolder = s.permitHolder ∧
    (State.recordFault s b f).positioners = s.positioners ∧ (State.recordFault s b f).maps = s.maps ∧
    (State.recordFault s b f).channel = s.channel ∧ (State.recordFault s b f).slots = s.slots ∧
    (State.recordFault s b f).burst = s.burst ∧ (State.recordFault s b f).entries = s.entries := by
  simp [State.recordFault]

@[simp] theorem State.freeSlot_frame (s : State) (i : Nat) :
   (State.freeSlot s i).bays = s.bays ∧ (State.freeSlot s i).spindles = s.spindles ∧
    (State.freeSlot s i).permitHolder = s.permitHolder ∧ (State.freeSlot s i).positioners = s.positioners ∧
    (State.freeSlot s i).maps = s.maps ∧ (State.freeSlot s i).channel = s.channel ∧
    (State.freeSlot s i).burst = s.burst ∧ (State.freeSlot s i).entries = s.entries := by
  simp [State.freeSlot]

@[simp] theorem State.dropSlot_frame (s : State) (i : Nat) :
   (State.dropSlot s i).bays = s.bays ∧ (State.dropSlot s i).spindles = s.spindles ∧
    (State.dropSlot s i).permitHolder = s.permitHolder ∧ (State.dropSlot s i).positioners = s.positioners ∧
    (State.dropSlot s i).maps = s.maps ∧ (State.dropSlot s i).channel = s.channel ∧
    (State.dropSlot s i).entries = s.entries := by
  refine ⟨?_, ?_, ?_, ?_, ?_, ?_, ?_⟩ <;>
    (unfold State.dropSlot; (repeat' split) <;> first | rfl | simp)

@[simp] theorem State.dropSlots_frame (s : State) (p : Nat → Slot → Bool) :
   (State.dropSlots s p).bays = s.bays ∧ (State.dropSlots s p).spindles = s.spindles ∧
    (State.dropSlots s p).permitHolder = s.permitHolder ∧
    (State.dropSlots s p).positioners = s.positioners ∧ (State.dropSlots s p).maps = s.maps ∧
    (State.dropSlots s p).channel = s.channel ∧ (State.dropSlots s p).entries = s.entries := by
  refine ⟨?_, ?_, ?_, ?_, ?_, ?_, ?_⟩
  · unfold State.dropSlots; exact State.foldl_field (fun s => s.bays) _ (by simp) _ _
  · unfold State.dropSlots; exact State.foldl_field (fun s => s.spindles) _ (by simp) _ _
  · unfold State.dropSlots; exact State.foldl_field (fun s => s.permitHolder) _ (by simp) _ _
  · unfold State.dropSlots; exact State.foldl_field (fun s => s.positioners) _ (by simp) _ _
  · unfold State.dropSlots; exact State.foldl_field (fun s => s.maps) _ (by simp) _ _
  · unfold State.dropSlots; exact State.foldl_field (fun s => s.channel) _ (by simp) _ _
  · unfold State.dropSlots; exact State.foldl_field (fun s => s.entries) _ (by simp) _ _

/-- A drop frees a slot or marks the burst that moves it, and leaves the others. -/
theorem State.dropSlot_burstOn (s : State) (i j : Nat) : (s.dropSlot i).burstOn j = s.burstOn j := by
  unfold State.dropSlot State.burstOn
  split
  · cases s.burst <;> rfl
  · simp

/-- R129, R130: the slots of a list of drops that no burst moves are FREE after them, and each slot that is
not free of an owner then was there before. -/
theorem State.foldl_dropSlot (l : List Nat) (s : State) (i : Nat) (x : Slot)
    (h : (l.foldl State.dropSlot s).slots[i]? = some x) (ho : x.owner.isSome = true) :
    s.slots[i]? = some x ∧ (i ∈ l → s.burstOn i = true) := by
  induction l generalizing s with
  | nil => exact ⟨h, fun m => nomatch m⟩
  | cons j l ih =>
    obtain ⟨hx, hm⟩ := ih _ h
    rw [State.dropSlot_burstOn] at hm
    unfold State.dropSlot at hx
    split at hx
    · rename_i hj
      refine ⟨hx, fun m => ?_⟩
      rcases List.mem_cons.mp m with rfl | m
      exacts [hj, hm m]
    · simp only [State.freeSlot, State.modSlot, List.getElem?_modify] at hx
      by_cases e : j = i
      · subst e
        cases hs : s.slots[j]? <;> simp [hs] at hx
        rw [← hx] at ho
        cases ho
      · simp only [e, if_false, Option.map_eq_map, Option.map_id'] at hx
        refine ⟨by simpa using hx, fun m => ?_⟩
        rcases List.mem_cons.mp m with rfl | m
        exacts [absurd rfl e, hm m]

/-- R129, R130: a drop of all slots of a condition leaves those that a burst moves. -/
theorem State.dropSlots_left (s : State) (p : Nat → Slot → Bool) (i : Nat) (x : Slot)
    (h : (s.dropSlots p).slots[i]? = some x) (ho : x.owner.isSome = true) (hp : p i x = true) :
    s.burstOn i = true := by
  obtain ⟨hx, hm⟩ := State.foldl_dropSlot _ s i x h ho
  obtain ⟨lt, rfl⟩ := List.getElem?_eq_some_iff.mp hx
  exact hm (by simp [State.slotsWhere, lt, hp])

@[simp] theorem State.takeSlot_frame (s : State) (i : Nat) (state : SlotState) (owner : Owner) (purpose : Purpose) (bay : Bay) (sector : SlotSector) (host : Option Nat) :
   (State.takeSlot s i state owner purpose bay sector host).bays = s.bays ∧
    (State.takeSlot s i state owner purpose bay sector host).spindles = s.spindles ∧
    (State.takeSlot s i state owner purpose bay sector host).permitHolder = s.permitHolder ∧
    (State.takeSlot s i state owner purpose bay sector host).positioners = s.positioners ∧
    (State.takeSlot s i state owner purpose bay sector host).maps = s.maps ∧
    (State.takeSlot s i state owner purpose bay sector host).channel = s.channel ∧
    (State.takeSlot s i state owner purpose bay sector host).burst = s.burst ∧
    (State.takeSlot s i state owner purpose bay sector host).entries = s.entries := by
  simp [State.takeSlot]

@[simp] theorem State.handBack_frame (s : State) (b : Bay) (o : Order) (outcome : OrderState) :
   (State.handBack s b o outcome).bays = s.bays ∧ (State.handBack s b o outcome).spindles = s.spindles ∧
    (State.handBack s b o outcome).permitHolder = s.permitHolder ∧
    (State.handBack s b o outcome).positioners = s.positioners ∧
    (State.handBack s b o outcome).channel = s.channel ∧ (State.handBack s b o outcome).slots = s.slots ∧
    (State.handBack s b o outcome).burst = s.burst := by
  refine ⟨?_, ?_, ?_, ?_, ?_, ?_, ?_⟩ <;>
    (unfold State.handBack; (repeat' split) <;> first | rfl | simp)

@[simp] theorem State.handBack?_frame (s : State) (b : Bay) (o : Option Order) (outcome : OrderState) :
   (State.handBack? s b o outcome).bays = s.bays ∧ (State.handBack? s b o outcome).spindles = s.spindles ∧
    (State.handBack? s b o outcome).permitHolder = s.permitHolder ∧
    (State.handBack? s b o outcome).positioners = s.positioners ∧
    (State.handBack? s b o outcome).channel = s.channel ∧ (State.handBack? s b o outcome).slots = s.slots ∧
    (State.handBack? s b o outcome).burst = s.burst := by
  refine ⟨?_, ?_, ?_, ?_, ?_, ?_, ?_⟩ <;>
    (unfold State.handBack?; (repeat' split) <;> first | rfl | simp)

@[simp] theorem State.countRetry_frame (s : State) (b : Bay) (g : Giver) :
   (State.countRetry s b g).bays = s.bays ∧ (State.countRetry s b g).spindles = s.spindles ∧
    (State.countRetry s b g).permitHolder = s.permitHolder ∧
    (State.countRetry s b g).positioners = s.positioners ∧ (State.countRetry s b g).channel = s.channel ∧
    (State.countRetry s b g).slots = s.slots ∧ (State.countRetry s b g).burst = s.burst := by
  refine ⟨?_, ?_, ?_, ?_, ?_, ?_, ?_⟩ <;>
    (unfold State.countRetry; (repeat' split) <;> first | rfl | simp)

@[simp] theorem State.countReseek_frame (s : State) (b : Bay) (g : Giver) :
   (State.countReseek s b g).bays = s.bays ∧ (State.countReseek s b g).spindles = s.spindles ∧
    (State.countReseek s b g).permitHolder = s.permitHolder ∧
    (State.countReseek s b g).positioners = s.positioners ∧ (State.countReseek s b g).channel = s.channel ∧
    (State.countReseek s b g).slots = s.slots ∧ (State.countReseek s b g).burst = s.burst := by
  refine ⟨?_, ?_, ?_, ?_, ?_, ?_, ?_⟩ <;>
    (unfold State.countReseek; (repeat' split) <;> first | rfl | simp)

@[simp] theorem State.decideEnd_frame (s : State) (id : Nat) (result : Result) (detail : Nat) :
   (State.decideEnd s id result detail).bays = s.bays ∧
    (State.decideEnd s id result detail).spindles = s.spindles ∧
    (State.decideEnd s id result detail).permitHolder = s.permitHolder ∧
    (State.decideEnd s id result detail).positioners = s.positioners ∧
    (State.decideEnd s id result detail).maps = s.maps ∧
    (State.decideEnd s id result detail).channel = s.channel ∧
    (State.decideEnd s id result detail).slots = s.slots ∧
    (State.decideEnd s id result detail).burst = s.burst := by
  simp [State.decideEnd]

@[simp] theorem State.complete_frame (s : State) (id : Nat) :
   (State.complete s id).bays = s.bays ∧ (State.complete s id).spindles = s.spindles ∧
    (State.complete s id).permitHolder = s.permitHolder ∧
    (State.complete s id).positioners = s.positioners ∧ (State.complete s id).maps = s.maps ∧
    (State.complete s id).channel = s.channel ∧ (State.complete s id).slots = s.slots ∧
    (State.complete s id).burst = s.burst := by
  simp [State.complete]

@[simp] theorem State.releaseChannel_frame (s : State) :
   (State.releaseChannel s).bays = s.bays ∧ (State.releaseChannel s).spindles = s.spindles ∧
    (State.releaseChannel s).permitHolder = s.permitHolder ∧
    (State.releaseChannel s).positioners = s.positioners ∧ (State.releaseChannel s).maps = s.maps ∧
    (State.releaseChannel s).slots = s.slots ∧ (State.releaseChannel s).burst = s.burst ∧
    (State.releaseChannel s).entries = s.entries := by
  simp [State.releaseChannel]

@[simp] theorem State.releaseOf_frame (s : State) (b : Bay) :
   (State.releaseOf s b).bays = s.bays ∧ (State.releaseOf s b).spindles = s.spindles ∧
    (State.releaseOf s b).permitHolder = s.permitHolder ∧
    (State.releaseOf s b).positioners = s.positioners ∧ (State.releaseOf s b).maps = s.maps ∧
    (State.releaseOf s b).slots = s.slots ∧ (State.releaseOf s b).burst = s.burst ∧
    (State.releaseOf s b).entries = s.entries := by
  refine ⟨?_, ?_, ?_, ?_, ?_, ?_, ?_, ?_⟩ <;>
    (unfold State.releaseOf; (repeat' split) <;> first | rfl | simp)

@[simp] theorem State.cutField_frame (s : State) (b : Bay) :
   (State.cutField s b).bays = s.bays ∧ (State.cutField s b).spindles = s.spindles ∧
    (State.cutField s b).permitHolder = s.permitHolder ∧ (State.cutField s b).positioners = s.positioners ∧
    (State.cutField s b).maps = s.maps ∧ (State.cutField s b).channel = s.channel ∧
    (State.cutField s b).burst = s.burst ∧ (State.cutField s b).entries = s.entries := by
  refine ⟨?_, ?_, ?_, ?_, ?_, ?_, ?_, ?_⟩ <;>
    (unfold State.cutField; (repeat' split) <;> first | rfl | simp)

@[simp] theorem State.loseChannel_frame (s : State) (b : Bay) :
   (State.loseChannel s b).bays = s.bays ∧ (State.loseChannel s b).spindles = s.spindles ∧
    (State.loseChannel s b).permitHolder = s.permitHolder ∧
    (State.loseChannel s b).positioners = s.positioners ∧ (State.loseChannel s b).maps = s.maps ∧
    (State.loseChannel s b).burst = s.burst ∧ (State.loseChannel s b).entries = s.entries := by
  refine ⟨?_, ?_, ?_, ?_, ?_, ?_, ?_⟩ <;>
    (unfold State.loseChannel; (repeat' split) <;> first | rfl | simp)

@[simp] theorem State.withdrawWaiting_frame (s : State) (b : Bay) :
   (State.withdrawWaiting s b).bays = s.bays ∧ (State.withdrawWaiting s b).spindles = s.spindles ∧
    (State.withdrawWaiting s b).permitHolder = s.permitHolder ∧
    (State.withdrawWaiting s b).positioners = s.positioners ∧ (State.withdrawWaiting s b).maps = s.maps ∧
    (State.withdrawWaiting s b).slots = s.slots ∧ (State.withdrawWaiting s b).burst = s.burst ∧
    (State.withdrawWaiting s b).entries = s.entries := by
  refine ⟨?_, ?_, ?_, ?_, ?_, ?_, ?_, ?_⟩ <;>
    (unfold State.withdrawWaiting; (repeat' split) <;> first | rfl | simp)

@[simp] theorem State.freeMountSlots_frame (s : State) (b : Bay) :
   (State.freeMountSlots s b).bays = s.bays ∧ (State.freeMountSlots s b).spindles = s.spindles ∧
    (State.freeMountSlots s b).permitHolder = s.permitHolder ∧
    (State.freeMountSlots s b).positioners = s.positioners ∧ (State.freeMountSlots s b).maps = s.maps ∧
    (State.freeMountSlots s b).channel = s.channel ∧ (State.freeMountSlots s b).entries = s.entries := by
  simp [State.freeMountSlots]

@[simp] theorem State.endMount_frame (s : State) (b : Bay) :
   (State.endMount s b).bays = s.bays ∧ (State.endMount s b).spindles = s.spindles ∧
    (State.endMount s b).permitHolder = s.permitHolder ∧ (State.endMount s b).positioners = s.positioners ∧
    (State.endMount s b).entries = s.entries := by
  refine ⟨?_, ?_, ?_, ?_, ?_⟩ <;>
    (unfold State.endMount; (repeat' split) <;> first | rfl | simp)

/-- R98, R99: the bay does not hold the channel after it has lost it. -/
theorem State.loseChannel_grant (s : State) (b : Bay) : (s.loseChannel b).channel.grant ≠ some b := by
  unfold State.loseChannel
  split
  · simp [State.releaseChannel, releasedChannel]
  · assumption

/-- R89: a request withdrawn waits no more, and the grant stands. -/
theorem State.withdrawWaiting_channel (s : State) (b : Bay) :
    (s.withdrawWaiting b).channel.waiting ≠ some b ∧
      (s.withdrawWaiting b).channel.grant = s.channel.grant := by
  unfold State.withdrawWaiting
  split
  · simp
  · exact ⟨by assumption, rfl⟩

/-- Which slot the burst moves is read from the burst alone. -/
theorem State.burstOn_congr {s t : State} (h : t.burst = s.burst) (i : Nat) : t.burstOn i = s.burstOn i := by
  simp [State.burstOn, h]

/-- R111: everything the end of a mount sequence does. -/
theorem State.endMount_ended (s : State) (b : Bay) : MountEnded s (s.endMount b) b := by
  unfold State.endMount
  by_cases h : (s.map b).mountStage = .idle
  · rw [if_pos h]
    exact ⟨h, by simp [h], ⟨rfl, rfl⟩, by simp [h], fun n => absurd h n⟩
  · rw [if_neg h]
    generalize hcut : (if (s.map b).mountStage = .atChannel then (s.loseChannel b).withdrawWaiting b
      else s) = cut
    have maps : cut.maps = s.maps := by rw [← hcut]; split <;> simp
    have burst : cut.burst = s.burst := by rw [← hcut]; split <;> simp
    have map : (cut.freeMountSlots b).map b = s.map b := by simp [State.map, maps]
    refine ⟨by simp, by simp [map, h], by simp [map], fun a => ?_, fun _ i x hx ho => ?_⟩
    · rw [if_pos a] at hcut
      have w := State.withdrawWaiting_channel (s.loseChannel b) b
      rw [hcut] at w
      simpa [w.2] using ⟨State.loseChannel_grant s b, w.1⟩
    · rw [← State.burstOn_congr burst i]
      exact cut.dropSlots_left _ i x (by simpa [State.freeMountSlots] using hx) (by simp [ho]) (by simp [ho])

/-- What another state that differs in nothing the end of a mount sequence reads or leaves makes of it. -/
theorem MountEnded.of_agree {s r t u : State} {b : Bay} (h : MountEnded r t b)
    (stage : (r.map b).mountStage = (s.map b).mountStage) (status : (r.map b).status = (s.map b).status)
    (kept : (r.map b).mountRetries = (s.map b).mountRetries ∧ (r.map b).table = (s.map b).table)
    (burst : r.burst = s.burst) (maps : u.maps = t.maps) (channel : u.channel = t.channel)
    (slots : u.slots = t.slots) : MountEnded s u b := by
  have map : u.map b = t.map b := by simp [State.map, maps]
  refine ⟨by rw [map]; exact h.stage, by rw [map, h.status, stage, status], ?_, ?_, ?_⟩
  · rw [map]; exact ⟨h.kept.1.trans kept.1, h.kept.2.trans kept.2⟩
  · rw [channel, ← stage]; exact h.channel
  · rw [slots, ← stage]
    intro n i x hx ho
    rw [← State.burstOn_congr burst]
    exact h.slots n i x hx ho

@[simp] theorem State.mountReadEnd_frame (s : State) (b : Bay) (status : MountStatus) (table : List RemapEntry) (nextSpare : Nat) :
   (State.mountReadEnd s b status table nextSpare).bays = s.bays ∧
    (State.mountReadEnd s b status table nextSpare).spindles = s.spindles ∧
    (State.mountReadEnd s b status table nextSpare).permitHolder = s.permitHolder ∧
    (State.mountReadEnd s b status table nextSpare).positioners = s.positioners ∧
    (State.mountReadEnd s b status table nextSpare).entries = s.entries := by
  simp [State.mountReadEnd]

@[simp] theorem State.clearMount_frame (s : State) (b : Bay) :
   (State.clearMount s b).bays = s.bays ∧ (State.clearMount s b).spindles = s.spindles ∧
    (State.clearMount s b).permitHolder = s.permitHolder ∧
    (State.clearMount s b).positioners = s.positioners ∧ (State.clearMount s b).entries = s.entries := by
  refine ⟨?_, ?_, ?_, ?_, ?_⟩ <;>
    (unfold State.clearMount; (repeat' split) <;> first | rfl | simp)

@[simp] theorem State.exhausted_frame (s : State) (b : Bay) (g : Giver) (f : FailKind) :
   (State.exhausted s b g f).bays = s.bays ∧ (State.exhausted s b g f).spindles = s.spindles ∧
    (State.exhausted s b g f).permitHolder = s.permitHolder ∧
    (State.exhausted s b g f).positioners = s.positioners := by
  refine ⟨?_, ?_, ?_, ?_⟩ <;>
    (unfold State.exhausted; (repeat' split) <;> first | rfl | simp)

@[simp] theorem State.failAttempt_frame (s : State) (b : Bay) (g : Giver) (f : FailKind) :
   (State.failAttempt s b g f).bays = s.bays ∧ (State.failAttempt s b g f).spindles = s.spindles ∧
    (State.failAttempt s b g f).permitHolder = s.permitHolder ∧
    (State.failAttempt s b g f).positioners = s.positioners := by
  refine ⟨?_, ?_, ?_, ?_⟩ <;>
    (unfold State.failAttempt; simp only []; (repeat' split) <;> first | rfl | simp)

@[simp] theorem State.beginSearch_frame (s : State) (r : Run) :
   (State.beginSearch s r).bays = s.bays ∧ (State.beginSearch s r).spindles = s.spindles ∧
    (State.beginSearch s r).permitHolder = s.permitHolder ∧
    (State.beginSearch s r).positioners = s.positioners ∧ (State.beginSearch s r).maps = s.maps ∧
    (State.beginSearch s r).slots = s.slots ∧ (State.beginSearch s r).burst = s.burst ∧
    (State.beginSearch s r).entries = s.entries := by
  simp [State.beginSearch]

@[simp] theorem State.newTarget_frame (s : State) (b : Bay) :
   (State.newTarget s b).bays = s.bays ∧ (State.newTarget s b).spindles = s.spindles ∧
    (State.newTarget s b).permitHolder = s.permitHolder ∧
    (State.newTarget s b).positioners = s.positioners ∧ (State.newTarget s b).maps = s.maps ∧
    (State.newTarget s b).slots = s.slots ∧ (State.newTarget s b).burst = s.burst ∧
    (State.newTarget s b).entries = s.entries := by
  simp [State.newTarget]

@[simp] theorem State.grantChannel_frame (s : State) (b : Bay) :
   (State.grantChannel s b).bays = s.bays ∧ (State.grantChannel s b).spindles = s.spindles ∧
    (State.grantChannel s b).permitHolder = s.permitHolder ∧
    (State.grantChannel s b).positioners = s.positioners ∧ (State.grantChannel s b).maps = s.maps ∧
    (State.grantChannel s b).slots = s.slots ∧ (State.grantChannel s b).burst = s.burst ∧
    (State.grantChannel s b).entries = s.entries := by
  refine ⟨?_, ?_, ?_, ?_, ?_, ?_, ?_, ?_⟩ <;>
    (unfold State.grantChannel; (repeat' split) <;> first | rfl | simp)

@[simp] theorem State.requestChannel_frame (s : State) (b : Bay) :
   (State.requestChannel s b).bays = s.bays ∧ (State.requestChannel s b).spindles = s.spindles ∧
    (State.requestChannel s b).permitHolder = s.permitHolder ∧
    (State.requestChannel s b).positioners = s.positioners ∧ (State.requestChannel s b).maps = s.maps ∧
    (State.requestChannel s b).slots = s.slots ∧ (State.requestChannel s b).burst = s.burst ∧
    (State.requestChannel s b).entries = s.entries := by
  refine ⟨?_, ?_, ?_, ?_, ?_, ?_, ?_, ?_⟩ <;>
    (unfold State.requestChannel; (repeat' split) <;> first | rfl | simp)

@[simp] theorem State.countSoftError_frame (s : State) (b : Bay) :
   (State.countSoftError s b).bays = s.bays ∧ (State.countSoftError s b).spindles = s.spindles ∧
    (State.countSoftError s b).permitHolder = s.permitHolder ∧
    (State.countSoftError s b).positioners = s.positioners ∧
    (State.countSoftError s b).channel = s.channel ∧ (State.countSoftError s b).slots = s.slots ∧
    (State.countSoftError s b).burst = s.burst ∧ (State.countSoftError s b).entries = s.entries := by
  refine ⟨?_, ?_, ?_, ?_, ?_, ?_, ?_, ?_⟩ <;>
    (unfold State.countSoftError; (repeat' split) <;> first | rfl | simp)

@[simp] theorem State.nextTarget_frame (s : State) (b : Bay) (id : Nat) :
   (State.nextTarget s b id).bays = s.bays ∧ (State.nextTarget s b id).spindles = s.spindles ∧
    (State.nextTarget s b id).permitHolder = s.permitHolder ∧
    (State.nextTarget s b id).positioners = s.positioners ∧ (State.nextTarget s b id).maps = s.maps ∧
    (State.nextTarget s b id).slots = s.slots ∧ (State.nextTarget s b id).burst = s.burst ∧
    (State.nextTarget s b id).entries = s.entries := by
  refine ⟨?_, ?_, ?_, ?_, ?_, ?_, ?_, ?_⟩ <;>
    (unfold State.nextTarget; (repeat' split) <;> first | rfl | simp)

@[simp] theorem State.sectorDone_frame (s : State) (b : Bay) (id : Nat) (f : Entry → Entry) :
   (State.sectorDone s b id f).bays = s.bays ∧ (State.sectorDone s b id f).spindles = s.spindles ∧
    (State.sectorDone s b id f).permitHolder = s.permitHolder ∧
    (State.sectorDone s b id f).positioners = s.positioners ∧ (State.sectorDone s b id f).slots = s.slots ∧
    (State.sectorDone s b id f).burst = s.burst := by
  refine ⟨?_, ?_, ?_, ?_, ?_, ?_⟩ <;>
    (unfold State.sectorDone; (repeat' split) <;> first | rfl | simp)

@[simp] theorem State.slip_frame (s : State) (b : Bay) (g : Giver) :
   (State.slip s b g).bays = s.bays ∧ (State.slip s b g).spindles = s.spindles ∧
    (State.slip s b g).permitHolder = s.permitHolder ∧ (State.slip s b g).positioners = s.positioners ∧
    (State.slip s b g).slots = s.slots ∧ (State.slip s b g).burst = s.burst := by
  refine ⟨?_, ?_, ?_, ?_, ?_, ?_⟩ <;>
    (unfold State.slip; (repeat' split) <;> first | rfl | simp)

@[simp] theorem State.readInto_frame (s : State) (b : Bay) (g : Giver) (owner : Owner) (purpose : Purpose) (sector : SlotSector) (host : Option Nat) :
   (State.readInto s b g owner purpose sector host).bays = s.bays ∧
    (State.readInto s b g owner purpose sector host).spindles = s.spindles ∧
    (State.readInto s b g owner purpose sector host).permitHolder = s.permitHolder ∧
    (State.readInto s b g owner purpose sector host).positioners = s.positioners ∧
    (State.readInto s b g owner purpose sector host).burst = s.burst := by
  refine ⟨?_, ?_, ?_, ?_, ?_⟩ <;>
    (unfold State.readInto; (repeat' split) <;> first | rfl | simp)

@[simp] theorem State.writeFrom_frame (s : State) (b : Bay) (id : Nat) (cylinder : Nat) (sector : SlotSector) :
   (State.writeFrom s b id cylinder sector).bays = s.bays ∧
    (State.writeFrom s b id cylinder sector).spindles = s.spindles ∧
    (State.writeFrom s b id cylinder sector).permitHolder = s.permitHolder ∧
    (State.writeFrom s b id cylinder sector).positioners = s.positioners ∧
    (State.writeFrom s b id cylinder sector).maps = s.maps ∧
    (State.writeFrom s b id cylinder sector).burst = s.burst := by
  refine ⟨?_, ?_, ?_, ?_, ?_, ?_⟩ <;>
    (unfold State.writeFrom; (repeat' split) <;> first | rfl | simp)

@[simp] theorem State.targetMatched_frame (s : State) (b : Bay) (g : Giver) (r : Run) :
   (State.targetMatched s b g r).bays = s.bays ∧ (State.targetMatched s b g r).spindles = s.spindles ∧
    (State.targetMatched s b g r).permitHolder = s.permitHolder ∧
    (State.targetMatched s b g r).positioners = s.positioners ∧
    (State.targetMatched s b g r).burst = s.burst := by
  refine ⟨?_, ?_, ?_, ?_, ?_⟩ <;>
    (unfold State.targetMatched; (repeat' split) <;> first | rfl | simp)

@[simp] theorem State.indexFault_frame (s : State) (b : Bay) :
   (State.indexFault s b).bays = s.bays ∧ (State.indexFault s b).spindles = s.spindles ∧
    (State.indexFault s b).permitHolder = s.permitHolder ∧
    (State.indexFault s b).positioners = s.positioners ∧ (State.indexFault s b).maps = s.maps ∧
    (State.indexFault s b).burst = s.burst := by
  refine ⟨?_, ?_, ?_, ?_, ?_, ?_⟩ <;>
    (unfold State.indexFault; (repeat' split) <;> first | rfl | simp)

@[simp] theorem State.formatRevolution_frame (s : State) (b : Bay) :
   (State.formatRevolution s b).bays = s.bays ∧ (State.formatRevolution s b).spindles = s.spindles ∧
    (State.formatRevolution s b).permitHolder = s.permitHolder ∧
    (State.formatRevolution s b).positioners = s.positioners ∧ (State.formatRevolution s b).maps = s.maps ∧
    (State.formatRevolution s b).burst = s.burst := by
  refine ⟨?_, ?_, ?_, ?_, ?_, ?_⟩ <;>
    (unfold State.formatRevolution; simp only []; (repeat' split) <;> first | rfl | simp)

@[simp] theorem State.beginLaying_frame (s : State) (b : Bay) (r : Run) :
   (State.beginLaying s b r).bays = s.bays ∧ (State.beginLaying s b r).spindles = s.spindles ∧
    (State.beginLaying s b r).permitHolder = s.permitHolder ∧
    (State.beginLaying s b r).positioners = s.positioners ∧ (State.beginLaying s b r).slots = s.slots ∧
    (State.beginLaying s b r).burst = s.burst ∧ (State.beginLaying s b r).entries = s.entries := by
  refine ⟨?_, ?_, ?_, ?_, ?_, ?_, ?_⟩ <;>
    (unfold State.beginLaying; (repeat' split) <;> first | rfl | simp)

@[simp] theorem State.formatIndex_frame (s : State) (b : Bay) :
   (State.formatIndex s b).bays = s.bays ∧ (State.formatIndex s b).spindles = s.spindles ∧
    (State.formatIndex s b).permitHolder = s.permitHolder ∧
    (State.formatIndex s b).positioners = s.positioners ∧ (State.formatIndex s b).burst = s.burst := by
  refine ⟨?_, ?_, ?_, ?_, ?_⟩ <;>
    (unfold State.formatIndex; (repeat' split) <;> first | rfl | simp)

@[simp] theorem State.searchRevolution_frame (s : State) (b : Bay) :
   (State.searchRevolution s b).bays = s.bays ∧ (State.searchRevolution s b).spindles = s.spindles ∧
    (State.searchRevolution s b).permitHolder = s.permitHolder ∧
    (State.searchRevolution s b).positioners = s.positioners := by
  refine ⟨?_, ?_, ?_, ?_⟩ <;>
    (unfold State.searchRevolution; simp only []; (repeat' split) <;> first | rfl | simp)

@[simp] theorem State.revolution_frame (s : State) (b : Bay) :
   (State.revolution s b).bays = s.bays ∧ (State.revolution s b).spindles = s.spindles ∧
    (State.revolution s b).permitHolder = s.permitHolder ∧
    (State.revolution s b).positioners = s.positioners := by
  refine ⟨?_, ?_, ?_, ?_⟩ <;>
    (unfold State.revolution; simp only []; (repeat' split) <;> first | rfl | simp)

@[simp] theorem State.selectHead_frame (s : State) (b : Bay) (head : Nat) :
   (State.selectHead s b head).bays = s.bays ∧ (State.selectHead s b head).spindles = s.spindles ∧
    (State.selectHead s b head).permitHolder = s.permitHolder ∧ (State.selectHead s b head).maps = s.maps ∧
    (State.selectHead s b head).channel = s.channel ∧ (State.selectHead s b head).slots = s.slots ∧
    (State.selectHead s b head).burst = s.burst ∧ (State.selectHead s b head).entries = s.entries := by
  simp [State.selectHead]

@[simp] theorem State.endOrder_frame (s : State) (b : Bay) (outcome : OrderState) :
   (State.endOrder s b outcome).bays = s.bays ∧ (State.endOrder s b outcome).spindles = s.spindles ∧
    (State.endOrder s b outcome).permitHolder = s.permitHolder ∧
    (State.endOrder s b outcome).channel = s.channel ∧ (State.endOrder s b outcome).slots = s.slots ∧
    (State.endOrder s b outcome).burst = s.burst := by
  simp [State.endOrder]

@[simp] theorem State.dropHeld_frame (s : State) (b : Bay) (outcome : OrderState) :
   (State.dropHeld s b outcome).bays = s.bays ∧ (State.dropHeld s b outcome).spindles = s.spindles ∧
    (State.dropHeld s b outcome).permitHolder = s.permitHolder ∧
    (State.dropHeld s b outcome).channel = s.channel ∧ (State.dropHeld s b outcome).slots = s.slots ∧
    (State.dropHeld s b outcome).burst = s.burst := by
  simp [State.dropHeld]

@[simp] theorem State.endSeekIfThere_frame (s : State) (b : Bay) :
   (State.endSeekIfThere s b).bays = s.bays ∧ (State.endSeekIfThere s b).spindles = s.spindles ∧
    (State.endSeekIfThere s b).permitHolder = s.permitHolder ∧
    (State.endSeekIfThere s b).channel = s.channel ∧ (State.endSeekIfThere s b).slots = s.slots ∧
    (State.endSeekIfThere s b).burst = s.burst := by
  refine ⟨?_, ?_, ?_, ?_, ?_, ?_⟩ <;>
    (unfold State.endSeekIfThere; simp only []; (repeat' split) <;> first | rfl | simp)

@[simp] theorem State.beginRetract_frame (s : State) (b : Bay) :
   (State.beginRetract s b).bays = s.bays ∧ (State.beginRetract s b).spindles = s.spindles ∧
    (State.beginRetract s b).permitHolder = s.permitHolder ∧ (State.beginRetract s b).maps = s.maps ∧
    (State.beginRetract s b).channel = s.channel ∧ (State.beginRetract s b).slots = s.slots ∧
    (State.beginRetract s b).burst = s.burst ∧ (State.beginRetract s b).entries = s.entries := by
  simp [State.beginRetract]

@[simp] theorem State.emergencyRetract_frame (s : State) (b : Bay) :
   (State.emergencyRetract s b).bays = s.bays ∧ (State.emergencyRetract s b).spindles = s.spindles ∧
    (State.emergencyRetract s b).permitHolder = s.permitHolder ∧
    (State.emergencyRetract s b).burst = s.burst := by
  refine ⟨?_, ?_, ?_, ?_⟩ <;>
    (unfold State.emergencyRetract; (repeat' split) <;> first | rfl | simp)

@[simp] theorem State.controlledStop_frame (s : State) (b : Bay) :
   (State.controlledStop s b).bays = s.bays ∧ (State.controlledStop s b).spindles = s.spindles ∧
    (State.controlledStop s b).permitHolder = s.permitHolder ∧ (State.controlledStop s b).maps = s.maps ∧
    (State.controlledStop s b).channel = s.channel ∧ (State.controlledStop s b).slots = s.slots ∧
    (State.controlledStop s b).burst = s.burst ∧ (State.controlledStop s b).entries = s.entries := by
  refine ⟨?_, ?_, ?_, ?_, ?_, ?_, ?_, ?_⟩ <;>
    (unfold State.controlledStop; (repeat' split) <;> first | rfl | simp)

@[simp] theorem State.recordSeekFault_frame (s : State) (b : Bay) :
   (State.recordSeekFault s b).spindles = s.spindles ∧
    (State.recordSeekFault s b).permitHolder = s.permitHolder ∧ (State.recordSeekFault s b).maps = s.maps ∧
    (State.recordSeekFault s b).channel = s.channel ∧ (State.recordSeekFault s b).slots = s.slots ∧
    (State.recordSeekFault s b).burst = s.burst ∧ (State.recordSeekFault s b).entries = s.entries := by
  simp [State.recordSeekFault]

@[simp] theorem State.retryMotion_frame (s : State) (b : Bay) (o : Order) :
   (State.retryMotion s b o).bays = s.bays ∧ (State.retryMotion s b o).spindles = s.spindles ∧
    (State.retryMotion s b o).permitHolder = s.permitHolder ∧
    (State.retryMotion s b o).channel = s.channel ∧ (State.retryMotion s b o).slots = s.slots ∧
    (State.retryMotion s b o).burst = s.burst := by
  refine ⟨?_, ?_, ?_, ?_, ?_, ?_⟩ <;>
    (unfold State.retryMotion; (repeat' split) <;> first | rfl | simp)

@[simp] theorem State.carryOut_frame (s : State) (b : Bay) (o : Order) :
   (State.carryOut s b o).bays = s.bays ∧ (State.carryOut s b o).spindles = s.spindles ∧
    (State.carryOut s b o).permitHolder = s.permitHolder ∧ (State.carryOut s b o).channel = s.channel ∧
    (State.carryOut s b o).slots = s.slots ∧ (State.carryOut s b o).burst = s.burst := by
  refine ⟨?_, ?_, ?_, ?_, ?_, ?_⟩ <;>
    (unfold State.carryOut; (repeat' split) <;> first | rfl | simp)

@[simp] theorem State.loadFor_frame (s : State) (b : Bay) (o : Order) :
   (State.loadFor s b o).bays = s.bays ∧ (State.loadFor s b o).spindles = s.spindles ∧
    (State.loadFor s b o).permitHolder = s.permitHolder ∧ (State.loadFor s b o).maps = s.maps ∧
    (State.loadFor s b o).channel = s.channel ∧ (State.loadFor s b o).slots = s.slots ∧
    (State.loadFor s b o).burst = s.burst ∧ (State.loadFor s b o).entries = s.entries := by
  refine ⟨?_, ?_, ?_, ?_, ?_, ?_, ?_, ?_⟩ <;>
    (unfold State.loadFor; (repeat' split) <;> first | rfl | simp)

@[simp] theorem State.enterFollowing_frame (s : State) (b : Bay) :
   (State.enterFollowing s b).bays = s.bays ∧ (State.enterFollowing s b).spindles = s.spindles ∧
    (State.enterFollowing s b).permitHolder = s.permitHolder ∧
    (State.enterFollowing s b).channel = s.channel ∧ (State.enterFollowing s b).slots = s.slots ∧
    (State.enterFollowing s b).burst = s.burst := by
  refine ⟨?_, ?_, ?_, ?_, ?_, ?_⟩ <;>
    (unfold State.enterFollowing; (repeat' split) <;> first | rfl | simp)

@[simp] theorem State.holdOrder_frame (s : State) (b : Bay) (o : Order) :
   (State.holdOrder s b o).bays = s.bays ∧ (State.holdOrder s b o).spindles = s.spindles ∧
    (State.holdOrder s b o).permitHolder = s.permitHolder ∧ (State.holdOrder s b o).channel = s.channel ∧
    (State.holdOrder s b o).slots = s.slots ∧ (State.holdOrder s b o).burst = s.burst := by
  refine ⟨?_, ?_, ?_, ?_, ?_, ?_⟩ <;>
    (unfold State.holdOrder; (repeat' split) <;> first | rfl | simp)

@[simp] theorem State.giveOrder_frame (s : State) (b : Bay) (o : Order) :
   (State.giveOrder s b o).bays = s.bays ∧ (State.giveOrder s b o).spindles = s.spindles ∧
    (State.giveOrder s b o).permitHolder = s.permitHolder ∧ (State.giveOrder s b o).channel = s.channel ∧
    (State.giveOrder s b o).slots = s.slots ∧ (State.giveOrder s b o).burst = s.burst := by
  refine ⟨?_, ?_, ?_, ?_, ?_, ?_⟩ <;>
    (unfold State.giveOrder; (repeat' split) <;> first | rfl | simp)

@[simp] theorem State.holdPark_frame (s : State) (b : Bay) (g : Giver) :
   (State.holdPark s b g).bays = s.bays ∧ (State.holdPark s b g).spindles = s.spindles ∧
    (State.holdPark s b g).permitHolder = s.permitHolder ∧ (State.holdPark s b g).channel = s.channel ∧
    (State.holdPark s b g).slots = s.slots ∧ (State.holdPark s b g).burst = s.burst := by
  refine ⟨?_, ?_, ?_, ?_, ?_, ?_⟩ <;>
    (unfold State.holdPark; (repeat' split) <;> first | rfl | simp)

@[simp] theorem State.replaceHeld_frame (s : State) (b : Bay) :
   (State.replaceHeld s b).bays = s.bays ∧ (State.replaceHeld s b).spindles = s.spindles ∧
    (State.replaceHeld s b).permitHolder = s.permitHolder ∧ (State.replaceHeld s b).channel = s.channel ∧
    (State.replaceHeld s b).slots = s.slots ∧ (State.replaceHeld s b).burst = s.burst := by
  refine ⟨?_, ?_, ?_, ?_, ?_, ?_⟩ <;>
    (unfold State.replaceHeld; split <;> first | rfl | simp)

/-- An order that a Park replaces is handed back, and a mount keeps its stage and its status. -/
@[simp] theorem State.replaceHeld_map (s : State) (b : Bay) :
   ((s.replaceHeld b).map b).mountStage = (s.map b).mountStage ∧
   ((s.replaceHeld b).map b).status = (s.map b).status ∧
   ((s.replaceHeld b).map b).mountRetries = (s.map b).mountRetries ∧
   ((s.replaceHeld b).map b).table = (s.map b).table := by
  unfold State.replaceHeld
  split
  · simp
  · unfold State.handBack? State.handBack
    refine ⟨?_, ?_, ?_, ?_⟩ <;> (repeat' split) <;> first | rfl | (simp; try split <;> rfl)

@[simp] theorem State.givePark_frame (s : State) (b : Bay) (g : Giver) :
   (State.givePark s b g).bays = s.bays ∧ (State.givePark s b g).spindles = s.spindles ∧
    (State.givePark s b g).permitHolder = s.permitHolder := by
  refine ⟨?_, ?_, ?_⟩ <;>
    (unfold State.givePark; (repeat' split) <;> first | rfl | simp)

/-- R76, R111: a Park that finds the actuator PARKED, or that joins a retract, ends a mount sequence. -/
theorem State.givePark_endsMount (s : State) (b : Bay)
    (h : (s.positioner b).state = .parked ∨
      (s.positioner b).state = .retracting ∧ s.supply.accepted = false) :
    MountEnded s (s.givePark b .bay) b := by
  have m := State.replaceHeld_map s b
  have e := State.endMount_ended (s.replaceHeld b) b
  have keep := fun u => e.of_agree (u := u) m.1 m.2.1 m.2.2 (by simp)
  unfold State.givePark
  rcases h with h | ⟨h, hs⟩ <;> simp only [h]
  · exact keep _ rfl rfl rfl
  · simp only [hs]
    exact keep _ (by simp) (by simp) (by simp)

@[simp] theorem State.takePark_frame (s : State) (b : Bay) :
   (State.takePark s b).bays = s.bays ∧ (State.takePark s b).spindles = s.spindles ∧
    (State.takePark s b).permitHolder = s.permitHolder := by
  simp [State.takePark]

@[simp] theorem State.stopMotion_frame (s : State) (b : Bay) :
   (State.stopMotion s b).bays = s.bays ∧ (State.stopMotion s b).spindles = s.spindles ∧
    (State.stopMotion s b).permitHolder = s.permitHolder ∧ (State.stopMotion s b).maps = s.maps ∧
    (State.stopMotion s b).channel = s.channel ∧ (State.stopMotion s b).slots = s.slots ∧
    (State.stopMotion s b).burst = s.burst ∧ (State.stopMotion s b).entries = s.entries := by
  refine ⟨?_, ?_, ?_, ?_, ?_, ?_, ?_, ?_⟩ <;>
    (unfold State.stopMotion; split <;> first | rfl | simp)

@[simp] theorem State.stopOrder_frame (s : State) (b : Bay) (g : Giver) :
   (State.stopOrder s b g).bays = s.bays ∧ (State.stopOrder s b g).spindles = s.spindles ∧
    (State.stopOrder s b g).permitHolder = s.permitHolder ∧ (State.stopOrder s b g).maps = s.maps ∧
    (State.stopOrder s b g).channel = s.channel ∧ (State.stopOrder s b g).slots = s.slots ∧
    (State.stopOrder s b g).burst = s.burst ∧ (State.stopOrder s b g).entries = s.entries := by
  refine ⟨?_, ?_, ?_, ?_, ?_, ?_, ?_, ?_⟩ <;>
    (unfold State.stopOrder; (repeat' split) <;> first | rfl | simp)

@[simp] theorem State.loadFaulted_frame (s : State) (b : Bay) :
   (State.loadFaulted s b).spindles = s.spindles ∧ (State.loadFaulted s b).permitHolder = s.permitHolder ∧
    (State.loadFaulted s b).channel = s.channel ∧ (State.loadFaulted s b).slots = s.slots ∧
    (State.loadFaulted s b).burst = s.burst := by
  simp [State.loadFaulted]

@[simp] theorem State.enterParked_frame (s : State) (b : Bay) :
   (State.enterParked s b).bays = s.bays ∧ (State.enterParked s b).permitHolder = s.permitHolder := by
  refine ⟨?_, ?_⟩ <;>
    (unfold State.enterParked; (repeat' split) <;> first | rfl | simp)

@[simp] theorem State.failRetract_frame (s : State) (b : Bay) :
   (State.failRetract s b).bays = s.bays ∧ (State.failRetract s b).permitHolder = s.permitHolder ∧
    (State.failRetract s b).channel = s.channel ∧ (State.failRetract s b).slots = s.slots ∧
    (State.failRetract s b).burst = s.burst := by
  simp [State.failRetract]

@[simp] theorem State.grantPermit_frame (s : State) (b : Bay) :
   (State.grantPermit s b).bays = s.bays ∧ (State.grantPermit s b).positioners = s.positioners ∧
    (State.grantPermit s b).maps = s.maps ∧ (State.grantPermit s b).channel = s.channel ∧
    (State.grantPermit s b).slots = s.slots ∧ (State.grantPermit s b).burst = s.burst ∧
    (State.grantPermit s b).entries = s.entries := by
  simp [State.grantPermit]

@[simp] theorem State.requestPermit_frame (s : State) (b : Bay) :
   (State.requestPermit s b).bays = s.bays ∧ (State.requestPermit s b).positioners = s.positioners ∧
    (State.requestPermit s b).maps = s.maps ∧ (State.requestPermit s b).channel = s.channel ∧
    (State.requestPermit s b).slots = s.slots ∧ (State.requestPermit s b).burst = s.burst ∧
    (State.requestPermit s b).entries = s.entries := by
  refine ⟨?_, ?_, ?_, ?_, ?_, ?_, ?_⟩ <;>
    (unfold State.requestPermit; (repeat' split) <;> first | rfl | simp)

@[simp] theorem State.releasePermit_frame (s : State) (b : Bay) :
   (State.releasePermit s b).bays = s.bays ∧ (State.releasePermit s b).positioners = s.positioners ∧
    (State.releasePermit s b).maps = s.maps ∧ (State.releasePermit s b).channel = s.channel ∧
    (State.releasePermit s b).slots = s.slots ∧ (State.releasePermit s b).burst = s.burst ∧
    (State.releasePermit s b).entries = s.entries := by
  refine ⟨?_, ?_, ?_, ?_, ?_, ?_, ?_⟩ <;>
    (unfold State.releasePermit; (repeat' split) <;> first | rfl | simp)

@[simp] theorem State.leavePending_frame (s : State) (b : Bay) :
   (State.leavePending s b).bays = s.bays ∧ (State.leavePending s b).permitHolder = s.permitHolder ∧
    (State.leavePending s b).positioners = s.positioners ∧ (State.leavePending s b).maps = s.maps ∧
    (State.leavePending s b).channel = s.channel ∧ (State.leavePending s b).slots = s.slots ∧
    (State.leavePending s b).burst = s.burst ∧ (State.leavePending s b).entries = s.entries := by
  refine ⟨?_, ?_, ?_, ?_, ?_, ?_, ?_, ?_⟩ <;>
    (unfold State.leavePending; (repeat' split) <;> first | rfl | simp)

@[simp] theorem State.dropLoad_frame (s : State) (b : Bay) :
   (State.dropLoad s b).bays = s.bays ∧ (State.dropLoad s b).spindles = s.spindles ∧
    (State.dropLoad s b).permitHolder = s.permitHolder ∧ (State.dropLoad s b).channel = s.channel ∧
    (State.dropLoad s b).slots = s.slots ∧ (State.dropLoad s b).burst = s.burst := by
  refine ⟨?_, ?_, ?_, ?_, ?_, ?_⟩ <;>
    (unfold State.dropLoad; (repeat' split) <;> first | rfl | simp)

@[simp] theorem State.enterStopping_frame (s : State) (b : Bay) :
   (State.enterStopping s b).bays = s.bays ∧ (State.enterStopping s b).burst = s.burst := by
  simp [State.enterStopping]

@[simp] theorem State.spinUpRequest_frame (s : State) (b : Bay) :
   (State.spinUpRequest s b).bays = s.bays ∧ (State.spinUpRequest s b).positioners = s.positioners ∧
    (State.spinUpRequest s b).maps = s.maps ∧ (State.spinUpRequest s b).channel = s.channel ∧
    (State.spinUpRequest s b).slots = s.slots ∧ (State.spinUpRequest s b).burst = s.burst ∧
    (State.spinUpRequest s b).entries = s.entries := by
  refine ⟨?_, ?_, ?_, ?_, ?_, ?_, ?_⟩ <;>
    (unfold State.spinUpRequest; (repeat' split) <;> first | rfl | simp)

@[simp] theorem State.stopRequest_frame (s : State) (b : Bay) :
   (State.stopRequest s b).bays = s.bays ∧ (State.stopRequest s b).burst = s.burst := by
  refine ⟨?_, ?_⟩ <;>
    (unfold State.stopRequest; (repeat' split) <;> first | rfl | simp)

@[simp] theorem State.enterStopped_frame (s : State) (b : Bay) :
   (State.enterStopped s b).bays = s.bays ∧ (State.enterStopped s b).channel = s.channel ∧
    (State.enterStopped s b).slots = s.slots ∧ (State.enterStopped s b).burst = s.burst := by
  refine ⟨?_, ?_, ?_, ?_⟩ <;>
    (unfold State.enterStopped; (repeat' split) <;> first | rfl | simp)

@[simp] theorem State.endTasksOn_frame (s : State) (b : Bay) (p : Entry → Bool) (result : Result) :
   (State.endTasksOn s b p result).bays = s.bays ∧ (State.endTasksOn s b p result).spindles = s.spindles ∧
    (State.endTasksOn s b p result).permitHolder = s.permitHolder ∧
    (State.endTasksOn s b p result).positioners = s.positioners ∧
    (State.endTasksOn s b p result).maps = s.maps ∧ (State.endTasksOn s b p result).channel = s.channel ∧
    (State.endTasksOn s b p result).slots = s.slots ∧ (State.endTasksOn s b p result).burst = s.burst := by
  simp [State.endTasksOn]

@[simp] theorem State.stopTask_frame (s : State) (e : Entry) :
   (State.stopTask s e).bays = s.bays ∧ (State.stopTask s e).spindles = s.spindles ∧
    (State.stopTask s e).permitHolder = s.permitHolder ∧ (State.stopTask s e).maps = s.maps ∧
    (State.stopTask s e).channel = s.channel ∧ (State.stopTask s e).slots = s.slots ∧
    (State.stopTask s e).burst = s.burst := by
  refine ⟨?_, ?_, ?_, ?_, ?_, ?_, ?_⟩ <;>
    (unfold State.stopTask; (repeat' split) <;> first | rfl | simp)

@[simp] theorem State.ejectTasks_frame (s : State) (b : Bay) :
   (State.ejectTasks s b).bays = s.bays ∧ (State.ejectTasks s b).spindles = s.spindles ∧
    (State.ejectTasks s b).permitHolder = s.permitHolder ∧ (State.ejectTasks s b).maps = s.maps ∧
    (State.ejectTasks s b).channel = s.channel ∧ (State.ejectTasks s b).slots = s.slots ∧
    (State.ejectTasks s b).burst = s.burst := by
  refine ⟨?_, ?_, ?_, ?_, ?_, ?_, ?_⟩
  · unfold State.ejectTasks; exact State.foldl_field (fun s => s.bays) _ (by simp) _ _
  · unfold State.ejectTasks; exact State.foldl_field (fun s => s.spindles) _ (by simp) _ _
  · unfold State.ejectTasks; exact State.foldl_field (fun s => s.permitHolder) _ (by simp) _ _
  · unfold State.ejectTasks; exact State.foldl_field (fun s => s.maps) _ (by simp) _ _
  · unfold State.ejectTasks; exact State.foldl_field (fun s => s.channel) _ (by simp) _ _
  · unfold State.ejectTasks; exact State.foldl_field (fun s => s.slots) _ (by simp) _ _
  · unfold State.ejectTasks; exact State.foldl_field (fun s => s.burst) _ (by simp) _ _

@[simp] theorem State.beginMount_frame (s : State) (b : Bay) :
   (State.beginMount s b).bays = s.bays ∧ (State.beginMount s b).spindles = s.spindles ∧
    (State.beginMount s b).permitHolder = s.permitHolder ∧ (State.beginMount s b).channel = s.channel ∧
    (State.beginMount s b).slots = s.slots ∧ (State.beginMount s b).burst = s.burst := by
  simp [State.beginMount]

@[simp] theorem State.mountIfDue_frame (s : State) (b : Bay) :
   (State.mountIfDue s b).bays = s.bays ∧ (State.mountIfDue s b).spindles = s.spindles ∧
    (State.mountIfDue s b).permitHolder = s.permitHolder ∧ (State.mountIfDue s b).channel = s.channel ∧
    (State.mountIfDue s b).slots = s.slots ∧ (State.mountIfDue s b).burst = s.burst := by
  refine ⟨?_, ?_, ?_, ?_, ?_, ?_⟩ <;>
    (unfold State.mountIfDue; (repeat' split) <;> first | rfl | simp)

@[simp] theorem State.failMount_frame (s : State) (b : Bay) (result : Result) :
   (State.failMount s b result).bays = s.bays ∧ (State.failMount s b result).spindles = s.spindles ∧
    (State.failMount s b result).permitHolder = s.permitHolder ∧
    (State.failMount s b result).positioners = s.positioners := by
  simp [State.failMount]

@[simp] theorem State.lockBay_frame (s : State) (b : Bay) :
   (State.lockBay s b).spindles = s.spindles ∧ (State.lockBay s b).permitHolder = s.permitHolder ∧
    (State.lockBay s b).positioners = s.positioners ∧ (State.lockBay s b).maps = s.maps ∧
    (State.lockBay s b).channel = s.channel ∧ (State.lockBay s b).slots = s.slots ∧
    (State.lockBay s b).burst = s.burst ∧ (State.lockBay s b).entries = s.entries := by
  simp [State.lockBay]

@[simp] theorem State.lockAndSpin_frame (s : State) (b : Bay) :
   (State.lockAndSpin s b).positioners = s.positioners ∧ (State.lockAndSpin s b).maps = s.maps ∧
    (State.lockAndSpin s b).channel = s.channel ∧ (State.lockAndSpin s b).slots = s.slots ∧
    (State.lockAndSpin s b).burst = s.burst ∧ (State.lockAndSpin s b).entries = s.entries := by
  simp [State.lockAndSpin]

@[simp] theorem State.insert_frame (s : State) (b : Bay) :
   (State.insert s b).entries = s.entries := by
  unfold State.insert; (repeat' split) <;> first | rfl | simp

@[simp] theorem State.enterReleasing_frame (s : State) (b : Bay) (d : Destination) :
   (State.enterReleasing s b d).spindles = s.spindles ∧
    (State.enterReleasing s b d).permitHolder = s.permitHolder := by
  simp [State.enterReleasing]

@[simp] theorem State.releaseLock_frame (s : State) (b : Bay) (d : Destination) :
   (State.releaseLock s b d).spindles = s.spindles ∧
    (State.releaseLock s b d).permitHolder = s.permitHolder ∧
    (State.releaseLock s b d).positioners = s.positioners ∧ (State.releaseLock s b d).maps = s.maps ∧
    (State.releaseLock s b d).channel = s.channel ∧ (State.releaseLock s b d).slots = s.slots ∧
    (State.releaseLock s b d).burst = s.burst := by
  refine ⟨?_, ?_, ?_, ?_, ?_, ?_, ?_⟩ <;>
    (unfold State.releaseLock; (repeat' split) <;> first | rfl | simp)

@[simp] theorem State.failEject_frame (s : State) (b : Bay) :
   (State.failEject s b).spindles = s.spindles ∧ (State.failEject s b).permitHolder = s.permitHolder ∧
    (State.failEject s b).positioners = s.positioners ∧ (State.failEject s b).maps = s.maps ∧
    (State.failEject s b).channel = s.channel ∧ (State.failEject s b).slots = s.slots ∧
    (State.failEject s b).burst = s.burst := by
  simp [State.failEject]

@[simp] theorem State.press_frame (s : State) (b : Bay) :
   (State.press s b).spindles = s.spindles ∧ (State.press s b).permitHolder = s.permitHolder := by
  refine ⟨?_, ?_⟩ <;>
    (unfold State.press; (repeat' split) <;> first | rfl | simp)

@[simp] theorem State.cutCopy_frame (s : State) (b : Bay) :
   (State.cutCopy s b).bays = s.bays ∧ (State.cutCopy s b).spindles = s.spindles ∧
    (State.cutCopy s b).permitHolder = s.permitHolder ∧
    (State.cutCopy s b).positioners = s.positioners ∧ (State.cutCopy s b).maps = s.maps ∧
    (State.cutCopy s b).burst = s.burst ∧ (State.cutCopy s b).entries = s.entries := by
  refine ⟨?_, ?_, ?_, ?_, ?_, ?_, ?_⟩ <;>
    (unfold State.cutCopy; (repeat' split) <;> first | rfl | simp)

@[simp] theorem State.pressDelivered_frame (s : State) :
   (State.pressDelivered s).spindles = s.spindles ∧
    (State.pressDelivered s).permitHolder = s.permitHolder := by
  refine ⟨?_, ?_⟩ <;>
    (unfold State.pressDelivered deliverPress; (repeat' split) <;> first | rfl | simp)

@[simp] theorem State.ordinaryRemoval_frame (s : State) (b : Bay) :
   (State.ordinaryRemoval s b).spindles = s.spindles ∧
    (State.ordinaryRemoval s b).permitHolder = s.permitHolder ∧
    (State.ordinaryRemoval s b).positioners = s.positioners ∧ (State.ordinaryRemoval s b).maps = s.maps ∧
    (State.ordinaryRemoval s b).burst = s.burst := by
  simp [State.ordinaryRemoval]

@[simp] theorem State.enterBayFault_frame (s : State) (b : Bay) :
   (State.enterBayFault s b).spindles = s.spindles ∧
    (State.enterBayFault s b).permitHolder = s.permitHolder := by
  simp [State.enterBayFault]

@[simp] theorem State.failRecovery_frame (s : State) (b : Bay) :
   (State.failRecovery s b).spindles = s.spindles ∧ (State.failRecovery s b).permitHolder = s.permitHolder ∧
    (State.failRecovery s b).maps = s.maps ∧ (State.failRecovery s b).channel = s.channel ∧
    (State.failRecovery s b).slots = s.slots ∧ (State.failRecovery s b).burst = s.burst := by
  simp [State.failRecovery]

@[simp] theorem State.takeActuatorFault_frame (s : State) (b : Bay) :
   (State.takeActuatorFault s b).spindles = s.spindles ∧
    (State.takeActuatorFault s b).permitHolder = s.permitHolder := by
  refine ⟨?_, ?_⟩ <;>
    (unfold State.takeActuatorFault; (repeat' split) <;> first | rfl | simp)

@[simp] theorem State.returnToLocked_frame (s : State) (b : Bay) :
   (State.returnToLocked s b).spindles = s.spindles ∧
    (State.returnToLocked s b).permitHolder = s.permitHolder ∧
    (State.returnToLocked s b).channel = s.channel ∧ (State.returnToLocked s b).slots = s.slots ∧
    (State.returnToLocked s b).burst = s.burst := by
  simp [State.returnToLocked]

@[simp] theorem State.enterSpindleLocked_frame (s : State) (b : Bay) :
   (State.enterSpindleLocked s b).bays = s.bays := by
  unfold State.enterSpindleLocked; (repeat' split) <;> first | rfl | simp

@[simp] theorem State.lockIfSeated_frame (s : State) (b : Bay) :
   (State.lockIfSeated s b).positioners = s.positioners ∧ (State.lockIfSeated s b).maps = s.maps ∧
    (State.lockIfSeated s b).channel = s.channel ∧ (State.lockIfSeated s b).slots = s.slots ∧
    (State.lockIfSeated s b).burst = s.burst ∧ (State.lockIfSeated s b).entries = s.entries := by
  refine ⟨?_, ?_, ?_, ?_, ?_, ?_⟩ <;>
    (unfold State.lockIfSeated; (repeat' split) <;> first | rfl | simp)

@[simp] theorem State.lockNamed_frame (s : State) (e : Entry) :
   (State.lockNamed s e).positioners = s.positioners ∧ (State.lockNamed s e).maps = s.maps ∧
    (State.lockNamed s e).channel = s.channel ∧ (State.lockNamed s e).slots = s.slots ∧
    (State.lockNamed s e).burst = s.burst ∧ (State.lockNamed s e).entries = s.entries := by
  refine ⟨?_, ?_, ?_, ?_, ?_, ?_⟩ <;> unfold State.lockNamed
  · exact State.foldl_field (fun s => s.positioners) _ (by simp) _ _
  · exact State.foldl_field (fun s => s.maps) _ (by simp) _ _
  · exact State.foldl_field (fun s => s.channel) _ (by simp) _ _
  · exact State.foldl_field (fun s => s.slots) _ (by simp) _ _
  · exact State.foldl_field (fun s => s.burst) _ (by simp) _ _
  · exact State.foldl_field (fun s => s.entries) _ (by simp) _ _

@[simp] theorem State.clearReseek_frame (s : State) (b : Bay) :
   (State.clearReseek s b).bays = s.bays ∧ (State.clearReseek s b).spindles = s.spindles ∧
    (State.clearReseek s b).permitHolder = s.permitHolder ∧ (State.clearReseek s b).maps = s.maps ∧
    (State.clearReseek s b).channel = s.channel ∧ (State.clearReseek s b).slots = s.slots ∧
    (State.clearReseek s b).burst = s.burst ∧ (State.clearReseek s b).entries = s.entries := by
  simp [State.clearReseek]

@[simp] theorem State.engage_frame (s : State) (e : Entry) :
   (State.engage s e).spindles = s.spindles ∧ (State.engage s e).permitHolder = s.permitHolder ∧
    (State.engage s e).positioners = s.positioners ∧ (State.engage s e).maps = s.maps ∧
    (State.engage s e).channel = s.channel ∧ (State.engage s e).slots = s.slots ∧
    (State.engage s e).burst = s.burst := by
  refine ⟨?_, ?_, ?_, ?_, ?_, ?_, ?_⟩ <;>
    (unfold State.engage; (repeat' split) <;> first | rfl | simp)

@[simp] theorem State.leaveChannel_frame (s : State) (e : Entry) :
   (State.leaveChannel s e).bays = s.bays ∧ (State.leaveChannel s e).spindles = s.spindles ∧
    (State.leaveChannel s e).permitHolder = s.permitHolder ∧
    (State.leaveChannel s e).positioners = s.positioners ∧ (State.leaveChannel s e).maps = s.maps ∧
    (State.leaveChannel s e).slots = s.slots ∧ (State.leaveChannel s e).burst = s.burst ∧
    (State.leaveChannel s e).entries = s.entries := by
  refine ⟨?_, ?_, ?_, ?_, ?_, ?_, ?_, ?_⟩ <;>
    (unfold State.leaveChannel; (repeat' split) <;> first | rfl | simp)

@[simp] theorem State.restartIdle_frame (s : State) (b : Bay) :
   (State.restartIdle s b).spindles = s.spindles ∧ (State.restartIdle s b).permitHolder = s.permitHolder ∧
    (State.restartIdle s b).positioners = s.positioners ∧ (State.restartIdle s b).maps = s.maps ∧
    (State.restartIdle s b).channel = s.channel ∧ (State.restartIdle s b).slots = s.slots ∧
    (State.restartIdle s b).burst = s.burst ∧ (State.restartIdle s b).entries = s.entries := by
  simp [State.restartIdle]

@[simp] theorem State.handOver_frame (s : State) (e : Entry) :
   (State.handOver s e).spindles = s.spindles ∧ (State.handOver s e).permitHolder = s.permitHolder ∧
    (State.handOver s e).positioners = s.positioners ∧ (State.handOver s e).maps = s.maps ∧
    (State.handOver s e).channel = s.channel ∧ (State.handOver s e).slots = s.slots ∧
    (State.handOver s e).burst = s.burst := by
  refine ⟨?_, ?_, ?_, ?_, ?_, ?_, ?_⟩
  · unfold State.handOver; exact State.foldl_field (fun s => s.spindles) _ (by simp) _ _
  · unfold State.handOver; exact State.foldl_field (fun s => s.permitHolder) _ (by simp) _ _
  · unfold State.handOver; exact State.foldl_field (fun s => s.positioners) _ (by simp) _ _
  · unfold State.handOver; exact State.foldl_field (fun s => s.maps) _ (by simp) _ _
  · unfold State.handOver; exact State.foldl_field (fun s => s.channel) _ (by simp) _ _
  · unfold State.handOver; exact State.foldl_field (fun s => s.slots) _ (by simp) _ _
  · unfold State.handOver; exact State.foldl_field (fun s => s.burst) _ (by simp) _ _

@[simp] theorem State.setWait_frame (s : State) (e : Entry) (b : Bay) (w : BayWait) :
   (State.setWait s e b w).bays = s.bays ∧ (State.setWait s e b w).spindles = s.spindles ∧
    (State.setWait s e b w).permitHolder = s.permitHolder ∧
    (State.setWait s e b w).positioners = s.positioners ∧ (State.setWait s e b w).maps = s.maps ∧
    (State.setWait s e b w).channel = s.channel ∧ (State.setWait s e b w).slots = s.slots ∧
    (State.setWait s e b w).burst = s.burst := by
  simp [State.setWait]

@[simp] theorem State.completeSpinUp_frame (s : State) (e : Entry) :
   (State.completeSpinUp s e).spindles = s.spindles ∧
    (State.completeSpinUp s e).permitHolder = s.permitHolder ∧
    (State.completeSpinUp s e).positioners = s.positioners ∧ (State.completeSpinUp s e).maps = s.maps ∧
    (State.completeSpinUp s e).channel = s.channel ∧ (State.completeSpinUp s e).slots = s.slots ∧
    (State.completeSpinUp s e).burst = s.burst := by
  refine ⟨?_, ?_, ?_, ?_, ?_, ?_, ?_⟩ <;>
    (unfold State.completeSpinUp; (repeat' split) <;> first | rfl | simp)

@[simp] theorem State.afterMount_frame (s : State) (e : Entry) :
   (State.afterMount s e).spindles = s.spindles ∧ (State.afterMount s e).permitHolder = s.permitHolder ∧
    (State.afterMount s e).positioners = s.positioners ∧ (State.afterMount s e).maps = s.maps ∧
    (State.afterMount s e).channel = s.channel ∧ (State.afterMount s e).slots = s.slots ∧
    (State.afterMount s e).burst = s.burst := by
  refine ⟨?_, ?_, ?_, ?_, ?_, ?_, ?_⟩ <;>
    (unfold State.afterMount; (repeat' split) <;> first | rfl | simp)

@[simp] theorem State.takeFor_frame (s : State) (e : Entry) (i : Nat) :
   (State.takeFor s e i).bays = s.bays ∧ (State.takeFor s e i).spindles = s.spindles ∧
    (State.takeFor s e i).permitHolder = s.permitHolder ∧
    (State.takeFor s e i).positioners = s.positioners ∧ (State.takeFor s e i).maps = s.maps ∧
    (State.takeFor s e i).channel = s.channel ∧ (State.takeFor s e i).burst = s.burst := by
  refine ⟨?_, ?_, ?_, ?_, ?_, ?_, ?_⟩ <;>
    (unfold State.takeFor; (repeat' split) <;> first | rfl | simp)

@[simp] theorem State.orderFor_frame (s : State) (e : Entry) (b : Bay) (k : OrderKind) :
   (State.orderFor s e b k).bays = s.bays ∧ (State.orderFor s e b k).spindles = s.spindles ∧
    (State.orderFor s e b k).permitHolder = s.permitHolder ∧ (State.orderFor s e b k).channel = s.channel ∧
    (State.orderFor s e b k).slots = s.slots ∧ (State.orderFor s e b k).burst = s.burst := by
  simp [State.orderFor]

@[simp] theorem State.orderNext_frame (s : State) (e : Entry) (b : Bay) (k : OrderKind) :
   (State.orderNext s e b k).bays = s.bays ∧ (State.orderNext s e b k).spindles = s.spindles ∧
    (State.orderNext s e b k).permitHolder = s.permitHolder ∧
    (State.orderNext s e b k).channel = s.channel ∧ (State.orderNext s e b k).slots = s.slots ∧
    (State.orderNext s e b k).burst = s.burst := by
  unfold State.orderNext
  split <;> simp

@[simp] theorem State.setRun_frame (s : State) (e : Entry) (r : Run) (length : Nat) :
   (State.setRun s e r length).bays = s.bays ∧ (State.setRun s e r length).spindles = s.spindles ∧
    (State.setRun s e r length).permitHolder = s.permitHolder ∧
    (State.setRun s e r length).positioners = s.positioners ∧ (State.setRun s e r length).maps = s.maps ∧
    (State.setRun s e r length).slots = s.slots ∧ (State.setRun s e r length).burst = s.burst := by
  simp [State.setRun]

@[simp] theorem State.beginWriteHalf_frame (s : State) (e : Entry) :
   (State.beginWriteHalf s e).bays = s.bays ∧ (State.beginWriteHalf s e).spindles = s.spindles ∧
    (State.beginWriteHalf s e).permitHolder = s.permitHolder ∧
    (State.beginWriteHalf s e).positioners = s.positioners ∧ (State.beginWriteHalf s e).maps = s.maps ∧
    (State.beginWriteHalf s e).channel = s.channel ∧ (State.beginWriteHalf s e).burst = s.burst := by
  simp [State.beginWriteHalf]

@[simp] theorem State.nextRun_frame (s : State) (e : Entry) :
   (State.nextRun s e).bays = s.bays ∧ (State.nextRun s e).spindles = s.spindles ∧
    (State.nextRun s e).permitHolder = s.permitHolder ∧ (State.nextRun s e).positioners = s.positioners ∧
    (State.nextRun s e).maps = s.maps ∧ (State.nextRun s e).burst = s.burst := by
  refine ⟨?_, ?_, ?_, ?_, ?_, ?_⟩ <;>
    (unfold State.nextRun; simp only []; (repeat' split) <;> first | rfl | simp)

@[simp] theorem State.beginRecord_frame (s : State) (b : Bay) :
   (State.beginRecord s b).bays = s.bays ∧ (State.beginRecord s b).spindles = s.spindles ∧
    (State.beginRecord s b).permitHolder = s.permitHolder ∧
    (State.beginRecord s b).positioners = s.positioners ∧ (State.beginRecord s b).maps = s.maps ∧
    (State.beginRecord s b).channel = s.channel ∧ (State.beginRecord s b).slots = s.slots ∧
    (State.beginRecord s b).entries = s.entries := by
  simp [State.beginRecord]

@[simp] theorem State.beginBurst_frame (s : State) :
   (State.beginBurst s).bays = s.bays ∧ (State.beginBurst s).spindles = s.spindles ∧
    (State.beginBurst s).permitHolder = s.permitHolder ∧ (State.beginBurst s).positioners = s.positioners ∧
    (State.beginBurst s).maps = s.maps ∧ (State.beginBurst s).channel = s.channel ∧
    (State.beginBurst s).entries = s.entries := by
  refine ⟨?_, ?_, ?_, ?_, ?_, ?_, ?_⟩ <;>
    (unfold State.beginBurst; (repeat' split) <;> first | rfl | simp)

@[simp] theorem State.takeSettingsRecord_frame (s : State) (id : Nat) (data : List Byte) :
   (State.takeSettingsRecord s id data).spindles = s.spindles ∧
    (State.takeSettingsRecord s id data).permitHolder = s.permitHolder ∧
    (State.takeSettingsRecord s id data).positioners = s.positioners ∧
    (State.takeSettingsRecord s id data).maps = s.maps ∧
    (State.takeSettingsRecord s id data).channel = s.channel ∧
    (State.takeSettingsRecord s id data).slots = s.slots ∧
    (State.takeSettingsRecord s id data).burst = s.burst := by
  refine ⟨?_, ?_, ?_, ?_, ?_, ?_, ?_⟩ <;>
    (unfold State.takeSettingsRecord; simp only []; (repeat' split) <;> first | rfl | simp)

@[simp] theorem State.endFinish_frame (s : State) (step : Nat) :
   (State.endFinish s step).bays = s.bays ∧ (State.endFinish s step).spindles = s.spindles ∧
    (State.endFinish s step).permitHolder = s.permitHolder ∧
    (State.endFinish s step).positioners = s.positioners ∧ (State.endFinish s step).maps = s.maps ∧
    (State.endFinish s step).channel = s.channel ∧ (State.endFinish s step).slots = s.slots ∧
    (State.endFinish s step).burst = s.burst := by
  refine ⟨?_, ?_, ?_, ?_, ?_, ?_, ?_, ?_⟩ <;>
    (unfold State.endFinish; (repeat' split) <;> first | rfl | simp)

@[simp] theorem State.endReread_frame (s : State) (ws : List Word) :
   (State.endReread s ws).bays = s.bays ∧ (State.endReread s ws).spindles = s.spindles ∧
    (State.endReread s ws).permitHolder = s.permitHolder ∧
    (State.endReread s ws).positioners = s.positioners ∧ (State.endReread s ws).maps = s.maps ∧
    (State.endReread s ws).channel = s.channel ∧ (State.endReread s ws).slots = s.slots ∧
    (State.endReread s ws).burst = s.burst ∧ (State.endReread s ws).entries = s.entries := by
  refine ⟨?_, ?_, ?_, ?_, ?_, ?_, ?_, ?_, ?_⟩ <;>
    (unfold State.endReread; (repeat' split) <;> first | rfl | simp)

@[simp] theorem State.endPoll_frame (s : State) (ws : List Word) :
   (State.endPoll s ws).bays = s.bays ∧ (State.endPoll s ws).spindles = s.spindles ∧
    (State.endPoll s ws).permitHolder = s.permitHolder ∧ (State.endPoll s ws).positioners = s.positioners ∧
    (State.endPoll s ws).maps = s.maps ∧ (State.endPoll s ws).channel = s.channel ∧
    (State.endPoll s ws).slots = s.slots ∧ (State.endPoll s ws).burst = s.burst ∧
    (State.endPoll s ws).entries = s.entries := by
  refine ⟨?_, ?_, ?_, ?_, ?_, ?_, ?_, ?_, ?_⟩ <;>
    (unfold State.endPoll; (repeat' split) <;> first | rfl | simp)

@[simp] theorem State.joinQueue_frame (s : State) (a : Nat) (t : TaskBlock) :
   (State.joinQueue s a t).bays = s.bays ∧ (State.joinQueue s a t).spindles = s.spindles ∧
    (State.joinQueue s a t).permitHolder = s.permitHolder ∧
    (State.joinQueue s a t).positioners = s.positioners ∧ (State.joinQueue s a t).maps = s.maps ∧
    (State.joinQueue s a t).channel = s.channel ∧ (State.joinQueue s a t).slots = s.slots ∧
    (State.joinQueue s a t).burst = s.burst := by
  simp [State.joinQueue]

@[simp] theorem State.endFaultWrite_frame (s : State) (f : LinkFault) :
   (State.endFaultWrite s f).bays = s.bays ∧ (State.endFaultWrite s f).spindles = s.spindles ∧
    (State.endFaultWrite s f).permitHolder = s.permitHolder ∧
    (State.endFaultWrite s f).positioners = s.positioners ∧ (State.endFaultWrite s f).maps = s.maps ∧
    (State.endFaultWrite s f).channel = s.channel ∧ (State.endFaultWrite s f).slots = s.slots ∧
    (State.endFaultWrite s f).burst = s.burst ∧ (State.endFaultWrite s f).entries = s.entries := by
  simp [State.endFaultWrite]

@[simp] theorem State.storeWords_frame (s : State) (x : Burst) :
   (State.storeWords s x).bays = s.bays ∧ (State.storeWords s x).spindles = s.spindles ∧
    (State.storeWords s x).permitHolder = s.permitHolder ∧
    (State.storeWords s x).positioners = s.positioners ∧ (State.storeWords s x).maps = s.maps ∧
    (State.storeWords s x).channel = s.channel ∧ (State.storeWords s x).slots = s.slots ∧
    (State.storeWords s x).burst = s.burst ∧ (State.storeWords s x).entries = s.entries := by
  simp [State.storeWords]

@[simp] theorem State.enterOffline_frame (s : State) :
   (State.enterOffline s).bays = s.bays ∧ (State.enterOffline s).spindles = s.spindles ∧
    (State.enterOffline s).permitHolder = s.permitHolder ∧
    (State.enterOffline s).positioners = s.positioners ∧ (State.enterOffline s).maps = s.maps ∧
    (State.enterOffline s).channel = s.channel ∧ (State.enterOffline s).slots = s.slots ∧
    (State.enterOffline s).burst = s.burst ∧ (State.enterOffline s).entries = s.entries := by
  simp [State.enterOffline]

@[simp] theorem State.raiseBoth_frame (s : State) :
   (State.raiseBoth s).bays = s.bays ∧ (State.raiseBoth s).spindles = s.spindles ∧
    (State.raiseBoth s).permitHolder = s.permitHolder ∧ (State.raiseBoth s).positioners = s.positioners ∧
    (State.raiseBoth s).maps = s.maps ∧ (State.raiseBoth s).channel = s.channel ∧
    (State.raiseBoth s).slots = s.slots ∧ (State.raiseBoth s).burst = s.burst ∧
    (State.raiseBoth s).entries = s.entries := by
  simp [State.raiseBoth]

@[simp] theorem State.returnFromHalted_frame (s : State) :
   (State.returnFromHalted s).bays = s.bays ∧ (State.returnFromHalted s).spindles = s.spindles ∧
    (State.returnFromHalted s).permitHolder = s.permitHolder ∧
    (State.returnFromHalted s).positioners = s.positioners ∧ (State.returnFromHalted s).maps = s.maps ∧
    (State.returnFromHalted s).channel = s.channel ∧ (State.returnFromHalted s).slots = s.slots ∧
    (State.returnFromHalted s).burst = s.burst ∧ (State.returnFromHalted s).entries = s.entries := by
  simp [State.returnFromHalted]

@[simp] theorem State.seekRecord_frame (s : State) (b : Bay) :
   (State.seekRecord s b).bays = s.bays ∧ (State.seekRecord s b).spindles = s.spindles ∧
    (State.seekRecord s b).permitHolder = s.permitHolder ∧ (State.seekRecord s b).channel = s.channel ∧
    (State.seekRecord s b).slots = s.slots ∧ (State.seekRecord s b).burst = s.burst := by
  simp [State.seekRecord]

@[simp] theorem State.beginRead_frame (s : State) (b : Bay) :
   (State.beginRead s b).bays = s.bays ∧ (State.beginRead s b).spindles = s.spindles ∧
    (State.beginRead s b).permitHolder = s.permitHolder ∧ (State.beginRead s b).slots = s.slots ∧
    (State.beginRead s b).burst = s.burst := by
  simp [State.beginRead]

end Sys2Proof.Machine
end

