-- ==== Sys2Proof/Laws/Clock.lean ====
section
/-!
SUPPORT. What the arbiters do after an event of a clock cycle (R45, R90), said once: nothing where no request
of bay 0 has met a grant of bay 1 made in the same cycle, and else the grant of bay 0 with bay 1 waiting.
-/

namespace Sys2Proof.Machine

/-- Where neither arbiter finds two requests together, an event of a cycle is what it is of a command. -/
theorem State.arbitrated_of_untied (start before after : State)
    (hp : State.permitTied start before after = false) (hc : State.channelTied start before after = false) :
    State.arbitrated start before after = after := by
  simp [State.arbitrated, hp, hc]

/-- A permit that was held at the start of the cycle is not arbitrated again in it. -/
theorem State.permitTied_of_held (start before after : State) (h : start.permitHolder ≠ none) :
    State.permitTied start before after = false := by
  simp [State.permitTied, h]

/-- A channel that was granted at the start of the cycle is not arbitrated again in it. -/
theorem State.channelTied_of_granted (start before after : State) (h : start.channel.grant ≠ none) :
    State.channelTied start before after = false := by
  simp [State.channelTied, h]

/-- The permit given to bay 0 leaves the channel as it was, so that the two arbiters do not meet. -/
theorem State.channelTied_permitToBay0 (start before after : State) :
    State.channelTied start before (State.permitToBay0 start after) = State.channelTied start before after := by
  simp [State.channelTied, State.permitToBay0]

/-- Everything the arbiters can make of an event of a cycle. -/
theorem State.arbitrated_cases (start before after : State) :
    State.arbitrated start before after = after ∨
      (State.permitTied start before after = true ∧
        State.arbitrated start before after = State.permitToBay0 start after) ∨
      (State.channelTied start before after = true ∧
        State.arbitrated start before after = settle settleFuel after.channelToBay0) ∨
      (State.permitTied start before after = true ∧ State.channelTied start before after = true ∧
        State.arbitrated start before after =
          settle settleFuel (State.permitToBay0 start after).channelToBay0) := by
  unfold State.arbitrated
  cases hp : State.permitTied start before after <;> cases hc : State.channelTied start before after <;>
    simp [hc, State.channelTied_permitToBay0]

/-- R45: bay 0 holds the permit and is STARTING, bay 1 waits and is PENDING with the permit's timers
stopped. -/
theorem State.permitToBay0_spec (start s : State) :
    let t := State.permitToBay0 start s
    t.permitHolder = some .bay0 ∧ t.permitWaiting = some .bay1 ∧ (t.spindle .bay0).phase = .starting ∧
      (t.spindle .bay1).phase = .pending ∧ (t.spindle .bay1).startTimer = none ∧
      (t.spindle .bay1).spinUpTimer = none ∧ (t.spindle .bay1).dutyStaging = 0 ∧
      (t.spindle .bay1).activeTarget = (start.spindle .bay1).activeTarget := by
  simp [State.permitToBay0, State.grantPermit, State.spindle, PerBay.get_update, startingEntered, grantWithdrawn,
    stoppedEntered]

/-- R45: the blocks that the permit's arbiter leaves as they were. -/
theorem State.permitToBay0_frame (start s : State) :
    let t := State.permitToBay0 start s
    t.bays = s.bays ∧ t.positioners = s.positioners ∧ t.maps = s.maps ∧ t.channel = s.channel ∧
      t.slots = s.slots ∧ t.burst = s.burst ∧ t.entries = s.entries := by
  simp [State.permitToBay0]

/-- R90: bay 0 holds the channel, and bay 1 waits for it. -/
theorem State.channelToBay0_spec (s : State) :
    s.channelToBay0.channel.grant = some .bay0 ∧ s.channelToBay0.channel.waiting = some .bay1 := by
  unfold State.channelToBay0 State.grantChannel
  split
  · simp
  · split <;> simp [State.beginSearch]

end Sys2Proof.Machine
end

