-- ==== Sys2Proof/Laws/Memory.lean ====
section
/-!
SUPPORT. The laws of host memory as the part has written it: every operation keeps the canonical form,
and what a write leaves at each address.
-/

namespace Sys2Proof.Machine

/-- The canonical form of a list with a first cell: the rest is in it, and every cell of it lies above. -/
theorem Memory.wf_cons (c : Host.Cell) (m : Memory) :
    Memory.wf (c :: m) = true ↔ Memory.wf m = true ∧ ∀ d ∈ m.head?, c.1 < d.1 := by
  cases m with
  | nil => simp [Memory.wf]
  | cons d rest => simp [Memory.wf, and_comm]

/-- The first cell after a write is the one written or the one that stood first. -/
theorem Memory.head_write (m : Memory) (a : Nat) (v : Byte) :
    ∀ d ∈ (m.write a v).head?, d.1 = a ∨ d ∈ m.head? := by
  cases m with
  | nil => simp [Memory.write]
  | cons c rest =>
    unfold Memory.write
    split
    · simp
    · split <;> simp

/-- A write keeps the canonical form. -/
theorem Memory.wf_write (m : Memory) (a : Nat) (v : Byte) (h : m.wf = true) :
    (m.write a v).wf = true := by
  induction m with
  | nil => rfl
  | cons c rest ih =>
    obtain ⟨h1, h2⟩ := (Memory.wf_cons c rest).mp h
    unfold Memory.write
    split
    · rename_i e
      exact (Memory.wf_cons _ _).mpr ⟨h1, fun d hd => e ▸ h2 d hd⟩
    · split
      · rename_i lt
        exact (Memory.wf_cons _ _).mpr ⟨h, fun d hd => by
          simp only [List.head?_cons, Option.mem_def, Option.some.injEq] at hd
          exact hd ▸ lt⟩
      · refine (Memory.wf_cons _ _).mpr ⟨ih h1, fun d hd => ?_⟩
        rcases Memory.head_write rest a v d hd with e | hd
        · omega
        · exact h2 d hd

/-- Writing bytes keeps the canonical form. -/
theorem Memory.wf_writeBytes (m : Memory) (a : Nat) (bs : List Byte) (h : m.wf = true) :
    (m.writeBytes a bs).wf = true := by
  induction bs generalizing m a with
  | nil => exact h
  | cons b bs ih => exact ih _ _ (Memory.wf_write m _ b h)

/-- The memory after reset is in canonical form. -/
theorem Memory.wf_reset : State.reset.hostMem.wf = true := rfl

/-- The words a burst writes keep the canonical form. -/
theorem State.storeWords_wf (s : State) (x : Burst) (h : s.hostMem.wf = true) :
    (s.storeWords x).hostMem.wf = true := Memory.wf_writeBytes _ _ _ h

end Sys2Proof.Machine
end

