-- ==== Sys2Proof/Laws/Settle.lean ====
section
/-!
SUPPORT. What an instant's end is: an induction over the waits made once, the case where nothing waits,
and what the last two updates of an instant leave.
-/

namespace Sys2Proof.Machine

/-- The first wait that answers is one of the list. -/
theorem firstWait_some (s t : State) (fs : List (State → Option State)) (h : firstWait s fs = some t) :
    ∃ f ∈ fs, f s = some t := by
  induction fs with
  | nil => cases h
  | cons f fs ih =>
    unfold firstWait at h
    split at h
    · rename_i u hu
      exact ⟨f, List.mem_cons_self, hu.trans h⟩
    · obtain ⟨g, hg, e⟩ := ih h
      exact ⟨g, List.mem_cons_of_mem _ hg, e⟩

/-- No wait of a list has ended exactly when each answers nothing. -/
theorem firstWait_none (s : State) (fs : List (State → Option State)) :
    firstWait s fs = none ↔ ∀ f ∈ fs, f s = none := by
  induction fs with
  | nil => simp [firstWait]
  | cons f fs ih =>
    unfold firstWait
    cases h : f s <;> simp [h, ih]

/-- What every wait keeps, an instant's waits keep. -/
theorem settle_keeps (P : State → Prop)
    (h : ∀ f ∈ waits, ∀ s t, f s = some t → P s → P t) (n : Nat) (s : State) (hs : P s) :
    P (settle n s) := by
  induction n generalizing s with
  | zero => exact hs
  | succ n ih =>
    unfold settle
    split
    · rename_i t ht
      obtain ⟨f, hf, e⟩ := firstWait_some s t waits ht
      exact ih t (h f hf s t e hs)
    · exact hs

/-- Where no wait has ended, none goes on. -/
theorem settle_of_settled (n : Nat) (s : State) (h : s.Settled) : settle n s = s := by
  cases n with
  | zero => rfl
  | succ n =>
    unfold settle
    rw [h]

/-- The instant's end of a settled state is the interlocks, the timers by condition and the output lines. -/
theorem instantEnd_of_settled (s : State) (h : s.Settled) : s.instantEnd = s.closed := by
  unfold State.instantEnd
  rw [settle_of_settled _ _ h]

/-- R21: after an update the idle timer runs where its conditions hold and it is not spent. -/
theorem idleUpdated_runs (holds : Bool) (c : BayControl) :
    (idleUpdated holds c).idle.isSome = (holds && !(idleUpdated holds c).idleSpent) := by
  obtain ⟨⟩ | ⟨⟩ := holds <;> cases h : c.idleSpent <;> simp [idleUpdated, timerWhile, h]

@[simp] theorem timersUpdated_standing (s : State) : s.timersUpdated.standing = s.standing := rfl

@[simp] theorem linesUpdated_standing (s : State) : s.linesUpdated.standing = s.standing := rfl

@[simp] theorem gateInterlocked_standing (s : State) : s.gateInterlocked.standing = s.standing := by
  unfold State.gateInterlocked
  repeat' split
  all_goals simp

@[simp] theorem ejectInterlocked_standing (s : State) (b : Bay) :
    (s.ejectInterlocked b).standing = s.standing := by
  unfold State.ejectInterlocked
  split
  · exact State.standing_modBay _ _ _ rfl
  · rfl

@[simp] theorem closed_standing (s : State) : s.closed.standing = s.standing := by
  simp [State.closed, State.interlocked]

/-- With the write gate and both Eject solenoids off, the interlocks change nothing. -/
theorem interlocked_of_off (s : State) (hg : s.channel.writeGate = false)
    (he : ∀ b, (s.bay b).eject = false) : s.interlocked = s := by
  have gate : s.gateInterlocked = s := by simp [State.gateInterlocked, hg]
  have eject (b : Bay) : s.ejectInterlocked b = s := by simp [State.ejectInterlocked, he b]
  simp [State.interlocked, gate, eject]

/-- A command of the block is an event taken at the next instant, and the instant's end. -/
theorem perform_eq (f : State → State) (s : State) : perform f s = (f s.nextInstant).instantEnd := rfl

end Sys2Proof.Machine
end

