-- ==== Sys2Proof/WellFormed.lean ====
section
/-!
DEFINITION. The commands that can be met: an unknown command's code is none of the five known ones
(R156), and the time a mark or a crossing brings fits the timer it is read from (R26, R65).
-/

namespace Sys2Proof

/-- R156: the five command codes are 1 to 5. -/
def knownCode (code : Word) : Bool := decide (1 ≤ code.toNat) && decide (code.toNat ≤ 5)

/-- Whether a command's operands lie in the ranges their rules give them. -/
def Instr.wellFormed : Instr → Bool
  | .unknownCommand code => !knownCode code
  | .tachMark _ elapsed => decide (elapsed ≤ Config.markTop)
  | .trackCrossing _ _ elapsed => decide (elapsed ≤ Config.crossingSilence)
  | .indexPulse _ elapsed => decide (elapsed ≤ Config.markTop)
  | .start | .attention | .abort | .goOffline | .partReset | .statusRead | .busReset => true
  | .anchorWrite _ _ | .supplyLowAccepted | .supplyRecovery | .resetInProgressEnd => true
  | .presentAcceptedTrue _ | .presentAcceptedFalse _ | .presentDecided _ _ => true
  | .writeProtectAccepted _ _ | .ejectButtonPress _ | .ejectButtonReleased _ => true
  | .parkDetectAcceptedTrue _ | .parkDetectAcceptedFalse _ | .outerGuardAccepted _ _ => true
  | .crossingError _ | .crossingTimerExpiry _ | .velocityRecompute _ | .settleTimeEnd _ => true
  | .onTrackCountReached _ | .settleLimitExpiry _ | .seekLimitExpiry _ => true
  | .recalibrateTimerExpiry _ | .stopLimitExpiry _ | .loadFault _ | .retractLimitExpiry _ => true
  | .parkHoldEnd _ | .startTimerExpiry _ | .spinUpLimitExpiry _ | .markSilence _ => true
  | .driftTimerExpiry _ | .stopTimerExpiry _ | .pwmPeriodBoundary _ | .indexMissing _ => true
  | .idField _ | .dataFieldReadEnd _ | .dataFieldWriteEnd | .layingEnd | .dmaGrant => true
  | .burstComplete _ | .pollTimerExpiry | .refreshTimerExpiry _ | .pulseTimerExpiry _ => true
  | .leaveTimerExpiry _ | .startBoundTimerExpiry _ | .retryTimerExpiry _ => true
  | .idleTimerExpiry _ => true

end Sys2Proof
end

