-- ==== Sys2Proof/Tests/Slice0.lean ====
section
/-!
SUPPORT. Tests of the model, each on one operation or one step, with expected values from the spec's own
worked figures and tables; and for each statement that has hypotheses a witness: a concrete state and
operands that meet them.
-/

namespace Sys2Proof.Tests

set_option Elab.async false

open Sys2Proof.Machine

/-- Whether an outcome is a next state of which `p` holds. -/
def nextIs (o : Host.Outcome State Fault Refusal) (p : State → Bool) : Bool :=
  match o with
  | .next t => p t
  | _ => false

/-! ### Well-formed commands -/

theorem test_start_code_is_no_unknown_command : (Instr.unknownCommand 1).wellFormed = false := by decide
theorem test_part_reset_code_is_no_unknown_command :
    (Instr.unknownCommand 5).wellFormed = false := by decide
theorem test_code_six_is_unknown : (Instr.unknownCommand 6).wellFormed = true := by decide
theorem test_mark_beyond_its_timer_refused :
    (Instr.tachMark .bay0 1048576).wellFormed = false := by decide
theorem test_crossing_beyond_its_timer_refused :
    (Instr.trackCrossing .bay0 .inward 2001).wellFormed = false := by decide
theorem test_index_beyond_its_timer_refused :
    (Instr.indexPulse .bay1 1048576).wellFormed = false := by decide

/-- Spec/11 section 11.8: the five command codes. -/
theorem test_command_codes :
    commandOfCode 1 = .start ∧ commandOfCode 2 = .attention ∧ commandOfCode 3 = .abort ∧
      commandOfCode 4 = .goOffline ∧ commandOfCode 5 = .partReset ∧
      commandOfCode 0 = .unknownCommand 0 := by decide

/-- Spec/11 section 11.8: the words that a write of the Command/Status port spells its command with. -/
theorem test_port_words :
    decodeTableWord 16 1 = some .start ∧ decodeTableWord 16 2 = some .attention ∧
      decodeTableWord 16 3 = some .abort ∧ decodeTableWord 16 4 = some .goOffline ∧
      decodeTableWord 16 5 = some .partReset ∧ decodeTableWord 16 0xFFFF = some (.unknownCommand 0xFFFF) ∧
      decodeTableWord 8 1 = none := by decide

/-! ### Worked figures of the spec -/

/-- R28: eight periods of 2,083 µs, and spec/02's P_rev of 16,800 µs. -/
theorem test_measured_speed :
    measuredSpeed (List.replicate 8 2083) = 57609 ∧ measuredSpeed (List.replicate 8 2100) = 57142 ∧
      measuredSpeed (List.replicate 7 2083) = 0 := by decide

/-- R39: Fly Speed at the default and at the two ends of Target Speed. -/
theorem test_fly_speed : flySpeed 3600 = 50400 ∧ flySpeed 1800 = 25200 ∧ flySpeed 4200 = 58800 := by
  decide

/-- Spec/02, worked cases of the law: below speed in band. -/
theorem test_law_below_speed :
    lawDuty .default 20480 458 = 877 ∧ lawIntegrator .default 20480 458 = 23228 := by decide

/-- Spec/02, worked cases of the law: early acceleration, at the ceiling. -/
theorem test_law_at_ceiling :
    rawDuty .default 20480 (clampedError (speedError 3600 20000)) = 25298 ∧
      lawDuty .default 20480 (clampedError (speedError 3600 20000)) = 1023 ∧
      lawIntegrator .default 20480 (clampedError (speedError 3600 20000)) = 20480 := by decide

/-- Spec/02, worked cases of the law: overshoot, at the floor. -/
theorem test_law_at_floor :
    rawDuty .default 0 (clampedError (speedError 3600 62000)) = -2814 ∧
      lawDuty .default 0 (-4400) = 0 ∧ lawIntegrator .default 0 (-4400) = 0 := by decide

/-- Spec/02, worked cases of the law: a small negative error rounds down. -/
theorem test_law_small_negative :
    lawDuty .default (-2000) (-1) = 509 ∧ lawIntegrator .default (-2000) (-1) = -2006 := by decide

/-- R66 and spec/03, worked figures for the loop: V by distance. -/
theorem test_profile_velocity :
    profileVelocity defaultProfile 400 = 192 ∧ profileVelocity defaultProfile 100 = 167 ∧
      profileVelocity defaultProfile 10 = 53 ∧ profileVelocity defaultProfile 3 = 29 ∧
      profileVelocity defaultProfile 1 = 16 ∧ profileVelocity [⟨4, 40⟩, ⟨8, 50⟩] 3 = 30 := by decide

/-- Spec/03, worked figures for the loop: Vmeas by interval, and A. -/
theorem test_current_demand :
    crossingVelocity 83 = 192 ∧ crossingVelocity 106 = 150 ∧ crossingVelocity 900 = 17 ∧
      currentDemand 24 192 192 = 0 ∧ currentDemand 24 167 150 = 25 ∧ currentDemand 24 53 100 = -71 ∧
      currentDemand 24 29 32 = -5 ∧ currentDemand 24 16 17 = -2 := by decide

/-- R104 with spec/12: homes and spares. -/
theorem test_translation :
    homeSector 200 = ⟨3, 0, 8⟩ ∧ homeSector 1000 = ⟨15, 1, 8⟩ ∧ homeSector 2000 = ⟨31, 0, 16⟩ ∧
      homeSector 40447 = ⟨631, 1, 31⟩ ∧ spareSector 70 = ⟨633, 0, 6⟩ ∧
      translate [⟨200, 70⟩] 200 = ⟨633, 0, 6⟩ ∧ translate [⟨200, 70⟩] 201 = ⟨3, 0, 9⟩ := by decide

/-- R155: the status bits of an idle part are all clear. -/
theorem test_status_word_after_reset : State.reset.statusWord = 0 := by decide

/-- Spec/03, worked figures for the loop: the overshoot to cylinder 23. -/
theorem test_overshoot_drives_back :
    loopDac { Positioner.reset with
      state := .seeking, counter := 23, target := 22, vmeas := 26, lastDirection := .inward } = -63 := by
  decide

/-- Spec/09 section 9.5: a record with three faults. -/
theorem test_record_with_three_faults :
    takeSettings .default (settingsBytes { Settings.default with
        targetSpeed := 5000, hysteresis := 10, idleLimit := 6, retryLimit := 5
        profile := [⟨1, 16⟩, ⟨2, 24⟩, ⟨4, 34⟩, ⟨8, 30⟩, ⟨16, 68⟩, ⟨32, 96⟩, ⟨64, 136⟩, ⟨128, 192⟩] }) =
      ({ Settings.default with targetSpeed := 4200, hysteresis := 16, idleLimit := 6, retryLimit := 5 }, 3) := by
  decide +kernel

/-- R101: the table of the first twelve positions for k = 3 and k = 4. -/
theorem test_interleave_table :
    (interleave 3).take 12 = [0, 11, 22, 1, 12, 23, 2, 13, 24, 3, 14, 25] ∧
      (interleave 4).take 12 = [0, 8, 16, 24, 1, 9, 17, 25, 2, 10, 18, 26] ∧
      interleave 1 = List.range 32 := by decide +kernel

/-! ### States for the tests -/

/-- A spindle LOCKED at 3,600 rpm. -/
def turning : Spindle :=
  { Spindle.reset with
    phase := .locked, history := List.replicate 8 2083, markTimer := some 0, speed := 57609
    dutyStaging := 600, dutyActive := 600, pwm := true, indexArmed := true, indexSince := some 0 }

/-- Heads FOLLOWING on cylinder 3. -/
def following : Positioner :=
  { Positioner.reset with state := .following, counter := 3, target := 3, known := true, followEnable := true }

/-- A bay that is LOCKED with its cartridge present. -/
def lockedBay : BayControl :=
  { BayControl.reset with present := ⟨true, 0⟩, state := .locked, lock := true, generation := 1 }

/-- Bay 0 ready with a mounted cartridge, bay 1 EMPTY, the link RUNNING with its anchor at 4,096. -/
def ready : State :=
  { State.reset with
    bays := ⟨lockedBay, .reset⟩
    spindles := ⟨turning, .reset⟩
    positioners := ⟨following, .reset⟩
    maps := ⟨{ DefectMap.reset with status := .valid }, .reset⟩
    ports := ⟨4096#32, false, 0#16⟩
    link := { Link.reset with state := .running } }

/-- One record of bay 0 of a state changed. -/
def withBay (f : BayControl → BayControl) (s : State) : State := { s with bays := s.bays.update .bay0 f }
def withSpindle (f : Spindle → Spindle) (s : State) : State :=
  { s with spindles := s.spindles.update .bay0 f }
def withHeads (f : Positioner → Positioner) (s : State) : State :=
  { s with positioners := s.positioners.update .bay0 f }
def withMap (f : DefectMap → DefectMap) (s : State) : State := { s with maps := s.maps.update .bay0 f }
def withLink (f : Link → Link) (s : State) : State := { s with link := f s.link }

/-- An ACTIVE task on bay 0 at LSN 200 (3/0/8), Count 2, with its buffer at 8,192, at the channel. -/
def task (kind : Nat) : Entry where
  id := 0
  block := ⟨kind, 0, 0#8, 0, 200, 2, 0, 0, 8192, 0⟩
  blockAddress := 256
  state := .active
  aborted := false
  ending := none
  sectorsDone := 0
  detail := 0
  retriesUsed := 0
  stage := .atChannel
  waits := .both .passed
  next := 0
  fetching := kind == 2
  fetched := 2
  half := .reading
  groupStart := 0
  groupLength := 0
  run := some ⟨.bay0, 3, 0, [⟨some 200, 8⟩, ⟨some 201, 9⟩]⟩
  order := .idle
  orderBay := .bay0
  awaitStop := none
  waitedMount := true

/-- `ready` with one task in the queue. -/
def withTask (e : Entry) (s : State) : State :=
  { s with
    entries := [e], nextId := 1, counts := { s.counts with taken := 1 }
    hostFields := { s.hostFields with posted := 1 } }

/-- Bay 0 granted the channel for that task, searching for 3/0/8. -/
def searching (kind : Nat) : State :=
  { withTask (task kind) ready with
    channel := { Channel.reset with
      grant := some .bay0, search := .searching, target := some ⟨3, 0, 8⟩, readGate := true } }

/-- Slot 0 of the pool changed. -/
def withSlot (f : Slot → Slot) (s : State) : State := { s with slots := s.slots.modify 0 f }

/-- The first slot taken for that task's first sector. -/
def sectorSlot (state : SlotState) (purpose : Purpose) (x : Slot) : Slot :=
  { x with
    state := state, owner := some (.task 0), purpose := some purpose, sector := .lsn 200
    hostAddress := some 8192 }

/-- The task reading, and writing, the field of LSN 200. -/
def reading (kind : Nat) (purpose : Purpose) : State :=
  withSlot (sectorSlot .filling purpose)
    { searching kind with channel := { (searching kind).channel with search := .reading, slot := some 0 } }
def writing : State :=
  withSlot (sectorSlot .draining .write)
    { searching 2 with
      channel := { (searching 2).channel with
        search := .writing, slot := some 0, writeGate := true, readGate := false } }

/-- A Format Track of 3/0 with interleave 1 that holds the channel. -/
def formatting (step : FormatStep) : State :=
  let e := { task 11 with block := { (task 11).block with address := 16777219 }, run := some ⟨.bay0, 3, 0, []⟩ }
  { withTask e ready with
    channel := { Channel.reset with
      grant := some .bay0, search := .formatting, format := step
      writeGate := step == .laying, readGate := step != .laying } }

/-- A field of zero bytes with its check (R87), and one without the data mark. -/
def zeroField : DataField :=
  ⟨0x6A#8, Vector.replicate 512 0#8, crc32 (0x6A#8 :: List.replicate 512 0#8)⟩
def badField : DataField := { zeroField with mark := 0x5C#8 }

set_option maxRecDepth 20000 in
theorem test_zero_field_passes : dataPasses zeroField = true := by decide +kernel

/-- The ID field of a sector. -/
def idOf (cylinder head sector : Nat) : IdField :=
  let bytes := [0x5C#8, BitVec.ofNat 8 (cylinder / 256), BitVec.ofNat 8 cylinder, BitVec.ofNat 8 head,
    BitVec.ofNat 8 sector, 0#8]
  ⟨0x5C#8, BitVec.ofNat 8 (cylinder / 256), BitVec.ofNat 8 cylinder, BitVec.ofNat 8 head,
    BitVec.ofNat 8 sector, 0#8, crc16 bytes⟩

/-- A burst in progress. -/
def bursting (work : BurstWork) (address : Nat) (words : List Word) (s : State) : State :=
  { s with burst := some ⟨work, address, words, false⟩ }

/-- A Spin Down of bay 0 at a stage of its own, its heads RETRACTING and its spindle STOPPING. -/
def coasting (stage : Stage) : State :=
  withTask { task 8 with
      stage := stage, run := none, order := if stage = .parking then .outstanding else .idle }
    (withHeads (fun p => { p with state := .retracting, retractTimer := some 10, order := some ⟨.park, .task 0⟩ })
      (withSpindle (fun q => { q with phase := .stopping, stopTimer := some 499 }) ready))

/-! ### One step of each command -/

theorem test_start_runs :
    nextIs (exec .start { State.reset with ports := ⟨4096#32, false, 0#16⟩ })
      (fun t => t.link.state == .running && t.link.attentionHeld && t.link.startWrite) = true := by decide +kernel
theorem test_start_refuses_zero_anchor :
    nextIs (exec .start State.reset) (fun t => t.link.state == .offline && t.ports.badCommand) = true := by
  decide +kernel
theorem test_attention_clears_link_fault :
    nextIs (exec .attention { withLink (fun l => { l with state := .stalled }) ready with
        counts := { Counts.reset with fault := .countSkew } })
      (fun t => t.link.state == .running && t.counts.fault == .none && t.link.attentionHeld) = true := by
  decide +kernel
theorem test_abort_ends_a_searching_read :
    nextIs (exec .abort (searching 1))
      (fun t => (t.entry? 0).map Entry.ending == some (some .aborted) && t.channel.grant == none) = true := by
  decide +kernel
/-- R81: a Stop order in SEEKING is a controlled stop, also where the Seek in progress was left by a task
that has ended. -/
theorem test_abort_stops_a_seek_left_by_another :
    nextIs (exec .abort (withHeads (fun p =>
        { p with
          state := .seeking, target := 100, vmeas := 100
          order := some ⟨.seek 100 0, .task 7⟩, held := some ⟨.seek 3 0, .task 0⟩ })
        (withTask { task 1 with stage := .positioning, order := .outstanding } ready)))
      (fun t => (t.positioner .bay0).state == .stopping && (t.positioner .bay0).order == none &&
        (t.positioner .bay0).held == none &&
        (t.entry? 0).map (fun e => (e.ending, e.awaitStop)) == some (some .aborted, some .bay0)) = true := by
  decide +kernel
theorem test_go_offline_with_empty_queue :
    nextIs (exec .goOffline ready) (fun t => t.link.state == .offline) = true := by decide +kernel
theorem test_part_reset_shows :
    nextIs (exec .partReset ready)
      (fun t => t.resetInProgress && (t.positioner .bay0).state == .retracting) = true := by decide +kernel
/-- R175: a take in progress runs to its end. -/
theorem test_part_reset_keeps_a_link_read :
    nextIs (exec .partReset (withLink (fun l => { l with fetch := .readLink }) ready))
      (fun t => t.resetInProgress && t.link.fetch == .readLink) = true := by decide +kernel
theorem test_unknown_command :
    nextIs (exec (.unknownCommand 6) ready) (fun t => t.ports.badCommand) = true := by decide +kernel
theorem test_anchor_write_while_running :
    nextIs (exec (.anchorWrite .low 16) ready)
      (fun t => t.ports.anchor == 4096#32 && t.ports.badCommand) = true := by decide +kernel
theorem test_anchor_high_write :
    nextIs (exec (.anchorWrite .high 0x12#16) { State.reset with ports := ⟨0x3450#32, false, 0#16⟩ })
      (fun t => t.ports.anchor == 0x123450#32) = true := by decide +kernel
theorem test_status_read_clears_bad_command :
    nextIs (exec .statusRead { ready with ports := { ready.ports with badCommand := true } })
      (fun t => t.ports.dataOut == 33#16 && !t.ports.badCommand) = true := by decide +kernel
theorem test_bus_reset_empties_the_queue :
    nextIs (exec .busReset (searching 1))
      (fun t => t.entries == [] && t.channel == .reset && t.ports.anchor == 0#32) = true := by decide +kernel
/-- Spec/12 section 12.4: Supply Low accepted during a write. -/
theorem test_supply_low_during_a_write :
    nextIs (exec .supplyLowAccepted writing)
      (fun t => (t.bay .bay0).state == .seated && !t.channel.writeGate &&
        (t.positioner .bay0).state == .retracting && (t.spindle .bay0).phase == .stopping &&
        (t.spindle .bay0).brakeDeferred && t.link.state == .halted &&
        (t.entry? 0).map Entry.ending == some (some .powerLoss)) = true := by decide +kernel
/-- R162: a take not yet at step 1 when the link leaves RUNNING is not made, its link read in progress or not. -/
theorem test_supply_low_withdraws_a_link_read :
    nextIs (exec .supplyLowAccepted (bursting .readLink 4096 [] (withLink (fun l => { l with fetch := .readLink })
        ready)))
      (fun t => t.link.state == .halted && t.link.fetch == .idle && t.burst.isSome) = true := by decide +kernel
/-- Spec/12 section 12.4: at recovery the link is RUNNING again with Attention held. -/
theorem test_supply_recovery :
    nextIs (exec .supplyRecovery { State.reset with
        supply := ⟨true, 0, some 100⟩
        link := { Link.reset with state := .halted, haltedFrom := .running } })
      (fun t => !t.supply.accepted && t.link.state == .running && t.link.attentionHeld) = true := by decide +kernel
/-- R175: a take in progress runs to its end before Reset in Progress does. -/
theorem test_reset_waits_for_a_take :
    nextIs (exec .resetInProgressEnd
        (withLink (fun l => { l with state := .running, fetch := .writeCursor })
          { State.reset with resetInProgress := true }))
      (fun t => t.resetInProgress && t.link.fetch == .writeCursor) = true := by decide +kernel
/-- Spec/12 section 12.4: the bays take their first sample at the tick after the recovery. -/
theorem test_recovery_tick_takes_no_sample :
    nextIs (step (withBay (fun c => { c with sensing := false })
        { ready with
          cycle := 7999, supply := ⟨true, 0, some 99⟩
          pins := { ready.pins with bays := ⟨{ BayPins.idle with present := true }, .idle⟩ } }))
      (fun t => (t.bay .bay0).sensing && (t.bay .bay0).present.run == 0) = true := by decide +kernel
theorem test_reset_in_progress_ends :
    nextIs (exec .resetInProgressEnd { State.reset with resetInProgress := true, ports := ⟨16#32, true, 0⟩ })
      (fun t => !t.resetInProgress && t.ports.anchor == 0#32 && !t.ports.badCommand) = true := by decide +kernel
/-- Spec/12 section 12.1, first row. -/
theorem test_insertion :
    nextIs (exec (.presentAcceptedTrue .bay0)
        (withBay (fun c => { c with parkDetect := ⟨true, 0⟩ }) State.reset))
      (fun t => (t.bay .bay0).state == .locked && (t.spindle .bay0).phase == .starting &&
        (t.bay .bay0).generation == 1 && t.permitHolder == some .bay0) = true := by decide +kernel
theorem test_insertion_with_heads_off_ramp :
    nextIs (exec (.presentAcceptedTrue .bay1) State.reset)
      (fun t => (t.bay .bay1).state == .fault && (t.bay .bay1).faultClass == .headsOffRamp) = true := by
  decide +kernel
theorem test_unexpected_removal :
    nextIs (exec (.presentAcceptedFalse .bay0) ready)
      (fun t => (t.bay .bay0).state == .empty && (t.bay .bay0).faultClass == .unexpectedRemoval &&
        (t.positioner .bay0).state == .retracting && (t.spindle .bay0).phase == .stopping) = true := by
  decide +kernel
theorem test_undecided_present_false :
    nextIs (exec (.presentDecided .bay0 false)
        (withBay (fun c => { c with state := .seated, presentUndecided := true }) State.reset))
      (fun t => (t.bay .bay0).state == .empty) = true := by decide +kernel
theorem test_write_protect_cuts_a_write :
    nextIs (exec (.writeProtectAccepted .bay0 true) writing)
      (fun t => !t.channel.writeGate && (t.entry? 0).map Entry.ending == some (some .writeProtected)) =
        true := by decide +kernel
/-- Spec/12 section 12.2: a press while the gate is asserted is held. -/
theorem test_press_held_by_the_gate :
    nextIs (exec (.ejectButtonPress .bay0) writing)
      (fun t => (t.bay .bay0).state == .locked && t.channel.heldPress == some .bay0 &&
        t.channel.writeGate) = true := by decide +kernel
theorem test_press_releases :
    nextIs (exec (.ejectButtonPress .bay0) ready)
      (fun t => (t.bay .bay0).state == .releasing .ejecting && (t.map .bay0).status == .none &&
        (t.positioner .bay0).state == .retracting) = true := by decide +kernel
/-- R11, R76: a release whose actuator is in FAULT retracts first. -/
theorem test_press_with_heads_in_fault :
    nextIs (exec (.ejectButtonPress .bay0) (withHeads (fun p => { p with state := .fault, known := false }) ready))
      (fun t => (t.bay .bay0).state == .releasing .ejecting &&
        (t.positioner .bay0).state == .retracting) = true := by decide +kernel
theorem test_release_is_no_event :
    nextIs (exec (.ejectButtonReleased .bay0) (withBay (fun c => { c with button := ⟨true, 0⟩ }) ready))
      (fun t => !(t.bay .bay0).button.accepted && (t.bay .bay0).state == .locked) = true := by decide +kernel
theorem test_park_detect_starts_the_hold :
    nextIs (exec (.parkDetectAcceptedTrue .bay0)
        (withHeads (fun p => { p with state := .retracting, retractTimer := some 10, retract := true }) ready))
      (fun t => (t.positioner .bay0).parkHold == some 0 && (t.positioner .bay0).retractTimer == some 10) =
        true := by decide +kernel
theorem test_park_detect_lost_in_parked :
    nextIs (exec (.parkDetectAcceptedFalse .bay0)
        (withBay (fun c => { c with parkDetect := ⟨true, 0⟩ }) State.reset))
      (fun t => (t.positioner .bay0).state == .retracting && (t.positioner .bay0).dac == -80) = true := by
  decide +kernel
/-- Spec/12 section 12.1: the recalibrate edge goes to SETTLING on 0. -/
theorem test_recalibrate_edge :
    nextIs (exec (.outerGuardAccepted .bay0 false) (withHeads (fun p =>
        { p with
          state := .recalibrating, recalLeg := .inward, counter := 7, known := false
          outerGuard := ⟨true, 0⟩, recalTimer := some 20, order := some ⟨.loadRecalibrate, .bay⟩ }) ready))
      (fun t => (t.positioner .bay0).state == .settling && (t.positioner .bay0).counter == 0 &&
        (t.positioner .bay0).known) = true := by decide +kernel
/-- Spec/03, worked figures for the loop: the short seek from 12 to 22. -/
theorem test_short_seek_crossing :
    nextIs (exec (.trackCrossing .bay0 .inward 400) (withHeads (fun p =>
        { p with
          state := .seeking, counter := 12, target := 22, seekTimer := some 0, crossTimer := 0
          order := some ⟨.seek 22 0, .task 0⟩ }) ready))
      (fun t => (t.positioner .bay0).counter == 13 && (t.positioner .bay0).vmeas == 40 &&
        (t.positioner .bay0).dac == 15) = true := by decide +kernel
theorem test_seek_reaches_its_target :
    nextIs (exec (.trackCrossing .bay0 .inward 900) (withHeads (fun p =>
        { p with
          state := .seeking, counter := 21, target := 22, seekTimer := some 0, crossTimer := 0
          order := some ⟨.seek 22 0, .task 0⟩ }) ready))
      (fun t => (t.positioner .bay0).state == .settling && (t.positioner .bay0).dac == 0 &&
        (t.positioner .bay0).followEnable) = true := by decide +kernel
theorem test_crossing_error_in_seeking :
    nextIs (exec (.crossingError .bay0) (withHeads (fun p =>
        { p with state := .seeking, vmeas := 40, target := 22, seekTimer := some 0 }) ready))
      (fun t => !(t.positioner .bay0).known && (t.bay .bay0).faultClass == .seekFault) = true := by
  decide +kernel
theorem test_silence_zeroes_vmeas :
    nextIs (exec (.crossingTimerExpiry .bay0) (withHeads (fun p => { p with vmeas := 40 }) ready))
      (fun t => (t.positioner .bay0).vmeas == 0) = true := by decide +kernel
/-- Spec/03, worked figures for the loop: the seek's first demand, with the heads still. -/
theorem test_first_demand :
    nextIs (exec (.velocityRecompute .bay0) (withHeads (fun p =>
        { p with state := .seeking, counter := 12, target := 22, seekTimer := some 0 }) ready))
      (fun t => (t.positioner .bay0).dac == 79) = true := by decide +kernel
theorem test_settle_time_ends :
    nextIs (exec (.settleTimeEnd .bay0) (withHeads (fun p =>
        { p with state := .settling, settleWait := some 0, settleLimit := some 3 }) ready))
      (fun t => (t.positioner .bay0).sampling) = true := by decide +kernel
theorem test_on_track_ends_the_seek :
    nextIs (exec (.onTrackCountReached .bay0) (withHeads (fun p =>
        { p with
          state := .settling, sampling := true, settleLimit := some 4, seekTimer := some 9
          order := some ⟨.seek 3 0, .bay⟩ }) ready))
      (fun t => (t.positioner .bay0).state == .following && (t.positioner .bay0).seekTimer == none &&
        (t.positioner .bay0).order == none) = true := by decide +kernel
theorem test_settle_limit_is_a_seek_fault :
    nextIs (exec (.settleLimitExpiry .bay0) (withHeads (fun p =>
        { p with state := .settling, settleLimit := some 20, order := some ⟨.seek 3 0, .bay⟩ }) ready))
      (fun t => (t.bay .bay0).faultClass == .seekFault && (t.positioner .bay0).reseekUsed) = true := by
  decide +kernel
theorem test_seek_limit_with_the_retry_used :
    nextIs (exec (.seekLimitExpiry .bay0) (withHeads (fun p =>
        { p with
          state := .seeking, target := 9, vmeas := 40, seekTimer := some 100, reseekUsed := true
          order := some ⟨.seek 9 0, .bay⟩ }) ready))
      (fun t => (t.positioner .bay0).state == .stopping && (t.positioner .bay0).order == none) = true := by
  decide +kernel
theorem test_recalibrate_limit :
    nextIs (exec (.recalibrateTimerExpiry .bay0) (withHeads (fun p =>
        { p with state := .recalibrating, recalTimer := some 300, order := some ⟨.recalibrate, .bay⟩ }) ready))
      (fun t => (t.bay .bay0).faultClass == .seekFault) = true := by decide +kernel
theorem test_stop_limit :
    nextIs (exec (.stopLimitExpiry .bay0) (withHeads (fun p =>
        { p with state := .stopping, vmeas := 40, stopTimer := some 100 }) ready))
      (fun t => (t.bay .bay0).faultClass == .seekFault && (t.positioner .bay0).state == .retracting) =
        true := by decide +kernel
theorem test_load_fault :
    nextIs (exec (.loadFault .bay0) (withHeads (fun p =>
        { p with state := .loading, loadTimer := some 500, order := some ⟨.loadRecalibrate, .mount⟩ }) ready))
      (fun t => (t.bay .bay0).faultClass == .loadFault && (t.positioner .bay0).state == .retracting) =
        true := by decide +kernel
theorem test_retract_limit :
    nextIs (exec (.retractLimitExpiry .bay0) (withHeads (fun p =>
        { p with state := .retracting, retractTimer := some 300 }) ready))
      (fun t => (t.positioner .bay0).state == .fault && (t.bay .bay0).state == .fault &&
        (t.bay .bay0).faultClass == .retractFault) = true := by decide +kernel
theorem test_park_hold_ends :
    nextIs (exec (.parkHoldEnd .bay0) (withBay (fun c => { c with parkDetect := ⟨true, 0⟩, idleStop := true })
        (withHeads (fun p => { p with state := .retracting, parkHold := some 50 }) ready)))
      (fun t => (t.positioner .bay0).state == .parked && (t.spindle .bay0).phase == .stopping) = true := by
  decide +kernel
/-- Spec/12 section 12.1: the 64th consecutive mark in band locks the spindle and frees the permit. -/
theorem test_sixty_fourth_mark :
    nextIs (exec (.tachMark .bay0 2083) { withHeads (fun _ => .reset) (withMap (fun _ => .reset)
        (withSpindle (fun q => { q with phase := .accelerating, inBand := 63, spinUpTimer := some 4 }) ready))
        with permitHolder := some .bay0 })
      (fun t => (t.spindle .bay0).phase == .locked && t.permitHolder == none &&
        (t.positioner .bay0).state == .loading && (t.map .bay0).status == .none) = true := by decide +kernel
theorem test_mark_out_of_band_drifts :
    nextIs (exec (.tachMark .bay0 2900) ready)
      (fun t => (t.spindle .bay0).phase == .drifting && (t.spindle .bay0).driftTimer == some 0) = true := by
  decide +kernel
theorem test_start_timer_expires :
    nextIs (exec (.startTimerExpiry .bay0) { withHeads (fun _ => .reset) (withMap (fun _ => .reset)
        (withSpindle (fun q => { q with phase := .starting, startTimer := some 2000 }) ready))
        with permitHolder := some .bay0 })
      (fun t => (t.spindle .bay0).phase == .stopping && (t.bay .bay0).faultClass == .spinFault &&
        t.permitHolder == none) = true := by decide +kernel
theorem test_spin_up_limit_expires :
    nextIs (exec (.spinUpLimitExpiry .bay0) { withHeads (fun _ => .reset) (withMap (fun _ => .reset)
        (withSpindle (fun q => { q with phase := .accelerating, spinUpTimer := some 15000 }) ready))
        with permitHolder := some .bay0, permitWaiting := some .bay1
             spindles := ⟨{ turning with phase := .accelerating }, { Spindle.reset with phase := .pending }⟩ })
      (fun t => (t.bay .bay0).faultClass == .spinFault && t.permitHolder == some .bay1 &&
        (t.spindle .bay1).phase == .starting) = true := by decide +kernel
theorem test_marks_lost :
    nextIs (exec (.markSilence .bay0) ready)
      (fun t => (t.bay .bay0).faultClass == .spinFault && (t.positioner .bay0).state == .retracting) =
        true := by decide +kernel
theorem test_drift_timer_expires :
    nextIs (exec (.driftTimerExpiry .bay0) (withSpindle (fun q =>
        { q with phase := .drifting, driftTimer := some 2000 }) ready))
      (fun t => (t.bay .bay0).faultClass == .speedLost && (t.spindle .bay0).phase == .stopping) = true := by
  decide +kernel
theorem test_stop_timer_ends :
    nextIs (exec (.stopTimerExpiry .bay0) (withSpindle (fun q =>
        { q with phase := .stopping, stopTimer := some 500, brake := true })
        (withHeads (fun _ => .reset) (withBay (fun c => { c with state := .seated }) ready))))
      (fun t => (t.spindle .bay0).phase == .stopped && !(t.spindle .bay0).brake &&
        (t.spindle .bay0).history == []) = true := by decide +kernel
/-- R41, R146: a Spin Down whose spindle faults while its park runs waits for the stop alone. -/
theorem test_spin_fault_ends_the_wait_for_the_park :
    nextIs (exec (.markSilence .bay0) (withSpindle (fun _ => turning) (coasting .parking)))
      (fun t => (t.spindle .bay0).phase == .stopping && (t.positioner .bay0).state == .retracting &&
        t.entries.map (fun e => (e.stage, e.ending)) == [(.stopping, none)]) = true := by decide +kernel
/-- R146: it completes at STOPPED with Complete, whatever its park does. -/
theorem test_spin_down_completes_at_stopped :
    nextIs (exec (.stopTimerExpiry .bay0) (coasting .stopping))
      (fun t => (t.spindle .bay0).phase == .stopped && (t.positioner .bay0).state == .retracting &&
        t.entries.map (fun e => e.ending) == [some .complete]) = true := by decide +kernel
theorem test_pwm_boundary :
    nextIs (exec (.pwmPeriodBoundary .bay0) (withSpindle (fun q =>
        { q with dutyStaging := 0, dutyActive := 600, brakePending := true }) ready))
      (fun t => (t.spindle .bay0).dutyActive == 0 && !(t.spindle .bay0).pwm &&
        (t.spindle .bay0).brake) = true := by decide +kernel
/-- R48: 60,000,000 / 3,600 is 16,666 µs. -/
theorem test_index_in_window :
    nextIs (exec (.indexPulse .bay0 16666) (withSpindle (fun q => { q with missCount := 1 }) ready))
      (fun t => (t.spindle .bay0).missCount == 0 && (t.spindle .bay0).indexSince == some 0) = true := by
  decide +kernel
theorem test_format_arms_at_the_index :
    nextIs (exec (.indexPulse .bay0 16666) (formatting .arming))
      (fun t => t.channel.format == .laying && t.channel.writeGate) = true := by decide +kernel
theorem test_index_missing :
    nextIs (exec (.indexMissing .bay0) (withSpindle (fun q => { q with indexSince := some 17708 }) ready))
      (fun t => (t.spindle .bay0).missCount == 1) = true := by decide +kernel
/-- Spec/12 section 12.1: the take gives slot 0. -/
theorem test_id_field_matches_for_a_read :
    nextIs (exec (.idField (idOf 3 0 8)) (searching 1))
      (fun t => t.channel.search == .reading && t.channel.slot == some 0 &&
        (t.slots[0]?.map Slot.hostAddress) == some (some 8192)) = true := by decide +kernel
theorem test_wrong_cylinder_counts_a_retry :
    nextIs (exec (.idField (idOf 4 0 8)) (searching 1))
      (fun t => t.channel.grant == none && t.channel.retryCount.bay0 == 1 &&
        (t.entry? 0).map Entry.retriesUsed == some 1 &&
        (t.positioner .bay0).state == .recalibrating) = true := by decide +kernel
set_option maxRecDepth 20000 in
theorem test_field_passes_for_a_read :
    nextIs (exec (.dataFieldReadEnd zeroField) (reading 1 .read))
      (fun t => (t.slots[0]?.map Slot.state) == some .full && t.channel.search == .searching &&
        t.channel.target == some ⟨3, 0, 9⟩) = true := by decide +kernel
/-- Spec/12 section 12.3: a sector that fails its data check leaves it the Target. -/
theorem test_field_fails_for_a_read :
    nextIs (exec (.dataFieldReadEnd badField) (reading 1 .read))
      (fun t => (t.slots[0]?.map Slot.state) == some .free && t.channel.target == some ⟨3, 0, 8⟩ &&
        t.channel.grant == some .bay0 && (t.entry? 0).map Entry.retriesUsed == some 1) = true := by
  decide +kernel
theorem test_field_written :
    nextIs (exec .dataFieldWriteEnd writing)
      (fun t => !t.channel.writeGate && (t.entry? 0).map Entry.sectorsDone == some 1 &&
        t.channel.target == some ⟨3, 0, 9⟩ && (t.slots[0]?.map Slot.owner) == some none) = true := by
  decide +kernel
theorem test_laying_ends :
    nextIs (exec .layingEnd (formatting .laying))
      (fun t => t.channel.format == .closing && !t.channel.writeGate) = true := by decide +kernel
theorem test_grant_takes_the_full_slot :
    nextIs (exec .dmaGrant (withSlot (sectorSlot .full .read) (searching 1)))
      (fun t => (t.slots[0]?.map Slot.state) == some .draining &&
        t.burst.map (fun x => (x.address, x.words.length)) == some (8192, 16)) = true := by decide +kernel
theorem test_burst_moves_sixteen_words :
    nextIs (exec (.burstComplete (Vector.replicate 16 0#16))
        (bursting (.slot 0) 8192 (List.replicate 16 0x1234#16)
          (withSlot (sectorSlot .draining .read) (searching 1))))
      (fun t => (t.slots[0]?.map Slot.wordsMoved) == some 16 &&
        Memory.read t.hostMem 8192 == some 0x34#8 && Memory.read t.hostMem 8223 == some 0x12#8 &&
        Memory.read t.hostMem 8224 == none) = true := by decide +kernel
theorem test_link_zero_is_a_broken_chain :
    nextIs (exec (.burstComplete (Vector.replicate 16 0#16)) (bursting .readLink 4096 []
        (withLink (fun l => { l with fetch := .readLink }) ready)))
      (fun t => t.link.fetch == .writeFault .brokenChain) = true := by decide +kernel
theorem test_poll_timer_expires :
    nextIs (exec .pollTimerExpiry { withLink (fun l => { l with pollTimer := some 50 }) ready with
        hostFields := { HostFields.reset with pollInterval := 5 } })
      (fun t => t.link.pollDue && t.link.pollTimer == some 0) = true := by decide +kernel
theorem test_refresh_timer_expires :
    nextIs (exec (.refreshTimerExpiry .bay0)
        (withLink (fun l => { l with refreshTimer := ⟨some 1000, none⟩ }) ready))
      (fun t => t.link.pendingRecord.bay0 == .refresh && t.link.recordOrder == [.bay0]) = true := by
  decide +kernel
/-- Spec/12 section 12.2: the pulse ends with the bay still EJECTING. -/
theorem test_pulse_ends :
    nextIs (exec (.pulseTimerExpiry .bay0) (withBay (fun c =>
        { c with state := .ejecting, lock := false, eject := true, pulse := some 300, leave := some 300
                 parkDetect := ⟨true, 0⟩ })
        (withHeads (fun _ => .reset) (withSpindle (fun _ => .reset) ready))))
      (fun t => !(t.bay .bay0).eject && (t.bay .bay0).state == .ejecting) = true := by decide +kernel
theorem test_leave_timer_fails_the_eject :
    nextIs (exec (.leaveTimerExpiry .bay0) (withBay (fun c =>
        { c with state := .ejecting, lock := false, leave := some 2000, parkDetect := ⟨true, 0⟩ })
        (withHeads (fun _ => .reset) (withSpindle (fun _ => .reset) ready))))
      (fun t => (t.bay .bay0).state == .seated && (t.bay .bay0).ejectFailed) = true := by decide +kernel
theorem test_start_bound_fails_the_eject :
    nextIs (exec (.startBoundTimerExpiry .bay0) (withBay (fun c =>
        { c with state := .ejecting, lock := false, startBound := some 2000 })
        (withHeads (fun _ => .reset) (withSpindle (fun _ => .reset) ready))))
      (fun t => (t.bay .bay0).state == .seated && (t.bay .bay0).ejectFailed) = true := by decide +kernel
/-- R143, R144: a task whose spindle stopped before its order spins it up again. -/
theorem test_order_not_yet_given_spins_up :
    nextIs (exec .statusRead (withSpindle (fun _ => .reset)
        (withHeads (fun _ => { Positioner.reset with state := .parked })
          (withTask { task 1 with stage := .positioning } ready))))
      (fun t => (t.spindle .bay0).phase == .starting && t.permitHolder == some .bay0) = true := by
  decide +kernel
/-- R128, R144: a task that keeps its record slot goes on to its order without a second take. -/
theorem test_record_slot_is_taken_once :
    (let s := withTask (task 13) ready
     s.recordStage (task 13) = .slotWait ∧
       (withSlot (fun x => { x with state := .full, owner := some (.task 0), purpose := some .recordWrite })
         s).recordStage (task 13) = .positioning) := by decide +kernel
theorem test_retry_timer_orders_a_retract :
    nextIs (exec (.retryTimerExpiry .bay0) (withBay (fun c =>
        { c with state := .fault, faultClass := .retractFault, retry := some 1000 })
        (withHeads (fun p => { p with state := .fault, known := false }) ready)))
      (fun t => (t.positioner .bay0).state == .retracting && (t.bay .bay0).state == .fault) = true := by
  decide +kernel
theorem test_idle_timer_parks_the_heads :
    nextIs (exec (.idleTimerExpiry .bay0) (withBay (fun c => { c with idle := some 300000 }) ready))
      (fun t => (t.positioner .bay0).state == .retracting && (t.bay .bay0).idleStop) = true := by
  decide +kernel
theorem test_clock_counts_a_cycle :
    nextIs (step State.reset) (fun t => t.cycle == 1) = true := by decide +kernel
/-- R45: the insertion of bay 1 and the end of bay 0's stop meet in one tick; "bay 0 is granted". -/
theorem test_permit_requests_together :
    nextIs (step { State.reset with
        cycle := 7999
        bays := ⟨{ lockedBay with parkDetect := ⟨true, 0⟩ },
          { BayControl.reset with parkDetect := ⟨true, 0⟩, present := ⟨false, 99⟩ }⟩
        spindles := ⟨{ Spindle.reset with phase := .stopping, stopTimer := some 499, restartHeld := true },
          .reset⟩
        pins := { State.reset.pins with
          bays := ⟨{ BayPins.idle with present := true, parkDetect := true },
            { BayPins.idle with present := true, parkDetect := true }⟩ } })
      (fun t => t.permitHolder == some .bay0 && t.permitWaiting == some .bay1 &&
        (t.spindle .bay0).phase == .starting && (t.spindle .bay1).phase == .pending &&
        (t.bay .bay1).state == .locked) = true := by decide +kernel

/-! ### Witnesses: states and operands that meet the hypotheses of the statements -/

/-- A state in which no bay waits for the permit meets the law of R45's waiter. -/
theorem waitingLaw_of_none (s : State) (h : s.permitWaiting = none) : s.waitingLaw := by
  intro b hb
  rw [h] at hb
  cases hb

theorem witness_StepTakesTheFrontCommand :
    ({ State.reset with pending := [.dmaGrant, .statusRead] } : State).pending = .dmaGrant :: [.statusRead] :=
  rfl

theorem witness_EveryStepCompletes : ready.pending = [] ∧ Instr.dmaGrant ≠ .busReset := by decide

/-- No burst, and a burst of a slot; a command that is neither reset nor an insertion. -/
theorem witness_OnlyTheirEventsChangeThem (words : Vector Word 16) :
    (∃ t, exec .attention ready = .next t) ∧ (∃ t, exec (.burstComplete words) ready = .next t) ∧
      ready.burst = none ∧
      (∃ t, exec (.burstComplete words) (bursting (.slot 0) 8192 [1#16] (searching 1)) = .next t) ∧
      (∀ i < 2 * [1#16].length, (8194 : Nat) ≠ (8192 + i) % 2 ^ 24) :=
  ⟨⟨_, rfl⟩, ⟨_, rfl⟩, rfl, ⟨_, rfl⟩, by decide⟩

theorem witness_LinesAndTimersShowTheirConditions :
    ∃ t, step { ready with pending := [.attention] } = .next t := ⟨_, rfl⟩

/-- The cycle that brings the 1 ms tick: a low supply sample that is no acceptance and one that is, with
Supply Low accepted a good sample before and at its count, a bay that senses, an undecided Present, a
bay whose sampling has stopped, and one that the recovery lets sense again; and a cycle without the tick. -/
theorem witness_ClockSamplesTheInputs :
    let low (n : Nat) : State :=
      { ready with cycle := 7999, supply := ⟨false, n, none⟩, pins := { ready.pins with supplyLow := true } }
    let held (n : Nat) : State := { ready with cycle := 7999, supply := ⟨true, 0, some n⟩ }
    (∃ t, step (low 2) = .next t) ∧ (∃ t, step (held 98) = .next t) ∧
    nextIs (step (withBay (fun c => { c with sensing := false }) (held 99))) (fun t =>
      !t.supply.accepted && (t.bay .bay0).sensing) = true ∧
    (low 2).pending = [] ∧ (low 2).pins.supplyLow = true ∧ (low 2).supply.lowRun < 3 ∧
    3 ≤ (low 3).supply.lowRun ∧ ((low 2).cycle + 1) % 8000 = 0 ∧ (ready.cycle + 1) % 8000 ≠ 0 ∧
    ready.supply.accepted = false ∧ ready.pins.supplyLow = false ∧ (ready.bay .bay0).sensing = true ∧
    (ready.bay .bay0).presentUndecided = false ∧ (held 98).supply.accepted = true ∧
    (held 98).pins.supplyLow = false ∧ 98 + 1 < 100 ∧ 100 ≤ 99 + 1 ∧
    ((withBay (fun c => { c with presentUndecided := true }) ready).bay .bay0).presentUndecided = true ∧
    ((withBay (fun c => { c with sensing := false }) ready).bay .bay0).sensing = false :=
  ⟨⟨_, rfl⟩, ⟨_, rfl⟩, by decide +kernel, by decide⟩

/-- A cycle with the 1 ms tick, and a quiet state, whose next cycle brings no PWM period. -/
theorem witness_TimersExpireAtTheirLimits :
    let s : State := { State.reset with cycle := 7999 }
    s.pending = [] ∧ (∃ t, step s = .next t) ∧ (s.cycle + 1) % 8000 = 0 ∧ (s.cycle + 1) % 8 = 0 ∧
      s.settings.inRange ∧ s.quiet ∧ (s.cycle + 1) % 1024 ≠ 0 := by
  refine ⟨rfl, ⟨_, rfl⟩, by decide, by decide, ?_, ⟨by decide, ?_, ?_, ?_, ?_, ?_, ?_, ?_⟩, by decide⟩
  · simp only [Settings.inRange]
    decide +kernel
  · intro b; cases b <;> decide
  · intro b; cases b <;> decide
  all_goals first
    | (intro b; cases b <;>
        simp [below, State.reset, State.spindle, State.positioner, State.bay, PerBay.get, PerBay.both,
          Spindle.reset, Positioner.reset, BayControl.reset, Phase.runsLaw, Actuator.underLoop])
    | (refine ⟨fun b => ?_, ?_⟩
       · cases b <;> simp [below, State.reset, Link.reset, PerBay.get, PerBay.both]
       · simp [below, State.reset, Link.reset])

/-- Each clause at a settled state of its own: a held press, an energized Eject, a bay in FAULT, a head
change and a Park order that wait for the release, waiters at their quota, a draining link with a take at its
end and at its step 1, an idle one. -/
theorem witness_SettledStatesObeyTheWaits :
    (let s := { writing with channel := { writing.channel with heldPress := some .bay0 } }
     s.Settled ∧ s.channel.heldPress = some .bay0) ∧
    (let s := withBay (fun c => { c with state := .ejecting, lock := false, eject := true, pulse := some 0
                                         leave := some 0, parkDetect := ⟨true, 0⟩ })
       (withMap (fun _ => .reset) (withHeads (fun _ => .reset) (withSpindle (fun _ => .reset) ready)))
     s.Settled ∧ (s.bay .bay0).eject = true) ∧
    (let s := withBay (fun c => { c with state := .fault }) (withMap (fun _ => .reset)
       (withHeads (fun p => { p with state := .fault }) ready))
     s.Settled ∧ (s.bay .bay0).state = .fault) ∧
    (let s := withHeads (fun p => { p with pendingHead := some 1, order := some ⟨.seek 3 1, .bay⟩ }) writing
     s.Settled ∧ (s.positioner .bay0).pendingHead ≠ none) ∧
    (let s := withHeads (fun p => { p with held := some ⟨.park, .bay⟩ }) writing
     s.Settled ∧ (s.positioner .bay0).held = some ⟨.park, .bay⟩) ∧
    (let s := { searching 2 with
       waiters := [0]
       slots := List.replicate 8 (sectorSlot .full .write (Slot.freed [])) ++
         List.replicate 8 (Slot.freed []) }
     s.Settled ∧ s.freeSlot? ≠ none ∧ 0 ∈ s.waiters) ∧
    (let s := withLink (fun l => { l with state := .draining, fetch := .writeCursor }) ready
     s.Settled ∧ s.link.state = .draining ∧ s.entries = []) ∧
    (let s := bursting (.readBlock 256) 256 []
       (withLink (fun l => { l with state := .draining, fetch := .readBlock 256 }) ready)
     s.Settled ∧ s.link.state ≠ .running ∧ s.link.fetch = .readBlock 256) ∧
    (ready.Settled ∧ ready.link.state = .running ∧ ready.link.fetch = .idle ∧ ready.burst = none) := by
  simp only [State.Settled, ← Option.isNone_iff_eq_none]
  decide +kernel

/-- The clause of the tasks whose turn has not come: a second task on the same bay. -/
theorem witness_SettledStatesObeyTheWaits_turn :
    let e : Entry := { task 3 with id := 1, state := .queued, stage := .bayWait }
    let s : State := { searching 1 with entries := [task 1, e] }
    s.Settled ∧ s.supply.accepted = false ∧ e ∈ s.entries ∧ e.ending = none := by
  simp only [State.Settled, ← Option.isNone_iff_eq_none]
  decide +kernel

/-- The clause of a Spin Down that waits for its stop: its park still runs. -/
theorem witness_SettledStatesObeyTheWaits_stop :
    let s := coasting .stopping
    s.Settled ∧ ∃ e ∈ s.entries, e.state = .active ∧ e.ending = none ∧ e.stage = .stopping := by
  simp only [State.Settled, ← Option.isNone_iff_eq_none]
  decide +kernel

/-- The Posted Count `n` ahead of the Taken Count. -/
def aheadBy (n : Nat) : State :=
  { ready with hostFields := { ready.hostFields with posted := BitVec.ofNat 16 n } }

/-- That state with the queue full of tasks that are FINISHING. -/
def fullAheadBy (n : Nat) : State :=
  { aheadBy n with
    entries := (List.range 8).map (fun i => { task 1 with id := i, state := .finishing }), nextId := 8
    finishing := List.range 8 }

/-- The fetcher's wait alone: Posted Count one ahead, 32,768 ahead, and further ahead, the last with the
queue full and a poll due too. A full queue with no skew is settled. -/
theorem witness_SettledStatesObeyTheWaits_fetch :
    (∀ n ∈ [1, 32768, 32769], (firstWait (aheadBy n) waits.dropLast).isNone = true ∧
      ((aheadBy n).hostFields.posted - (aheadBy n).counts.taken).toNat = n) ∧
    (let s := aheadBy 1
     s.link.state = .running ∧ s.resetInProgress = false ∧ s.link.fetch = .idle ∧
       s.link.attentionHeld = false ∧ s.link.pollDue = false ∧ s.link.startWrite = false ∧
       s.link.faultClear = false ∧ s.fetcherBusy = false ∧ s.entries.length < 8) ∧
    (let s := withLink (fun l => { l with pollDue := true }) (fullAheadBy 32769)
     (firstWait s waits.dropLast).isNone = true ∧ s.fetcherBusy = false ∧
       (s.hostFields.posted - s.counts.taken).toNat = 32769) ∧
    (firstWait (fullAheadBy 32768) waits).isNone = true := by
  decide +kernel

/-- R160: a poll that brings a skewed Posted Count is checked at its end with eight entries in the queue, and
one that brings a count 32,768 ahead begins no fetch there. -/
theorem witness_SettledStatesObeyTheWaits_polled :
    nextIs (exec (.burstComplete (Vector.replicate 16 32769#16)) (bursting .poll 4100 [] (fullAheadBy 0)))
        (fun t => t.link.fetch == .writeFault .countSkew && t.entries.length == 8) = true ∧
      nextIs (exec (.burstComplete (Vector.replicate 16 32768#16)) (bursting .poll 4100 [] (fullAheadBy 0)))
        (fun t => t.link.fetch == .idle && t.hostFields.posted == 32768#16) = true := by
  decide +kernel

/-- The Waiting bay's clause: bay 1's task waits while bay 0 writes. -/
theorem witness_SettledStatesObeyTheWaits_waiting :
    let other : Entry := { task 1 with
      id := 1, block := { (task 1).block with bay := 1 }, run := some ⟨.bay1, 3, 0, [⟨some 200, 8⟩]⟩ }
    let s := { writing with
      entries := writing.entries ++ [other]
      bays := ⟨lockedBay, lockedBay⟩, spindles := ⟨turning, turning⟩, positioners := ⟨following, following⟩
      maps := ⟨{ DefectMap.reset with status := .valid }, { DefectMap.reset with status := .valid }⟩
      channel := { writing.channel with waiting := some .bay1 } }
    s.Settled ∧ s.channel.waiting = some .bay1 ∧ s.requestStands .bay1 = true := by
  simp only [State.Settled, ← Option.isNone_iff_eq_none]
  decide +kernel

/-- A state with the heads over the platter, in range and with its step. -/
theorem witness_StepKeepsTheRanges : ready.rangeLaw ∧ ∃ t, step ready = .next t := by
  refine ⟨⟨rfl, by decide +kernel, ?_, ?_, ?_, ?_, ?_, ?_, ?_, ?_⟩, _, rfl⟩
  · simp only [Settings.inRange]
    decide +kernel
  · intro b; cases b <;> decide
  · intro b
    cases b <;> exact ⟨by decide, by simp [ready, State.spindle, PerBay.get, turning, Spindle.reset],
      by decide, by decide, by decide, by decide, by decide, by decide, by decide⟩
  · intro b
    cases b <;> exact ⟨by decide, by decide, by decide, by decide, by decide⟩
  · intro b; cases b <;> decide
  · intro b; cases b <;> decide
  · decide
  · decide

/-- Bay 0 ACCELERATING with the permit, bay 1 waiting for it. -/
def contended : State :=
  { ready with
    spindles := ⟨{ turning with phase := .accelerating }, { Spindle.reset with phase := .pending }⟩
    positioners := .both .reset
    permitHolder := some .bay0, permitWaiting := some .bay1 }

theorem witness_StepKeepsThePermitLaw : contended.permitInv ∧ ∃ t, step contended = .next t := by
  refine ⟨⟨?_, ?_⟩, _, rfl⟩
  · intro b; cases b <;> decide
  · intro b; cases b <;> decide

theorem witness_StepKeepsTheFlyingLaw : ready.flyInv ∧ ∃ t, step ready = .next t := by
  refine ⟨⟨?_, ?_, ?_⟩, _, rfl⟩
  · intro b; cases b <;> decide
  · intro b; cases b <;> decide
  · exact waitingLaw_of_none _ rfl

theorem witness_StepKeepsTheQueueLaw : (searching 1).queueLaw ∧ ∃ t, step (searching 1) = .next t := by
  refine ⟨⟨by unfold State.countLaw; decide, by decide, by decide, by decide, ?_, by decide, by decide, ?_⟩, _, rfl⟩
  · intro x h
    cases h
  · simp [searching, withTask]

/-- A state with the write gate asserted, whose next cycle is a step. -/
theorem witness_StepKeepsTheGateAndEjectLaws :
    writing.channel.writeGate = true ∧ ∃ t, step writing = .next t := ⟨rfl, _, rfl⟩

/-- A field being read into its slot, and a burst of a slot that requests it. -/
theorem witness_StepKeepsTheSlotLaw :
    (reading 1 .read).slotInv ∧ (∃ t, step (reading 1 .read) = .next t) ∧
      slotRequests (sectorSlot .draining .read (Slot.freed [])) = true := by
  refine ⟨⟨⟨by decide, by decide, ?_⟩, ?_, ?_, ?_⟩, ⟨_, rfl⟩, by decide⟩
  · intro id
    by_cases h : id = 0
    · subst h
      decide
    · have hf : (reading 1 .read).slotsOf id = 0 := by
        simp [State.slotsOf, reading, withSlot, sectorSlot, searching, withTask, ready, State.reset,
          Slot.freed, Ne.symm h]
      omega
  · intro i hi
    cases hi
    exact ⟨by decide, _, rfl, .inl (by decide)⟩
  · intro i x b hi hx ho
    cases hi
    cases hx
    cases ho
  · intro y i hy
    cases hy

/-- A Start that is taken; Reset in Progress; each Link State; the four refusals of Start; codes at both
ends of the unknown ones. -/
theorem witness_CommandsAreTakenByLinkState :
    (let s : State := { State.reset with ports := ⟨4096#32, false, 0#16⟩ }
     s.link.state = .offline ∧ s.resetInProgress = false ∧ s.supply.accepted = false ∧
       s.ports.anchor.toNat ≠ 0 ∧ s.ports.anchor.toNat % 16 = 0 ∧ s.ports.anchor.toNat < 2 ^ 24 ∧
       s.link.recordOrder = []) ∧
    ((0#16).toNat = 0 ∧ 5 < (6#16).toNat ∧ 5 < (0xFFFF#16).toNat) ∧
    (({ ready with resetInProgress := true } : State).resetInProgress = true) ∧
    (State.reset.resetInProgress = false ∧ State.reset.link.state = .offline ∧
      State.reset.ports.anchor = 0) ∧
    (({ State.reset with ports := ⟨8#32, false, 0#16⟩ } : State).ports.anchor.toNat % 16 ≠ 0) ∧
    (2 ^ 24 ≤ ({ State.reset with ports := ⟨0x1000000#32, false, 0#16⟩ } : State).ports.anchor.toNat) ∧
    (({ State.reset with supply := ⟨true, 0, some 0⟩ } : State).supply.accepted = true) ∧
    (ready.resetInProgress = false ∧ ready.link.state = .running) ∧
    ((withLink (fun l => { l with state := .draining }) ready).link.state = .draining) ∧
    ((withLink (fun l => { l with state := .stalled }) ready).link.state = .stalled) ∧
    ((withLink (fun l => { l with state := .halted }) ready).link.state = .halted) := by decide

theorem witness_PartResetBeginsTheRunDown : ready.resetInProgress = false := by decide

theorem witness_PortsHoldAnchorAndStatus :
    (State.reset.link.state = .offline ∧ State.reset.resetInProgress = false) ∧
      ready.link.state ≠ .offline := by decide

/-- The first acceptance with bay 0 flying, and a further low sample; loaded heads, heads in FAULT, parked
and retracting heads; each spindle phase the clauses name; each Link State. -/
theorem witness_SupplyLowAndItsRecovery :
    (ready.supply.accepted = false ∧ (ready.positioner .bay0).state.loaded = true ∧
      (ready.positioner .bay1).state = .parked ∧ (ready.spindle .bay0).phase = .locked ∧
      (ready.spindle .bay1).phase = .stopped ∧ ready.link.state = .running ∧ ready.burst = none) ∧
    (contended.supply.accepted = false ∧ (contended.spindle .bay1).phase = .pending) ∧
    (let s := withSpindle (fun q => { q with phase := .stopping }) (withHeads (fun p => { p with state := .fault })
       ready)
     s.supply.accepted = false ∧ (s.spindle .bay0).phase = .stopping ∧ (s.positioner .bay0).state = .fault) ∧
    (State.reset.supply.accepted = false ∧ State.reset.link.state = .offline) ∧
    ({ State.reset with supply := ⟨true, 0, some 0⟩ } : State).supply.accepted = true := by decide

/-- Reset in Progress at its end with a cartridge on its ramp in bay 0, off its ramp in bay 1, and with
none; with the write of a Link Fault that stands, and held off by a take in progress. -/
theorem witness_ResetInProgressEnds :
    let on : BayControl := { BayControl.reset with present := ⟨true, 0⟩, parkDetect := ⟨true, 0⟩ }
    let off : BayControl := { BayControl.reset with present := ⟨true, 0⟩ }
    let s : State := { State.reset with resetInProgress := true, bays := ⟨on, off⟩ }
    (s.resetInProgress = true ∧ s.entries = [] ∧ s.burst = none ∧ s.supply.accepted = false ∧
      (s.link.fetch = .idle ∨ ∃ f, s.link.fetch = .writeFault f) ∧
      ∀ b, ((s.positioner b).state = .parked ∨ (s.positioner b).state = .fault) ∧
        (s.spindle b).phase = .stopped ∧ (s.bay b).lock = false) ∧
    ((s.bay .bay0).present.accepted = true ∧ (s.bay .bay0).presentUndecided = false ∧
      (s.bay .bay0).parkDetect.accepted = true) ∧
    ((s.bay .bay1).present.accepted = true ∧ (s.bay .bay1).presentUndecided = false ∧
      (s.bay .bay1).parkDetect.accepted = false) ∧
    (State.reset.bay .bay0).present.accepted = false ∧ State.reset.resetInProgress = false ∧
    (withLink (fun l => { l with fetch := .writeFault .misaligned }) s).link.fetch =
      .writeFault .misaligned ∧
    (withLink (fun l => { l with fetch := .writeCursor }) s).link.fetch = .writeCursor := by
  refine ⟨⟨rfl, rfl, rfl, rfl, .inl rfl, ?_⟩, by decide, by decide, by decide, by decide, by decide, by decide⟩
  intro b; cases b <;> decide

/-- An EMPTY bay; a bay in another state; a Part Reset; an undecided Present in SEATED and in EMPTY. -/
theorem witness_PresentTrueAndDecidedInsert :
    (let c := State.reset.bay .bay0
     c.sensing = true ∧ c.presentUndecided = false ∧ c.present.accepted = false ∧ c.state = .empty ∧
       State.reset.resetInProgress = false) ∧
    (let s := withBay (fun c => { c with state := .ejecting }) State.reset
     (s.bay .bay0).sensing = true ∧ (s.bay .bay0).present.accepted = false ∧
       (s.bay .bay0).state ≠ .empty) ∧
    ({ State.reset with resetInProgress := true } : State).resetInProgress = true ∧
    (let s := withBay (fun c => { c with state := .seated, presentUndecided := true }) State.reset
     (s.bay .bay0).sensing = true ∧ (s.bay .bay0).presentUndecided = true ∧ s.resetInProgress = false ∧
       (s.bay .bay0).state = .seated ∧ s.channel.grant ≠ some .bay0) ∧
    (let s := withBay (fun c => { c with presentUndecided := true }) State.reset
     (s.bay .bay0).sensing = true ∧ (s.bay .bay0).presentUndecided = true ∧
       (s.bay .bay0).state ≠ .seated) := by decide

/-- A Copy from bay 0 to bay 1 that reads its first run. -/
def copying : State :=
  { searching 4 with
    entries := [{ task 4 with block := { (task 4).block with secondBay := 1 } }]
    bays := ⟨{ lockedBay with present := ⟨true, 0⟩ }, { lockedBay with present := ⟨true, 0⟩ }⟩ }

/-- SEATED, EJECTING, a locked bay under a Part Reset, EMPTY, and LOCKED; with a Copy on the other bay, and
with none. -/
theorem witness_PresentFalseRemoves :
    let present (x : BayState) : State := withBay (fun c => { c with state := x, present := ⟨true, 0⟩ }) ready
    (∀ x ∈ [BayState.seated, .ejecting, .empty, .locked],
      ((present x).bay .bay0).sensing = true ∧ ((present x).bay .bay0).presentUndecided = false ∧
        ((present x).bay .bay0).present.accepted = true ∧ ((present x).bay .bay0).state = x ∧
        (present x).permitWaiting = none) ∧
    ready.waitingLaw ∧ ready.resetInProgress = false ∧ (ready.positioner .bay0).state.loaded = true ∧
    (ready.spindle .bay0).phase ≠ .stopped ∧ (ready.spindle .bay0).phase ≠ .pending ∧
    (copying.copyBeside .bay1 = true ∧ (copying.bay .bay1).present.accepted = true ∧
      (copying.bay .bay1).state = .locked) ∧
    (ready.copyBeside .bay0 = false ∧ ready.channel.grant ≠ some .bay0) := by
  refine ⟨by decide, waitingLaw_of_none _ rfl, by decide⟩

/-- A fall; a rise while a field is written for the bay, while a track is laid, while it closes, and with
none of them. -/
theorem witness_WriteProtectReachesTheWriters :
    (let s := withBay (fun c => { c with writeProtect := ⟨true, 0⟩ }) ready
     (s.bay .bay0).sensing = true ∧ (s.bay .bay0).writeProtect.accepted = true) ∧
    ((writing.bay .bay0).sensing = true ∧ (writing.bay .bay0).writeProtect.accepted = false ∧
      writing.channel.grant = some .bay0 ∧ writing.channel.search = .writing) ∧
    ((formatting .laying).channel.grant = some .bay0 ∧ (formatting .laying).channel.format = .laying) ∧
    ((formatting .closing).channel.grant = some .bay0 ∧ (formatting .closing).channel.format = .closing ∧
      (task 11).kind = some .formatTrack) ∧
    ready.channel.grant ≠ some .bay0 := by decide

/-- A release; a press not heard, held, and in each Bay State. -/
theorem witness_PressIsTakenByTheBayState :
    (let s := withBay (fun c => { c with button := ⟨true, 0⟩ }) ready
     (s.bay .bay0).sensing = true ∧ (s.bay .bay0).button.accepted = true) ∧
    ((writing.bay .bay0).button.accepted = false ∧ writing.channel.grant = some .bay0 ∧
      writing.channel.writeGate = true ∧ writing.resetInProgress = false ∧
      (writing.bay .bay0).presentUndecided = false) ∧
    (ready.supply.accepted = false ∧ ready.channel.writeGate = false ∧
      (ready.bay .bay0).state = .locked ∧ (ready.bay .bay0).prevent = false) ∧
    (∀ x ∈ [BayState.empty, .ejecting, .releasing .ejecting, .seated, .fault, .releasing .seated],
      let s := withBay (fun c => { c with state := x }) ready
      (s.bay .bay0).sensing = true ∧ (s.bay .bay0).button.accepted = false ∧
        (s.bay .bay0).state = x) ∧
    ((withBay (fun c => { c with prevent := true }) ready).bay .bay0).prevent = true := by decide

theorem witness_ParkDetectIsTakenByTheActuator :
    (let s := withHeads (fun p => { p with state := .retracting }) ready
     (s.positioner .bay0).state = .retracting ∧ (s.bay .bay0).parkDetect.accepted = false ∧
       (s.positioner .bay0).parkHold = none) ∧
    ((ready.bay .bay0).sensing = true ∧ (ready.bay .bay0).parkDetect.accepted = false ∧
      (ready.positioner .bay0).state ≠ .retracting) ∧
    (∀ x ∈ [Actuator.retracting, .parked, .fault],
      let s := withBay (fun c => { c with parkDetect := ⟨true, 0⟩ }) (withHeads (fun p => { p with state := x }) ready)
      (s.bay .bay0).sensing = true ∧ (s.bay .bay0).parkDetect.accepted = true ∧
        (s.positioner .bay0).state = x) ∧
    (∀ hold ∈ [none, some 7],
      let s := withBay (fun c => { c with sensing := false })
        (withHeads (fun p => { p with state := .retracting, parkHold := hold }) ready)
      (s.bay .bay0).sensing = false ∧ (s.positioner .bay0).state = .retracting ∧
        (s.positioner .bay0).parkHold = hold) ∧
    (let s := withBay (fun c => { c with sensing := false }) ready
     (s.bay .bay0).sensing = false ∧ (s.positioner .bay0).state ≠ .retracting) := by decide

theorem witness_OuterGuardIsTakenByTheActuator :
    (∀ x ∈ [Actuator.loading, .recalibrating, .seeking, .settling, .following, .stopping, .parked, .retracting,
        .fault],
      let s := withHeads (fun p => { p with state := x }) ready
      (s.positioner .bay0).outerGuard.accepted = false ∧ (s.positioner .bay0).state = x) ∧
    (let s := withHeads (fun p => { p with
        state := .recalibrating, recalLeg := .inward, outerGuard := ⟨true, 0⟩ }) ready
     (s.positioner .bay0).outerGuard.accepted = true ∧ (s.positioner .bay0).state = .recalibrating ∧
       (s.positioner .bay0).recalLeg = .inward) ∧
    (withHeads (fun p => { p with outerGuard := ⟨true, 0⟩ }) ready).positioner .bay0 ≠
      { (ready.positioner .bay0) with state := .recalibrating } := by decide

/-- Each Actuator State; a counter inside and at both ends of the platter; a target met and not met; an
outward count below and at its limit. -/
theorem witness_CrossingMovesTheActuator :
    (∀ x ∈ [Actuator.seeking, .settling, .following, .recalibrating, .stopping, .parked, .loading, .retracting,
        .fault],
      ((withHeads (fun p => { p with state := x }) ready).positioner .bay0).state = x) ∧
    (¬(countCrossing .inward (following.counter) < 0 ∨ 638 < countCrossing .inward (following.counter))) ∧
    countCrossing .outward 0 < 0 ∧ 638 < countCrossing .inward 638 ∧
    countCrossing .inward 2 = following.target ∧ countCrossing .inward 1 ≠ following.target ∧
    700 ≤ 699 + 1 ∧ 698 + 1 < 700 := by decide

theorem witness_CrossingErrorIsTakenByTheActuator :
    ∀ x ∈ [Actuator.seeking, .settling, .following, .stopping, .parked],
      ((withHeads (fun p => { p with state := x }) ready).positioner .bay0).state = x := by decide

theorem witness_SilenceStopsTheVelocity :
    (let p := (withHeads (fun p => { p with state := .stopping, recalAfterStop := true }) ready).positioner .bay0
     p.state = .stopping ∧ p.recalAfterStop = true) ∧
    (let p := (withHeads (fun p => { p with state := .stopping }) ready).positioner .bay0
     p.state = .stopping ∧ p.recalAfterStop = false ∧ p.known = true) ∧
    (∀ x ∈ [Actuator.seeking, .recalibrating, .following],
      ((withHeads (fun p => { p with state := x }) ready).positioner .bay0).state = x) := by decide

/-- The Settle Time; the count with no order, with a recalibrate, with a Seek made here, made here with its
head yet to change, and made elsewhere. -/
theorem witness_SettleEndsInFollowing :
    (let p := (withHeads (fun p => { p with state := .settling, settleWait := some 0 }) ready).positioner .bay0
     p.state = .settling ∧ p.settleWait.isSome = true) ∧
    (∀ o ∈ [none, some (⟨.recalibrate, .task 0⟩ : Order), some ⟨.seek 3 0, .bay⟩, some ⟨.seek 3 1, .bay⟩,
        some ⟨.seek 9 0, .bay⟩],
      let p := (withHeads (fun p => { p with state := .settling, sampling := true, order := o }) ready).positioner
        .bay0
      p.state = .settling ∧ p.sampling = true ∧ p.order = o ∧ p.headSelect = 0 ∧ p.pendingHead = none ∧
        p.known = true ∧ p.counter = 3) := by decide

theorem witness_MotionLimitsAreSeekFaults :
    (let p := (withHeads (fun p => { p with
        settleLimit := some 20, seekTimer := some 100, recalTimer := some 300, stopTimer := some 100 })
        ready).positioner .bay0
     p.settleLimit.isSome = true ∧ p.seekTimer.isSome = true ∧ p.recalTimer.isSome = true ∧
       p.stopTimer.isSome = true) ∧
    following.settleLimit = none ∧ following.seekTimer = none ∧ following.recalTimer = none ∧
    following.stopTimer = none := by decide

/-- A Load Fault; a retract's limit in LOCKED, SEATED, FAULT and a Part Reset; and the end of its hold. -/
theorem witness_RetractsEndParkedOrInFault :
    (let p := (withHeads (fun p => { p with state := .loading, loadTimer := some 500 }) ready).positioner .bay0
     p.loadTimer.isSome = true) ∧
    (let s := withHeads (fun p => { p with state := .retracting, retractFromFault := true }) ready
     (s.positioner .bay0).state = .retracting ∧ (s.positioner .bay0).parkHold = none ∧
       (s.bay .bay0).state = .locked ∧ s.resetInProgress = false) ∧
    (let s := withBay (fun c => { c with state := .fault, faultClass := .retractFault })
       (withHeads (fun p => { p with state := .retracting, retractFromFault := true }) ready)
     (s.positioner .bay0).state = .retracting ∧ (s.bay .bay0).state = .fault ∧
       (s.bay .bay0).faultClass = .retractFault ∧ (s.positioner .bay0).retractFromFault = true) ∧
    (let s := withHeads (fun p => { p with
        state := .retracting, parkHold := some 50, order := some ⟨.park, .task 0⟩ }) ready
     (s.positioner .bay0).state = .retracting ∧ (s.positioner .bay0).parkHold.isSome = true ∧
       (s.positioner .bay0).order = some ⟨.park, .task 0⟩ ∧ (s.positioner .bay0).held = none) ∧
    (let s := withMap (fun m => { m with status := .mounting, mountStage := .atChannel })
       (withHeads (fun p => { p with
         state := .retracting, parkHold := some 50, held := some ⟨.park, .bay⟩ }) ready)
     (s.positioner .bay0).parkHold.isSome = true ∧ (s.positioner .bay0).held = some ⟨.park, .bay⟩ ∧
       (s.map .bay0).mountStage ≠ .idle) := by decide

/-- A mark is ignored in STOPPED and PENDING, and recorded in the other phases. -/
theorem witness_MarkIsRecordedAndRegulated :
    ready.waitingLaw ∧ (ready.spindle .bay1).phase = .stopped ∧ (contended.spindle .bay1).phase = .pending ∧
      (ready.spindle .bay0).phase ≠ .stopped ∧ (ready.spindle .bay0).phase ≠ .pending ∧
      (ready.spindle .bay0).markTimer = some 0 ∧ Spindle.reset.markTimer = none ∧
      ready.settings.dutyFloor ≤ ready.settings.dutyCeiling :=
  ⟨waitingLaw_of_none _ rfl, by decide⟩

/-- The eighth mark, in band: no search, a first and a second revolution of a task's search, of the mount's
and of a format; and a mark that is no eighth one. -/
theorem witness_RevolutionEventsReachTheChannel :
    let eighth (s : State) : State := withSpindle (fun q => { q with revCount := 7 }) s
    let revs (n : Nat) (s : State) : State := { s with channel := { s.channel with searchRevs := n, formatRevs := n } }
    nextIs (exec (.tachMark .bay0 2083) ready) (fun t =>
      decide (((57600 : Int) - ((t.spindle .bay0).speed : Int)).natAbs ≤ 2 * ready.settings.hysteresis)) = true ∧
    ((ready.spindle .bay0).phase = .locked ∧ (ready.spindle .bay0).revCount ≠ 7 ∧
      ready.channel.grant ≠ some .bay0) ∧
    (∀ n ∈ [0, 1],
      let s := revs n (eighth (searching 1))
      (s.spindle .bay0).phase = .locked ∧ (s.spindle .bay0).revCount = 7 ∧
        s.channel.grant = some .bay0 ∧ s.channel.search = .searching ∧ s.channel.searchRevs = n ∧
        (∀ e ∈ s.entries, e.stage ≠ .slip) ∧ (s.map .bay0).mountStage ≠ .slip ∧
        s.client? .bay0 = some (.task 0) ∧ s.entry? 0 = some (task 1) ∧
        (s.entries.map Entry.id).Nodup) ∧
    (∀ n ∈ [0, 1],
      let s := revs n (eighth (formatting .arming))
      s.channel.grant = some .bay0 ∧ s.channel.search = .formatting ∧ s.channel.formatRevs = n ∧
        s.client? .bay0 = some (.task 0) ∧ (s.entry? 0).isSome = true) ∧
    (let s := withMap (fun m => { m with status := .mounting, mountStage := .atChannel })
       (revs 1 (eighth { searching 1 with entries := [] }))
     s.channel.grant = some .bay0 ∧ s.channel.search = .searching ∧ s.client? .bay0 = some .mount ∧
       min 8 (s.channel.retryCount.get .bay0 + 1) ≤ s.settings.retryLimit) := by decide +kernel

/-- Every phase in which a mark decides; the count one below and at what is needed. -/
theorem witness_MarkDecidesThePhase :
    ready.waitingLaw ∧
      (∀ x ∈ [Phase.starting, .accelerating, .locked, .drifting, .stopping],
        ((withSpindle (fun q => { q with phase := x }) ready).spindle .bay0).phase = x ∧ x ≠ .stopped ∧
          x ≠ .pending) ∧
      min 255 (32 * 2 ^ ready.settings.stability) = 64 ∧ min 255 (63 + 1) = 64 ∧ min 255 (62 + 1) < 64 :=
  ⟨waitingLaw_of_none _ rfl, by decide⟩

theorem witness_SpindleLimitsAreSpinFaults :
    ready.waitingLaw ∧
      (∀ x ∈ [Phase.starting, .accelerating, .locked, .drifting, .stopped],
        ((withSpindle (fun q => { q with phase := x }) ready).spindle .bay0).phase = x) :=
  ⟨waitingLaw_of_none _ rfl, by decide⟩

/-- A stop that ends with no restart held, with one and the permit taken, and with one and it free. -/
theorem witness_StopTimerEndsTheStop :
    (∀ held ∈ [false, true], ∀ holder ∈ [none, some Bay.bay1],
      let s := { withSpindle (fun q => { q with phase := .stopping, restartHeld := held }) ready with
        permitHolder := holder }
      (s.spindle .bay0).phase = .stopping ∧ (s.spindle .bay0).restartHeld = held ∧
        s.permitHolder = holder) ∧
    (ready.spindle .bay0).phase ≠ .stopping := by decide

/-- The window of 16,666 µs and its half of 1,041 µs: its two ends, just outside them, and a miss. -/
theorem witness_PeriodsAndIndexPulses :
    60000000 / turning.activeTarget = 16666 ∧ 16666 / 16 = 1041 ∧ turning.indexArmed = true ∧
      turning.indexSince = some 0 ∧ 16666 - 1041 ≤ 0 + 15625 ∧ 0 + 17707 ≤ 16666 + 1041 ∧
      0 + 15624 < 16666 - 1041 ∧ 16666 + 1041 < 0 + 17708 ∧ 16666 + 1041 ≤ 17707 ∧
      Spindle.reset.indexArmed = false ∧
      ¬(ready.channel.grant = some .bay0 ∧ ready.channel.search = .formatting) := by decide

/-- An ID field of the Target, of another sector, and of another cylinder, for a task that reads and one
that writes; with a slot, and without. -/
theorem witness_IdFieldsAreMatched :
    ready.channel.search ≠ .searching ∧
    (∀ k ∈ [1, 2], (searching k).channel.grant = some .bay0 ∧
      (searching k).channel.target = some ⟨3, 0, 8⟩ ∧ (searching k).channel.search = .searching ∧
      (searching k).client? .bay0 = some (.task 0) ∧ (searching k).entry? 0 = some (task k) ∧
      (task k).run = some ⟨.bay0, 3, 0, [⟨some 200, 8⟩, ⟨some 201, 9⟩]⟩ ∧ (task k).ending = none ∧
      ((searching k).entries.map Entry.id).Nodup) ∧
    (∀ f ∈ [idOf 3 0 8, idOf 3 0 9, idOf 4 0 8], idPasses f = true) ∧
    idCylinder (idOf 3 0 8) = 3 ∧ idCylinder (idOf 4 0 8) = 4 ∧ (idOf 3 0 9).sector.toNat ≠ 8 ∧
    readPurpose (task 1) = some .read ∧ readPurpose (task 2) = none ∧
    (searching 1).slotForTake (.task 0) = some 0 ∧
    ({ searching 1 with slots := [] } : State).slotForTake (.task 0) = none ∧
    (withSlot (sectorSlot .full .write) (searching 2)).slotFor? 0 (.lsn 200) = some 0 ∧
    (searching 2).slotFor? 0 (.lsn 200) = none ∧
    ((withSlot (sectorSlot .full .write) (searching 2)).slots[0]?.map Slot.state) = some .full ∧
    (searching 2).gateAllowed .bay0 3 = true ∧
    (let s := { searching 1 with entries := [{ task 1 with ending := some .ejected }] }
     s.client? .bay0 = some (.task 0) ∧ (s.entry? 0).map Entry.ending = some (some .ejected)) ∧
    (let s := withMap (fun m => { m with status := .mounting, mountStage := .atChannel })
       { searching 1 with entries := [] }
     s.client? .bay0 = some .mount ∧ s.channel.grant = some .bay0 ∧ s.freeSlot? = some 0 ∧
       ({ s with slots := [] } : State).freeSlot? = none) := by decide +kernel

set_option maxRecDepth 20000 in
theorem witness_ReadFieldsEnd :
    ready.channel.search ≠ .reading ∧
    (∀ x ∈ [(1, Purpose.read), (3, .verify), (4, .copy)],
      let s := reading x.1 x.2
      s.channel.grant = some .bay0 ∧ s.channel.slot = some 0 ∧ s.channel.search = .reading ∧
        s.client? .bay0 = some (.task 0) ∧ s.entry? 0 = some (task x.1) ∧
        readPurpose (task x.1) = some x.2 ∧ (s.entries.map Entry.id).Nodup) ∧
    dataPasses zeroField = true ∧ dataPasses badField = false := by decide +kernel

/-- A Verify that waits for the mount of bay 0. -/
def awaitsMount : Entry :=
  { task 3 with stage := .bayWait, waits := ⟨.mount, .passed⟩, run := none }

/-- A mount that may begin, with the heads in RETRACTING, where an ended sequence has left an order, in FAULT
and in FOLLOWING. -/
theorem witness_MountBeginsAndItsReadDecides_begins :
    (let s := withMap (fun _ => .reset) (withHeads (fun p =>
        { p with state := .retracting, held := some ⟨.recalibrate, .mount⟩ }) ready)
     s.mountable .bay0 = true ∧ (s.positioner .bay0).state ≠ .fault ∧
       ((s.beginMount .bay0).map .bay0).mountOrder = .outstanding) ∧
    (let s := withMap (fun _ => .reset) (withHeads (fun p => { p with state := .fault }) ready)
     s.mountable .bay0 = true ∧ (s.positioner .bay0).state = .fault) ∧
    (withMap (fun _ => .reset) ready).mountable .bay0 = true := by decide +kernel

/-- R95, R111, R112: a Wrong Cylinder in the mount's read with an idle Park held. The recalibrate waits behind
the Park (log 44), the Park ends the sequence, and the waiting task has it begun again at once: settled, with
the new order held for the heads' return and awaited. -/
theorem witness_MountBeginsAndItsReadDecides_restarted :
    let s : State := withHeads (fun p => { p with counter := 638, target := 638, held := some ⟨.park, .bay⟩ })
      (withMap (fun m => { m with status := .mounting, mountStage := .atChannel })
        { withTask awaitsMount ready with
          channel := { Channel.reset with
            grant := some .bay0, search := .searching, target := some ⟨638, 0, 0⟩, readGate := true } })
    awaitsMount.names .bay0 = true ∧ awaitsMount.ending = none ∧
    nextIs (exec (.idField (idOf 4 0 0)) s)
      (fun t => (firstWait t waits).isNone && (t.map .bay0).status == .none && t.entries == [awaitsMount] &&
        (t.map .bay0).mountStage == .loading && (t.map .bay0).mountOrder == .outstanding &&
        (t.positioner .bay0).state == .retracting &&
        (t.positioner .bay0).held == some ⟨.loadRecalibrate, .mount⟩) = true := by decide +kernel

set_option maxRecDepth 20000 in
/-- The mount's read with a record that is well-formed, one that is not, and a field that fails. -/
theorem witness_MountBeginsAndItsReadDecides :
    let record := recordBytes [⟨200, 0⟩] 1
    let s : State :=
      { withMap (fun m => { m with status := .mounting, mountStage := .atChannel }) ready with
        channel := { Channel.reset with grant := some .bay0, search := .reading, slot := some 0 } }
    s.channel.grant = some .bay0 ∧ s.channel.search = .reading ∧
      (s.map .bay0).mountStage = .atChannel ∧ s.channel.slot = some 0 ∧
      readRecord record = some ([⟨200, 0⟩], 1) ∧ dataPasses zeroField = true ∧
      readRecord zeroField.bytes.toList = none ∧ dataPasses badField = false ∧
      min 8 (s.channel.retryCount.get .bay0 + 1) ≤ s.settings.retryLimit := by decide +kernel

theorem witness_WrittenFieldsEnd :
    writing.channel.grant = some .bay0 ∧ writing.channel.search = .writing ∧
      writing.channel.slot = some 0 ∧ writing.client? .bay0 = some (.task 0) ∧
      writing.entry? 0 = some (task 2) ∧ (task 2).kind = some .write ∧
      (task 12).kind = some .reassign ∧ (task 13).kind = some .resetRecord ∧
      writing.channel.heldPress = none ∧ (writing.entries.map Entry.id).Nodup ∧
      (let s := { writing with channel := { writing.channel with heldPress := some .bay0 } }
       s.channel.heldPress = some .bay0 ∧ s.resetInProgress = false ∧ s.supply.accepted = false ∧
         (s.bay .bay0).presentUndecided = false ∧ (s.bay .bay0).state = .locked ∧
         (s.bay .bay0).prevent = false ∧ (task 2).names .bay0 = true ∧ (task 2).releases = false) ∧
      ((withBay (fun c => { c with prevent := true }) writing).bay .bay0).prevent = true ∧
      (∀ k ∈ [12, 13], ({ writing with entries := [task k] } : State).client? .bay0 = some (.task 0) ∧
        ({ writing with entries := [task k] } : State).entry? 0 = some (task k)) := by decide +kernel

/-- Each step of a format with the check armed and the reference at 0, at both ends of the window; a
reference in part counted; the check disarmed, and armed without a reference; a gate that is not allowed. -/
theorem witness_FormatLaysTheTrack :
    (∀ x ∈ [FormatStep.arming, .laying, .closing],
      let s := formatting x
      s.channel.grant = some .bay0 ∧ s.channel.search = .formatting ∧ s.channel.format = x ∧
        s.client? .bay0 = some (.task 0) ∧ (s.entry? 0).isSome = true ∧
        (s.entry? 0).bind Entry.run = some ⟨.bay0, 3, 0, []⟩ ∧ (s.entries.map Entry.id).Nodup ∧
        (s.entry? 0).map Entry.ending = some none ∧ (s.spindle .bay0).indexArmed = true ∧
        (s.spindle .bay0).indexSince = some 0 ∧ (s.spindle .bay0).activeTarget = 3600 ∧
        s.gateAllowed .bay0 3 = true) ∧
    (∀ x ∈ [15625, 17707], 60000000 / 3600 - 60000000 / 3600 / 16 ≤ 0 + x ∧
      0 + x ≤ 60000000 / 3600 + 60000000 / 3600 / 16) ∧
    ((withSpindle (fun q => { q with indexSince := some 16000 }) (formatting .laying)).spindle
      .bay0).indexSince = some 16000 ∧
    ((withSpindle (fun q => { q with indexArmed := false }) (formatting .arming)).spindle
      .bay0).indexArmed = false ∧
    ((withSpindle (fun q => { q with indexSince := none }) (formatting .arming)).spindle
      .bay0).indexSince = none ∧
    (withBay (fun c => { c with writeProtect := ⟨true, 0⟩ }) (formatting .arming)).gateAllowed .bay0 3 =
      false := by decide +kernel

/-- A burst in progress; a slot that requests; a finish; a Condition Record; and none of them. -/
theorem witness_GrantServesOneRequest :
    (bursting .poll 4100 [] ready).burst ≠ none ∧ ready.burst = none ∧
    (let s := withSlot (sectorSlot .full .read) (searching 1)
     ∃ x ∈ s.slots.zipIdx, slotRequests x.1 = true ∧ ∀ y ∈ s.slots.zipIdx, slotRequests y.1 = true →
       x.1.age < y.1.age ∨ (x.1.age = y.1.age ∧ x.2 ≤ y.2)) ∧
    (let s := { withTask { task 1 with state := .finishing, ending := some .complete } ready with finishing := [0] }
     (∀ x ∈ s.slots, slotRequests x = false) ∧ s.finishing.head? = some 0 ∧ (s.entry? 0).isSome = true) ∧
    (let s := withLink (fun l => { l with recordOrder := [.bay1], pendingRecord := ⟨.none, .raised⟩ }) ready
     (∀ x ∈ s.slots, slotRequests x = false) ∧ s.finishing = [] ∧ s.link.recordOrder.head? = some .bay1) ∧
    (∀ x ∈ ready.slots, slotRequests x = false) ∧ ready.finishing = [] ∧ ready.link.recordOrder = [] := by
  decide +kernel

/-- A grant with no burst in progress, whose burst is the start write, and the read of a block. -/
theorem witness_BurstsGoWhereTheRulesName :
    let s := withLink (fun l => { l with startWrite := true }) ready
    s.burst = none ∧ nextIs (exec .dmaGrant s) (fun t => t.burst.map Burst.work == some .startWrite) = true ∧
      nextIs (exec .dmaGrant (withLink (fun l => { l with fetch := .readBlock 256 }) ready)) (fun t =>
        t.burst.map (fun x => (x.work, x.address)) == some (.readBlock 256, 256)) = true := by
  decide +kernel

/-- A burst of the task's slot, for each purpose, that is not the last and that is. -/
theorem witness_SlotBurstsMoveTheSector :
    ∀ p ∈ [Purpose.read, .write, .settingsIn, .settingsOut], ∀ n ∈ [0, 16, 240],
      let s := bursting (.slot 0) 8192 [] (withSlot (fun x => { sectorSlot .draining p x with wordsMoved := n })
        (searching 1))
      s.burst = some ⟨.slot 0, 8192, [], false⟩ ∧
        (s.slots[0]?.map fun y => (y.purpose, y.owner, y.wordsMoved)) =
          some (some p, some (.task 0), n) ∧ s.entry? 0 = some (task 1) := by decide +kernel

/-- Each access of the Link Port in progress; the four kinds of link a walk can read; a link read that ends
while Reset in Progress shows, and one that ends outside RUNNING. -/
theorem witness_LinkBurstsEnd :
    (∀ w ∈ [BurstWork.startWrite, .faultClear, .readLink, .readBlock 256, .writeCursor, .writeTaken,
        .writeFault .brokenChain, .reread, .poll, .record .bay0 1#16 true, .finish 0, .finish 1],
      (bursting w 4096 [] ready).burst = some ⟨w, 4096, [], false⟩) ∧
    ready.link.state = .running ∧ ready.resetInProgress = false ∧ State.reset.link.state ≠ .running ∧
    ready.link.fetch ≠ .readLink ∧ (withLink (fun l => { l with fetch := .readLink }) ready).link.fetch = .readLink ∧
    (let s := withLink (fun l => { l with fetch := .readLink }) { ready with resetInProgress := true }
     s.link.fetch = .readLink ∧ s.link.state = .running ∧ s.resetInProgress = true) ∧
    (withLink (fun l => { l with state := .draining, fetch := .readLink }) ready).link.state ≠ .running ∧
    (bursting (.stamp 256 (task 1).block) 280 [1#16] ready).burst.map Burst.work =
      some (.stamp 256 (task 1).block) ∧
    ({ bursting (.finish 2) 4114 [] (searching 1) with finishing := [0] } : State).finishing.head? =
      some 0 ∧
    2 ^ 24 ≤ 65536 * 256 ∧ 264 % 16 ≠ 0 ∧ 256 < 2 ^ 24 ∧ 256 % 16 = 0 := by decide

theorem witness_LinkAndEjectTimersExpire :
    (ready.link.pollTimer = none ∧ ready.link.refreshTimer.get .bay0 = none) ∧
    (let s := withLink (fun l => { l with pollTimer := some 9, refreshTimer := ⟨some 9, none⟩ }) ready
     s.link.pollTimer.isSome = true ∧ (s.link.refreshTimer.get .bay0).isSome = true ∧
       s.link.pendingRecord.get .bay0 = .none ∧ .bay0 ∉ s.link.recordOrder) ∧
    (let s := withLink (fun l => { l with refreshTimer := ⟨some 9, none⟩, pendingRecord := ⟨.raised, .none⟩ }) ready
     s.link.pendingRecord.get .bay0 ≠ .none) ∧
    (let c := (withBay (fun c => { c with pulse := some 300, leave := some 2000, startBound := some 2000 })
       ready).bay .bay0
     c.pulse.isSome = true ∧ c.leave.isSome = true ∧ c.startBound.isSome = true) ∧
    (ready.bay .bay0).pulse = none ∧ (ready.bay .bay0).leave = none ∧ (ready.bay .bay0).startBound = none := by
  decide

/-- R74, R111: a mount at the channel stage whose heads the Positioner parks for no order of its own. -/
def readBehind (f : Positioner → Positioner) : State :=
  withMap (fun m => { m with status := .mounting, mountStage := .atChannel })
    (withHeads (fun p => f { p with state := .retracting, retractTimer := some 5 }) ready)

/-- R111: an idle Park that joins such a retract, or that is held till it ends, ends the sequence, and the
heads stay PARKED. R21: the idle timer stays stopped meanwhile. -/
theorem test_park_ends_the_mount :
    nextIs (exec (.idleTimerExpiry .bay0) (withBay (fun c => { c with idle := some 9 }) (readBehind id)))
      (fun t => (t.map .bay0).mountStage == .idle && (t.map .bay0).status == .none &&
        (t.positioner .bay0).order == some ⟨.park, .bay⟩ && (t.bay .bay0).idleSpent &&
        (t.bay .bay0).idle.isNone) = true ∧
    nextIs (exec (.parkHoldEnd .bay0)
        (readBehind (fun p => { p with parkHold := some 50, held := some ⟨.park, .bay⟩ })))
      (fun t => (t.map .bay0).mountStage == .idle && (t.map .bay0).status == .none &&
        (t.positioner .bay0).state == .parked) = true := by decide +kernel

theorem witness_RetryAndIdleParkTheHeads :
    ((ready.bay .bay0).retry = none ∧ (ready.bay .bay0).idle = none) ∧
    (let s := withBay (fun c => { c with retry := some 1000, idle := some 9 })
       (withHeads (fun p => { p with state := .fault }) ready)
     (s.bay .bay0).retry.isSome = true ∧ (s.spindle .bay0).phase = .locked ∧
       (s.positioner .bay0).state = .fault ∧ s.supply.accepted = false) ∧
    (let s := withBay (fun c => { c with retry := some 1000 }) State.reset
     (s.bay .bay0).retry.isSome = true ∧
       ¬((s.spindle .bay0).phase = .locked ∨ (s.spindle .bay0).phase = .drifting)) ∧
    (let s := withBay (fun c => { c with idle := some 9 }) ready
     (s.bay .bay0).idle.isSome = true ∧ s.settings.idleLimit ≠ 0 ∧
       (s.positioner .bay0).state = .following ∧ (s.positioner .bay0).held = none) ∧
    (∀ held ∈ [none, some (⟨.park, .bay⟩ : Order), some ⟨.loadRecalibrate, .task 0⟩],
      let s := withBay (fun c => { c with idle := some 9 })
        (withHeads (fun p => { p with state := .parked, held := held }) ready)
      (s.bay .bay0).idle.isSome = true ∧ (s.positioner .bay0).state = .parked ∧
        (s.positioner .bay0).held = held ∧ (s.map .bay0).mountStage = .idle) ∧
    (∀ held ∈ [none, some (⟨.loadRecalibrate, .task 0⟩ : Order)],
      let s := withBay (fun c => { c with idle := some 9 }) (readBehind (fun p => { p with held := held }))
      (s.bay .bay0).idle.isSome = true ∧ (s.positioner .bay0).state = .retracting ∧
        s.supply.accepted = false ∧ (s.positioner .bay0).held = held ∧
        ∀ g, (s.positioner .bay0).order ≠ some ⟨.park, g⟩) := by
  refine ⟨by decide, by decide, by decide, by decide, by decide, ?_⟩
  intro held hh
  refine ⟨rfl, rfl, rfl, rfl, ?_⟩
  intro g
  exact fun h => nomatch h

/-- The default profile; a distance below its first, between two and past its last breakpoint. -/
theorem witness_DemandFollowsTheProfile :
    profileAcceptable defaultProfile = true ∧ defaultProfile.head? = some ⟨1, 16⟩ ∧ 0 < 1 ∧
      defaultProfile.getLast? = some ⟨128, 192⟩ ∧ 128 ≤ 400 ∧ defaultProfile[3]? = some ⟨8, 48⟩ ∧
      defaultProfile[4]? = some ⟨16, 68⟩ ∧ 8 ≤ 15 ∧ 15 < 16 := by decide

/-- A table of two entries whose law holds: one redirected LSN and one that is not. -/
def twoEntries : DefectMap :=
  { DefectMap.reset with status := .valid, table := [⟨100, 70⟩, ⟨7776, 0⟩], nextSpare := 71 }

theorem witness_TranslationIsOneToOne :
    twoEntries.tableLaw ∧ (100 < 40448 ∧ ⟨100, 70⟩ ∈ twoEntries.table) ∧
      ∀ e ∈ twoEntries.table, e.lsn ≠ 40447 := by
  unfold DefectMap.tableLaw
  decide

/-- A record with two entries is well-formed, and a zero one is not. -/
theorem witness_WellFormedRecordsAreLoaded :
    let data := recordBytes twoEntries.table 71
    (mediumField2 data 0 = 0xD5E3 ∧ mediumField2 data 2 = 2 ∧ mediumField2 data 4 = 71 ∧
      mediumField2 data 8 = 100 ∧ mediumField2 data 10 = 70 ∧ mediumField2 data 12 = 7776 ∧
      mediumField2 data 14 = 0) ∧ mediumField2 [] 0 ≠ 0xD5E3 := by decide +kernel

theorem witness_StepKeepsTheTableLaw :
    (∀ b, (ready.map b).tableLaw) ∧ (∃ t, step ready = .next t) ∧
    twoEntries.tableLaw ∧ reassignResult 200 twoEntries = none ∧ reassignResult 100 twoEntries = none := by
  unfold DefectMap.tableLaw
  refine ⟨?_, ⟨_, rfl⟩, by decide⟩
  intro b; cases b <;> decide

theorem witness_SettingsAreTakenInRange : Settings.default.inRange := by
  unfold Settings.inRange
  decide

theorem witness_WhatIsRecordedIsReadBack :
    (638 ≤ 638 ∧ 1 ≤ 1 ∧ 31 ≤ 31) ∧ twoEntries.tableLaw ∧ ∀ e ∈ twoEntries.table, e.lsn < 40448 := by
  unfold DefectMap.tableLaw
  decide

theorem witness_InterleavePlacesEverySector : 1 ≤ 31 ∧ 31 ≤ 31 ∧ 1 ≤ 1 := by decide

/-- A redirected LSN, and one whose run ends before a redirected one. -/
theorem witness_RunsAreTheLongest :
    1 ≤ 4 ∧ 1 ≤ 32 ∧ (findEntry twoEntries.table 100).isSome = true ∧
      (findEntry twoEntries.table 98).isSome = false ∧ (formRun .bay0 twoEntries.table 98 4 32).sectors.length = 2 := by
  decide

/-- Tasks whose first failing check is the kind, the bay, the range and the address, and one that passes. -/
theorem witness_FieldChecksDecideInOrder :
    State.reset.checkResult (task 0) = some .badKind ∧
    State.reset.checkResult { task 1 with block := { (task 1).block with bay := 2 } } = some .badBay ∧
    State.reset.checkResult { task 1 with block := { (task 1).block with count := 0 } } = some .outOfRange ∧
    State.reset.checkResult { task 1 with block := { (task 1).block with buffer := 8193 } } =
      some .badAddress ∧
    ready.checkResult (task 1) = none := by decide

/-- Every kind that names a bay, with fields in order; each Bay State; the generations, Write Protect and
an Abort mark; a task whose turn has come, and one that waits for Present. -/
theorem witness_BayGateDecidesTheStart :
    (∀ x ∈ [(1, 200), (2, 200), (3, 200), (4, 200), (5, 3), (6, 0), (7, 0), (8, 0), (9, 0), (10, 0),
        (11, 16777219), (12, 200), (13, 0)],
      let e := { task x.1 with block := { (task x.1).block with address := x.2, secondBay := 1 } }
      ∃ k, e.kind = some k ∧ k.partWide = false ∧ baysInOrder k e.block = true ∧
        Machine.inRange k e.block = true ∧ bufferInOrder k e.block = true) ∧
    (task 1).block.expectedGeneration = 0 ∧ (ready.bay .bay0).generation ≠ 0 ∧
    ready.checkResult (task 1) = none ∧ State.reset.checkResult (task 1) = some .noMedia ∧
    (withBay (fun c => { c with writeProtect := ⟨true, 0⟩ }) ready).checkResult (task 2) =
      some .writeProtected ∧
    (∀ k ∈ [1, 2, 3, 5, 6, 7, 12], ready.checkResult { task k with
        block := { (task k).block with address := if k = 5 then 3 else if k = 6 then 0
                                                    else if k = 7 then 0 else 200 } } = none) ∧
    (withMap (fun m => { m with status := .absent }) ready).checkResult (task 12) = some .recordNotValid ∧
    (withMap (fun m => { m with nextSpare := 384 }) ready).checkResult (task 12) = some .tableFull ∧
    (withMap (fun m => { m with status := .mounting }) ready).checkResult (task 12) = none ∧
    (∀ x ∈ [BayState.seated, .fault, .ejecting, .releasing .seated, .releasing .ejecting],
      ((withBay (fun c => { c with state := x }) ready).bay (task 1).bay).state = x) ∧
    (withBay (fun c => { c with state := .seated }) ready).checkResult (task 8) = some .complete ∧
    (withBay (fun c => { c with state := .seated }) ready).checkResult (task 10) = none ∧
    (ready.supply.accepted = false ∧ State.reset.permitHolder = none ∧ ready.permitHolder = none) ∧
    (let s : State := { ready with
       bays := ⟨{ lockedBay with state := .seated }, { lockedBay with state := .seated }⟩
       spindles := .both .reset }
     let e := { task 4 with block := { (task 4).block with secondBay := 1 } }
     s.checkResult e = none ∧ e.bay ≠ e.secondBay ∧ s.permitHolder = none ∧
       (s.spindle .bay0).phase = .stopped ∧ (s.spindle .bay1).phase = .stopped) ∧
    (withTask (task 1) ready).turnCome (task 1) = true ∧
    (withBay (fun c => { c with presentUndecided := true }) (withTask (task 1) ready)).turnCome (task 1) =
      false := by
  refine ⟨?_, by decide +kernel⟩
  intro x hx
  simp only [List.mem_cons, List.not_mem_nil, or_false] at hx
  rcases hx with rfl | rfl | rfl | rfl | rfl | rfl | rfl | rfl | rfl | rfl | rfl | rfl | rfl <;>
    exact ⟨_, rfl, by decide, by decide, by decide, by decide⟩

theorem witness_HostMemoryReadsWhatWasWritten :
    Memory.wf [(4096, 7#8)] = true ∧ [1#16, 2#16].length ≤ 16 ∧ [1#16, 2#16][1]? = some 2#16 ∧
      ∀ i, i < 2 * [1#16, 2#16].length → (4096 : Nat) ≠ (16777214 + i) % 2 ^ 24 := by decide

end Sys2Proof.Tests
end

/-!
PROOFS. The placement of the sectors on a track (spec/04 R101): what the search for a free position finds,
what each placement keeps, and the obligation O56.
-/

namespace Sys2Proof.Machine

/-! ### The search for a free position -/

/-- R101: `q` is the first position at or after `p`, modulo 32, that `taken` leaves free. -/
def FirstFree (taken : List Nat) (p q : Nat) : Prop :=
  q ∉ taken ∧ ∃ step, step < 32 ∧ q = (p + step) % 32 ∧ ∀ j, j < step → (p + j) % 32 ∈ taken

theorem FirstFree.lt {taken : List Nat} {p q : Nat} (h : FirstFree taken p q) : q < 32 := by
  obtain ⟨-, step, -, rfl, -⟩ := h
  omega

/-- Reducing the position where the search begins modulo 32 changes nothing. -/
theorem firstFree_mod_iff {taken : List Nat} {p q : Nat} :
    FirstFree taken (p % 32) q ↔ FirstFree taken p q := by
  simp only [FirstFree, Nat.mod_add_mod]

/-- Fewer than 32 positions given out leave one free, so the search from any `p` meets it. -/
theorem exists_free_position {taken : List Nat} (hlen : taken.length < 32) (p : Nat) :
    ∃ step, step < 32 ∧ (p + step) % 32 ∉ taken := by
  by_contra! hall
  have hsub : List.range 32 ⊆ taken := by
    intro q hq
    have hq32 : q < 32 := List.mem_range.mp hq
    have hmem := hall ((q + 32 - p % 32) % 32) (by omega)
    rwa [show (p + (q + 32 - p % 32) % 32) % 32 = q by omega] at hmem
  have hle : (List.range 32).length ≤ taken.length :=
    (List.nodup_range.subperm hsub).length_le
  rw [List.length_range] at hle
  omega

/-- The search stops after as many advances as there are taken positions before the free one. -/
theorem freePosition_eq {taken : List Nat} : ∀ {tries step p : Nat}, p < 32 → step < tries →
    (p + step) % 32 ∉ taken → (∀ j, j < step → (p + j) % 32 ∈ taken) →
    freePosition taken tries p = (p + step) % 32
  | 0, _, _, _, hlt, _, _ => absurd hlt (Nat.not_lt_zero _)
  | tries + 1, 0, p, hp, _, hfree, _ => by
    have hmod : (p + 0) % 32 = p := Nat.mod_eq_of_lt hp
    rw [hmod] at hfree ⊢
    simp only [freePosition, if_neg hfree]
  | tries + 1, step + 1, p, hp, hlt, hfree, hbefore => by
    have hshift (j : Nat) : ((p + 1) % 32 + j) % 32 = (p + (j + 1)) % 32 := by omega
    have htaken : p ∈ taken := by
      have h0 := hbefore 0 step.succ_pos
      rwa [Nat.add_zero, Nat.mod_eq_of_lt hp] at h0
    have ih : freePosition taken tries ((p + 1) % 32) = ((p + 1) % 32 + step) % 32 :=
      freePosition_eq (Nat.mod_lt _ (by decide)) (by omega) (by rwa [hshift])
        fun j hj => by rw [hshift]; exact hbefore (j + 1) (by omega)
    simp only [freePosition, if_pos htaken, ih, hshift]

/-- While a position is free, 32 tries find the first one. -/
theorem freePosition_firstFree {taken : List Nat} {p : Nat} (hp : p < 32)
    (hlen : taken.length < 32) : FirstFree taken p (freePosition taken 32 p) := by
  have hex := exists_free_position hlen p
  obtain ⟨hstep, hfree⟩ := Nat.find_spec hex
  have hbefore : ∀ j, j < Nat.find hex → (p + j) % 32 ∈ taken := by
    intro j hj
    by_contra hnot
    exact Nat.find_min hex hj ⟨by omega, hnot⟩
  rw [freePosition_eq hp hstep hfree hbefore]
  exact ⟨hfree, _, hstep, rfl, hbefore⟩

/-! ### The placement, sector after sector -/

/-- R101 for the sectors placed so far: `l` holds their positions in order of the sectors. -/
structure PlacedInOrder (k : Nat) (l : List Nat) : Prop where
  nodup : l.Nodup
  inRange : ∀ q ∈ l, q < 32
  first : l[0]? = some 0
  next : ∀ s, s + 1 < l.length → FirstFree (l.take (s + 1)) (l.getD s 0 + k) (l.getD (s + 1) 0)

/-- Sector 0 stands at position 0. -/
theorem placedInOrder_singleton (k : Nat) : PlacedInOrder k [0] where
  nodup := List.nodup_singleton 0
  inRange := by simp
  first := rfl
  next := by simp

/-- The next sector, at the first free position at or after the last one's plus `k`, keeps the placement. -/
theorem PlacedInOrder.append {k q q' : Nat} {l : List Nat} (h : PlacedInOrder k (l ++ [q]))
    (hfree : FirstFree (l ++ [q]) (q + k) q') : PlacedInOrder k (l ++ [q] ++ [q']) where
  nodup := by
    rw [← List.concat_eq_append (as := l ++ [q])]
    exact h.nodup.concat hfree.1
  inRange := by
    intro x hx
    obtain hx | hx := List.mem_append.mp hx
    · exact h.inRange x hx
    · exact List.mem_singleton.mp hx ▸ hfree.lt
  first := by
    rw [List.getElem?_append_left (by simp)]
    exact h.first
  next := by
    intro s hs
    have hbound : s + 1 ≤ (l ++ [q]).length := by simpa using hs
    rw [List.take_append_of_le_length hbound, List.getD_append _ _ _ _ hbound]
    obtain hlt | heq := Nat.lt_or_eq_of_le hbound
    · rw [List.getD_append _ _ _ _ hlt]
      exact h.next s hlt
    · have hs_eq : s = l.length := by simpa using heq
      subst hs_eq
      rw [List.take_of_length_le (by simp)]
      simpa using hfree

/-- Placing the sectors left, one after the other, completes a placement begun by R101 to all 32. -/
theorem positionsFrom_placedInOrder (k : Nat) : ∀ (left q : Nat) (taken : List Nat),
    (q :: taken).length + left = 32 → PlacedInOrder k (q :: taken).reverse →
    PlacedInOrder k (positionsFrom k left ((q + k) % 32) (q :: taken)) ∧
      (positionsFrom k left ((q + k) % 32) (q :: taken)).length = 32
  | 0, _, _, hlen, h => ⟨h, by simpa [positionsFrom] using hlen⟩
  | left + 1, q, taken, hlen, h => by
    have hsearch : FirstFree (q :: taken) (q + k) (freePosition (q :: taken) 32 ((q + k) % 32)) :=
      firstFree_mod_iff.mp (freePosition_firstFree (Nat.mod_lt _ (by decide)) (by omega))
    rw [List.reverse_cons] at h
    refine positionsFrom_placedInOrder k left _ (q :: taken) (by simp at hlen ⊢; omega) ?_
    rw [List.reverse_cons, List.reverse_cons]
    exact h.append (by simpa [FirstFree, or_comm] using hsearch)

/-- The placement begins with sector 0 at position 0. -/
theorem sectorPositions_eq (k : Nat) :
    sectorPositions k = positionsFrom k 31 ((0 + k) % 32) [0] := by
  have hsearch : freePosition [] 32 0 = 0 := rfl
  rw [sectorPositions, positionsFrom, hsearch]

/-- Every interleave places all 32 sectors as R101 says. -/
theorem sectorPositions_placedInOrder (k : Nat) :
    PlacedInOrder k (sectorPositions k) ∧ (sectorPositions k).length = 32 := by
  rw [sectorPositions_eq]
  exact positionsFrom_placedInOrder k 31 0 [] rfl (placedInOrder_singleton k)

/-! ### The sector at a position -/

/-- The position of a sector holds that sector: the two tables of R101 are inverse. -/
theorem interleave_getElem?_position (k : Nat) {s : Nat} (hs : s < (sectorPositions k).length) :
    (interleave k)[(sectorPositions k)[s]]? = some s := by
  obtain ⟨hplaced, -⟩ := sectorPositions_placedInOrder k
  have hpos : (sectorPositions k)[s] < 32 := hplaced.inRange _ (List.getElem_mem hs)
  have hidx : (sectorPositions k).findIdx (· == (sectorPositions k)[s]) = s :=
    hplaced.nodup.idxOf_getElem s hs
  simp [interleave, List.getElem?_range hpos, hidx]

/-- Settles O56, from the placement R101 keeps sector after sector; it needs no bound on `k`. -/
theorem interleavePlacesEverySector : Obligations.InterleavePlacesEverySector := by
  intro k _ _
  obtain ⟨hplaced, hlen⟩ := sectorPositions_placedInOrder k
  refine ⟨hlen, hplaced.nodup, hplaced.first, ?_, ?_⟩
  · intro s hs
    have hs' : s + 1 < (sectorPositions k).length := by omega
    obtain ⟨-, step, hstep, hpos, hbefore⟩ := hplaced.next s hs'
    refine ⟨step, hstep, ?_, hbefore⟩
    rw [← hpos, List.getElem?_eq_getElem hs', List.getD_eq_getElem _ _ hs']
  · intro s hs
    have hs' : s < (sectorPositions k).length := by omega
    rw [List.getD_eq_getElem _ _ hs']
    exact interleave_getElem?_position k hs'

end Sys2Proof.Machine

/-!
PROOFS. The Defect Record read at mount (spec/05 R107): what its entries are, what the check of the table
says of them, and the obligation O52.
-/

namespace Sys2Proof.Machine

/-- A check of every two neighbours of a list is the chain of the relation that it checks. -/
theorem all_zip_tail_iff_isChain {α : Type} (R : α → α → Prop) [DecidableRel R] : ∀ l : List α,
    (l.zip l.tail).all (fun x => decide (R x.1 x.2)) = true ↔ l.IsChain R
  | [] => by simp
  | [a] => by simp
  | a :: b :: l => by
    have ih := all_zip_tail_iff_isChain R (b :: l)
    rw [List.tail_cons] at ih
    rw [List.tail_cons, List.zip_cons_cons, List.all_cons, Bool.and_eq_true, ih,
      List.isChain_cons_cons, decide_eq_true_iff]

/-! ### The check of a table (R107) -/

/-- R107: the check of a table, in terms of its entries. -/
theorem tableAcceptable_iff (entries : List RemapEntry) (nextSpare : Nat) :
    tableAcceptable entries nextSpare = true ↔
      (∀ e ∈ entries, e.lsn < Config.userSectors ∧ e.spare < nextSpare) ∧
        entries.IsChain (fun x y => x.lsn < y.lsn) ∧ (entries.map RemapEntry.spare).Nodup := by
  rw [tableAcceptable, Bool.and_eq_true, Bool.and_eq_true, and_assoc,
    all_zip_tail_iff_isChain fun x y : RemapEntry => x.lsn < y.lsn, List.all_eq_true]
  simp only [decide_eq_true_iff]

/-! ### The entries of a record (spec/11 section 11.6) -/

/-- A property of every entry of a record is one of its two fields at every position. -/
theorem forall_mem_recordEntries (bs : List Byte) (n : Nat) (P : RemapEntry → Prop) :
    (∀ e ∈ recordEntries bs n, P e) ↔
      ∀ i, i < n → P ⟨mediumField2 bs (8 + 4 * i), mediumField2 bs (10 + 4 * i)⟩ := by
  simp only [recordEntries, List.forall_mem_map, List.mem_range]

/-- The LSNs of a record ascend when each is below the one at the next position. -/
theorem isChain_recordEntries_iff (bs : List Byte) (n : Nat) :
    (recordEntries bs n).IsChain (fun x y => x.lsn < y.lsn) ↔
      ∀ i, i + 1 < n → mediumField2 bs (8 + 4 * i) < mediumField2 bs (8 + 4 * (i + 1)) := by
  rw [recordEntries, List.isChain_map, List.isChain_range]
  simp only [Nat.lt_sub_iff_add_lt, Nat.succ_eq_add_one]

/-- The spare indices of a record are distinct when those at any two positions are. -/
theorem nodup_spare_recordEntries_iff (bs : List Byte) (n : Nat) :
    ((recordEntries bs n).map RemapEntry.spare).Nodup ↔
      ∀ i j, i < j → j < n → mediumField2 bs (10 + 4 * i) ≠ mediumField2 bs (10 + 4 * j) := by
  rw [List.Nodup, List.pairwise_iff_getElem]
  simp only [recordEntries, List.getElem_map, List.getElem_range, List.length_map, List.length_range]
  exact ⟨fun h i j hij hj => h i j (hij.trans hj) hj hij, fun h i j _ hj hij => h i j hij hj⟩

/-- R107: the conditions on the entries, position by position. -/
theorem tableAcceptable_recordEntries_iff (bs : List Byte) (n nextSpare : Nat) :
    tableAcceptable (recordEntries bs n) nextSpare = true ↔
      (∀ i, i + 1 < n → mediumField2 bs (8 + 4 * i) < mediumField2 bs (8 + 4 * (i + 1))) ∧
      (∀ i, i < n → mediumField2 bs (8 + 4 * i) < Config.userSectors) ∧
      (∀ i, i < n → mediumField2 bs (10 + 4 * i) < nextSpare) ∧
      ∀ i j, i < j → j < n → mediumField2 bs (10 + 4 * i) ≠ mediumField2 bs (10 + 4 * j) := by
  rw [tableAcceptable_iff, forall_mem_recordEntries, isChain_recordEntries_iff,
    nodup_spare_recordEntries_iff]
  constructor
  · rintro ⟨hbound, hascend, hdistinct⟩
    exact ⟨hascend, fun i hi => (hbound i hi).1, fun i hi => (hbound i hi).2, hdistinct⟩
  · rintro ⟨hascend, hlsn, hspare, hdistinct⟩
    exact ⟨fun i hi => ⟨hlsn i hi, hspare i hi⟩, hascend, hdistinct⟩

/-- Settles O52: the check of `readRecord` is R107's list of conditions, position by position. -/
theorem wellFormedRecordsAreLoaded : Obligations.WellFormedRecordsAreLoaded := by
  intro data count next lsn spare wellFormed
  have hcheck : (mediumField2 data 0 = recordMark ∧ count ≤ Config.tableSize ∧
      next ≤ Config.spareSectors ∧ tableAcceptable (recordEntries data count) next = true) ↔
      wellFormed := by
    rw [tableAcceptable_recordEntries_iff]
    rfl
  exact ⟨fun h => if_pos (hcheck.mpr h), fun h => if_neg (mt hcheck.mp h)⟩

end Sys2Proof.Machine

/-!
PROOFS. The dispatch checks (spec/07 R140 to R142): the codes of the kinds, what each of the four checks on
the fields of an entry asks, which results the checks after them can give, and the obligation O58.
-/

namespace Sys2Proof.Machine

/-! ### The codes of the kinds -/

/-- The Kind field that names a kind: the inverse of `taskKind`. -/
def TaskKind.code : TaskKind → Nat
  | .read => 1
  | .write => 2
  | .verify => 3
  | .copy => 4
  | .seek => 5
  | .recalibrate => 6
  | .spinUp => 7
  | .spinDown => 8
  | .lock => 9
  | .eject => 10
  | .formatTrack => 11
  | .reassign => 12
  | .resetRecord => 13
  | .setParameters => 14
  | .readSettings => 15

/-- A Kind field names a kind exactly when it is the code of it. -/
theorem taskKind_eq_some_iff {n : Nat} {k : TaskKind} : taskKind n = some k ↔ n = k.code := by
  constructor
  · intro h
    unfold taskKind at h
    split at h <;> cases h <;> rfl
  · rintro rfl
    cases k <;> rfl

theorem TaskKind.one_le_code_le (k : TaskKind) : 1 ≤ k.code ∧ k.code ≤ 15 := by
  cases k <;> decide

/-- R140, check 1: the fields that name no kind are those outside 1 to 15. -/
theorem taskKind_eq_none_iff {n : Nat} : taskKind n = none ↔ ¬(1 ≤ n ∧ n ≤ 15) := by
  constructor
  · intro hnone hn
    obtain ⟨hlow, hhigh⟩ := hn
    interval_cases n <;> cases hnone
  · intro hn
    by_contra hsome
    obtain ⟨k, hk⟩ := Option.ne_none_iff_exists'.mp hsome
    exact hn (taskKind_eq_some_iff.mp hk ▸ k.one_le_code_le)

theorem TaskKind.partWide_iff_code (k : TaskKind) : k.partWide = true ↔ k.code = 14 ∨ k.code = 15 := by
  cases k <;> decide

theorem TaskKind.eq_copy_iff_code (k : TaskKind) : k = .copy ↔ k.code = 4 := by
  cases k <;> decide

/-! ### The checks on the fields, by the code of the kind (R140) -/

/-- Check 2. -/
theorem baysInOrder_iff (k : TaskKind) (t : TaskBlock) : baysInOrder k t = true ↔
    k.code = 14 ∨ k.code = 15 ∨ (t.bay ≤ 1 ∧ (k.code = 4 → t.secondBay ≤ 1)) := by
  rw [← or_assoc, ← k.partWide_iff_code, ← k.eq_copy_iff_code]
  simp [baysInOrder, Decidable.imp_iff_not_or]

/-- Check 3. -/
theorem inRange_iff (k : TaskKind) (t : TaskBlock) : Machine.inRange k t = true ↔
    ((k.code = 1 ∨ k.code = 2 ∨ k.code = 3 ∨ k.code = 4) →
      1 ≤ t.count ∧ t.count ≤ 128 ∧ t.address + t.count ≤ 40448) ∧
    (k.code = 4 → t.parameter + t.count ≤ 40448) ∧
    (k.code = 5 ∨ k.code = 11 → t.address % 65536 ≤ 638 ∧ t.address / 65536 % 256 ≤ 1) ∧
    (k.code = 11 → 1 ≤ t.address / 16777216 ∧ t.address / 16777216 ≤ 31) ∧
    (k.code = 12 → t.address < 40448) := by
  cases k <;> simp only [Machine.inRange, decide_eq_true_iff] <;>
    simp [TaskKind.code, TaskBlock.cylinder, TaskBlock.head, TaskBlock.interleave,
      Config.userSectors, Config.lastCylinder, and_assoc]

/-- Check 4. -/
theorem bufferInOrder_iff (k : TaskKind) (t : TaskBlock) : bufferInOrder k t = true ↔
    ((k.code = 1 ∨ k.code = 2) → t.buffer % 2 = 0 ∧ t.buffer < 2 ^ 24 ∧
      t.buffer + 512 * t.count ≤ 16777216) ∧
    ((k.code = 14 ∨ k.code = 15) → t.buffer % 2 = 0 ∧ t.buffer < 2 ^ 24 ∧
      t.buffer + 64 ≤ 16777216) := by
  cases k <;> simp only [bufferInOrder, decide_eq_true_iff] <;>
    simp [TaskKind.code, Config.hostSize]

/-! ### The results of the checks after them (R141, R142) -/

/-- R22: the results of the gate. -/
def gateResults : List Result := [.noMedia, .complete, .mediaNotReady]

/-- R113: the results of the check of a Reassign against its table. -/
def tableResults : List Result := [.recordNotValid, .tableFull]

/-- R141, R142: the results of checks 5 to 8. -/
def bayCheckResults : List Result := [.mediaChanged, .writeProtected] ++ gateResults ++ tableResults

theorem mem_of_reassignResult {lsn : Nat} {m : DefectMap} {r : Result}
    (h : reassignResult lsn m = some r) : r ∈ tableResults := by
  unfold reassignResult at h
  split_ifs at h <;> cases h <;> decide

theorem State.mem_of_gateResult {s : State} {k : TaskKind} {release : Bool} {b : Bay} {r : Result}
    (h : s.gateResult k release b = some r) : r ∈ gateResults := by
  unfold State.gateResult at h
  repeat' split at h
  all_goals cases h <;> decide

/-- The result of the gate is that of one of the bays. -/
theorem State.mem_of_gate {s : State} {k : TaskKind} {e : Entry} {r : Result}
    (h : s.gate k e = some r) : r ∈ gateResults := by
  obtain hsource | ⟨-, hdest⟩ := Option.or_eq_some_iff.mp h
  · exact mem_of_gateResult hsource
  · split_ifs at hdest
    exact mem_of_gateResult hdest

theorem State.mem_of_bayChecks {s : State} {k : TaskKind} {e : Entry} {r : Result}
    (h : s.bayChecks k e = some r) : r ∈ bayCheckResults := by
  unfold State.bayChecks at h
  split at h
  · cases h
    decide
  split at h
  next hgate =>
    cases h
    simp [bayCheckResults, mem_of_gate hgate]
  next =>
    split_ifs at h
    · cases h
      decide
    · simp [bayCheckResults, mem_of_reassignResult h]

/-! ### The order of the checks (R140) -/

section Checks

variable {s : State} {e : Entry} {k : TaskKind}

theorem State.checkResult_of_no_kind (hk : e.kind = none) : s.checkResult e = some .badKind := by
  rw [State.checkResult, hk]

/-- The checks after the first, in their order. -/
theorem State.checkResult_of_kind (hk : e.kind = some k) : s.checkResult e =
    if ¬baysInOrder k e.block = true then some .badBay
    else if ¬Machine.inRange k e.block = true then some .outOfRange
    else if ¬bufferInOrder k e.block = true then some .badAddress
    else if k.partWide = true then none else s.bayChecks k e := by
  rw [State.checkResult, hk]
  simp

/-- An entry that passes the four checks gets no result but those of the checks on its bays. -/
theorem State.bayChecks_of_checkResult {r : Result} (hk : e.kind = some k)
    (hbay : baysInOrder k e.block = true) (hrange : Machine.inRange k e.block = true)
    (hbuffer : bufferInOrder k e.block = true) (h : s.checkResult e = some r) :
    s.bayChecks k e = some r := by
  rw [checkResult_of_kind hk, if_neg (not_not.mpr hbay), if_neg (not_not.mpr hrange),
    if_neg (not_not.mpr hbuffer)] at h
  split_ifs at h
  exact h

end Checks

/-- Settles O58: each check of `checkResult` is R140's condition on the fields, and no check after the four
gives one of their results. -/
theorem fieldChecksDecideInOrder : Obligations.FieldChecksDecideInOrder := by
  intro s e t kind goodKind goodBay goodRange goodAddress
  cases hk : e.kind with
  | none =>
    have hbad : ¬goodKind := taskKind_eq_none_iff.mp hk
    exact ⟨fun _ => State.checkResult_of_no_kind hk, fun h => absurd h hbad, fun h => absurd h hbad,
      fun h => absurd h hbad, fun h => absurd h hbad⟩
  | some k =>
    have hcode : kind = k.code := taskKind_eq_some_iff.mp hk
    have hkind : goodKind := by
      simpa only [goodKind, hcode] using k.one_le_code_le
    have hbay : baysInOrder k e.block = true ↔ goodBay := by
      simpa only [goodBay, hcode] using baysInOrder_iff k t
    have hrange : Machine.inRange k e.block = true ↔ goodRange := by
      simpa only [goodRange, hcode] using inRange_iff k t
    have hbuffer : bufferInOrder k e.block = true ↔ goodAddress := by
      simpa only [goodAddress, hcode] using bufferInOrder_iff k t
    have horder := State.checkResult_of_kind (s := s) hk
    simp only [hbay, hrange, hbuffer] at horder
    refine ⟨fun h => absurd hkind h, fun _ hb => ?_, fun _ hb hr => ?_, fun _ hb hr ha => ?_,
      fun _ hb hr ha => ?_⟩
    · rw [horder, if_pos hb]
    · rw [horder, if_neg (not_not.mpr hb), if_pos hr]
    · rw [horder, if_neg (not_not.mpr hb), if_neg (not_not.mpr hr), if_pos ha]
    · have hlater {r : Result} (h : s.checkResult e = some r) : r ∈ bayCheckResults :=
        State.mem_of_bayChecks <|
          State.bayChecks_of_checkResult hk (hbay.mpr hb) (hrange.mpr hr) (hbuffer.mpr ha) h
      exact ⟨mt hlater (by decide), mt hlater (by decide), mt hlater (by decide),
        mt hlater (by decide)⟩

end Sys2Proof.Machine

/-!
PROOFS. What the operations of the part can do to a state, said once for every law: a property that the
elementary changes of one record keep (`KeptBase`, `Kept`) is kept by every operation built from them.
-/

namespace Sys2Proof.Machine

/-! ### The changes of one record

Each structure says what every change of a record that an operation makes has in common. -/

/-- A timer after a change: stopped, started from 0, or as it was. -/
def TimerKept (x y : Option Nat) : Prop := y = none ∨ y = some 0 ∨ y = x

@[simp] theorem TimerKept.refl (x : Option Nat) : TimerKept x x := .inr (.inr rfl)
@[simp] theorem TimerKept.stopped (x : Option Nat) : TimerKept x none := .inl rfl
@[simp] theorem TimerKept.begun (x : Option Nat) : TimerKept x (some 0) := .inr (.inl rfl)

theorem TimerKept.or_begun (x : Option Nat) : TimerKept x (x.or (some 0)) := by
  cases x <;> simp

theorem TimerKept.restarted (x : Option Nat) : TimerKept x (x.map fun _ => 0) := by
  cases x <;> simp

theorem TimerKept.timerWhile (runs : Bool) (x : Option Nat) : TimerKept x (timerWhile runs x) := by
  cases runs
  · exact .stopped x
  · exact .or_begun x

theorem TimerKept.below {limit : Nat} {x y : Option Nat} (h : TimerKept x y) (hpos : 0 < limit)
    (hx : below limit x) : below limit y := by
  rcases h with rfl | rfl | rfl
  · simp [Machine.below]
  · simpa [Machine.below] using hpos
  · exact hx

/-- A change of a Bay Controller that no sample and no insertion makes: the sampled inputs and Media
Generation stand. -/
structure BayStep (c d : BayControl) : Prop where
  generation : d.generation = c.generation
  inputs : d.present = c.present ∧ d.writeProtect = c.writeProtect ∧ d.button = c.button ∧
    d.parkDetect = c.parkDetect ∧ d.presentUndecided = c.presentUndecided ∧
    d.undecidedLevel = c.undecidedLevel ∧ d.sensing = c.sensing
  timers : TimerKept c.pulse d.pulse ∧ TimerKept c.leave d.leave ∧ TimerKept c.startBound d.startBound ∧
    TimerKept c.retry d.retry ∧ TimerKept c.idle d.idle

/-- A change of a Spindle Controller that leaves its phase. -/
structure SpindleStep (t : Settings) (q r : Spindle) : Prop where
  phase : r.phase = q.phase
  range : t.inRange → q.inRange → r.inRange
  timers : TimerKept q.startTimer r.startTimer ∧ TimerKept q.spinUpTimer r.spinUpTimer ∧
    TimerKept q.driftTimer r.driftTimer ∧ TimerKept q.stopTimer r.stopTimer
  mark : TimerKept q.markTimer r.markTimer

/-- R62 to R75: the timers of the motions over the platter run in a loaded state only. -/
def Positioner.motionOk (p : Positioner) : Prop :=
  (p.loadTimer.isSome ∨ p.recalTimer.isSome ∨ p.seekTimer.isSome ∨ p.settleLimit.isSome ∨
    p.stopTimer.isSome) → p.state.loaded = true

/-- A change of a Positioner that no sample makes. -/
structure PositionerStep (t : Settings) (p r : Positioner) : Prop where
  range : t.inRange → p.inRange → r.inRange
  motion : p.motionOk → r.motionOk
  motions : TimerKept p.loadTimer r.loadTimer ∧ TimerKept p.recalTimer r.recalTimer ∧
    TimerKept p.seekTimer r.seekTimer ∧ TimerKept p.settleLimit r.settleLimit ∧
    TimerKept p.stopTimer r.stopTimer
  settle : t.inRange → r.state = .settling →
    r.settleWait ≠ some 0 ∨ (p.state = .settling ∧ r.settleWait = p.settleWait)
  hold : r.state = .retracting →
    r.parkHold = none ∨ r.parkHold = some 0 ∨ (p.state = .retracting ∧ r.parkHold = p.parkHold)
  retract : r.state = .retracting → r.parkHold = none → r.retractTimer = none ∨ r.retractTimer = some 0 ∨
    (p.state = .retracting ∧ p.parkHold = none ∧ r.retractTimer = p.retractTimer)
  vel : r.state.underLoop = true →
    r.velTimer = 0 ∨ (p.state.underLoop = true ∧ r.velTimer = p.velTimer)
  sample : r.sampling = true → r.sampleTimer = 0 ∨ (p.sampling = true ∧ r.sampleTimer = p.sampleTimer)
  guard : r.outerGuard = p.outerGuard

/-- The range of a Defect Map Unit's counts. -/
def DefectMap.inRange (m : DefectMap) : Prop := m.softErrors ≤ 255 ∧ m.mountRetries ≤ 255

/-- A change of a Defect Map Unit. -/
structure MapStep (m n : DefectMap) : Prop where
  range : m.inRange → n.inRange
  table : m.tableLaw → n.tableLaw

/-- The range of the channel's counts. -/
structure Channel.inRange (c : Channel) : Prop where
  retryCount : ∀ b, c.retryCount.get b ≤ 8
  searches : c.searchRevs ≤ 1 ∧ c.formatRevs ≤ 1 ∧ c.formatPosition ≤ 31

/-- A change of the channel that takes up no slot: it lets go of the slot of the field in progress or leaves
the field as it was, or is a channel that no bay has been granted. -/
structure ChannelStep (c d : Channel) : Prop where
  range : c.inRange → d.inRange
  slot : d.slot = none ∨ (d.slot = c.slot ∧ (c.grant = none ∨ (d.search = c.search ∧ d.grant = c.grant)))

/-- A change of an entry that leaves its name, its block and its state. -/
structure EntryStep (e f : Entry) : Prop where
  id : f.id = e.id
  block : f.block = e.block
  state : f.state = e.state
  range : e.retriesUsed ≤ 255 → f.retriesUsed ≤ 255

/-- A change of the Link Port that leaves its state and the chain walk. -/
structure LinkStep (l m : Link) : Prop where
  state : m.state = l.state
  haltedFrom : m.haltedFrom = l.haltedFrom
  fetch : m.fetch = l.fetch
  refresh : ∀ b, TimerKept (l.refreshTimer.get b) (m.refreshTimer.get b)
  poll : TimerKept l.pollTimer m.pollTimer

/-- What of a slot the laws of the pool speak of. -/
def Slot.key (x : Slot) : SlotState × Option Owner × Option Purpose := (x.state, x.owner, x.purpose)

/-- No field in progress fills a slot of a bay's mount. -/
def State.mountOff (s : State) (b : Bay) : Prop :=
  s.channel.slot = none ∨ s.channel.search = .searching ∨ s.channel.grant ≠ some b ∨
    (s.map b).mountStage ≠ .atChannel

/-! ### Each change of a record is a step -/

theorem BayStep.refl (c : BayControl) : BayStep c c := ⟨rfl, by simp, by simp⟩

theorem SpindleStep.refl (t : Settings) (q : Spindle) : SpindleStep t q q :=
  ⟨rfl, fun _ h => h, by simp, by simp⟩

theorem EntryStep.refl (e : Entry) : EntryStep e e := ⟨rfl, rfl, rfl, fun h => h⟩

theorem EntryStep.trans {e f g : Entry} (h : EntryStep e f) (h' : EntryStep f g) : EntryStep e g :=
  ⟨h'.id.trans h.id, h'.block.trans h.block, h'.state.trans h.state, fun hr => h'.range (h.range hr)⟩

theorem LinkStep.refl (l : Link) : LinkStep l l := ⟨rfl, rfl, rfl, by simp, by simp⟩

theorem raiseRecord_step (b : Bay) (l : Link) : LinkStep l (raiseRecord b l) :=
  ⟨rfl, rfl, rfl, by simp [raiseRecord], by simp [raiseRecord]⟩

theorem ejectingEntered_step (c : BayControl) : BayStep c (ejectingEntered c) :=
  ⟨rfl, by simp [ejectingEntered], by simp [ejectingEntered]⟩

theorem ejectStopped_step (c : BayControl) : BayStep c (ejectStopped c) :=
  ⟨rfl, by simp [ejectStopped], by simp [ejectStopped]⟩

theorem raiseTo_le (top n : Nat) : raiseTo top n ≤ top := by
  unfold raiseTo; split <;> omega

theorem retryCounted_step (e : Entry) : EntryStep e (retryCounted e) :=
  ⟨rfl, rfl, rfl, fun _ => raiseTo_le ..⟩

theorem decided_step (r : Result) (n : Nat) (e : Entry) : EntryStep e (decided r n e) := by
  unfold decided
  repeat' split
  all_goals exact ⟨rfl, rfl, rfl, fun h => h⟩

theorem completed_step (e : Entry) : EntryStep e (completed e) := decided_step ..

theorem releaseReached_step (b : Bay) (e : Entry) : EntryStep e (releaseReached b e) := by
  unfold releaseReached
  repeat' split
  · exact ⟨rfl, rfl, rfl, fun h => h⟩
  · exact completed_step e
  · exact .refl e

theorem runPopped_step (e : Entry) : EntryStep e (runPopped e) := by
  unfold runPopped
  repeat' split
  all_goals exact ⟨rfl, rfl, rfl, fun h => h⟩

theorem sectorCounted_step (counts : Bool) (e : Entry) : EntryStep e (sectorCounted counts e) := by
  have hcounted : EntryStep e { e with
      next := e.next + 1, sectorsDone := e.sectorsDone + (if counts then 1 else 0) } :=
    ⟨rfl, rfl, rfl, fun h => h⟩
  unfold sectorCounted
  extract_lets f
  split
  · exact hcounted.trans (completed_step _)
  · exact hcounted

theorem slipOver_step (b : Bay) (e : Entry) : EntryStep e (slipOver b e) := by
  unfold slipOver
  split
  · exact ⟨rfl, rfl, rfl, fun h => h⟩
  · exact .refl e

theorem stopAwaited_step (b : Bay) (e : Entry) : EntryStep e (stopAwaited b e) := by
  unfold stopAwaited
  split
  · exact ⟨rfl, rfl, rfl, fun h => h⟩
  · exact .refl e

end Sys2Proof.Machine

namespace Sys2Proof.Machine

/-! ### The motions of a Positioner as steps -/

theorem clampInt_mem {x lo hi : Int} (h : lo ≤ hi) : lo ≤ clampInt x lo hi ∧ clampInt x lo hi ≤ hi := by
  unfold clampInt
  split_ifs <;> omega

theorem loopDac_mem (p : Positioner) : -127 ≤ loopDac p ∧ loopDac p ≤ 127 := by
  have ha : ∀ v vt, -127 ≤ currentDemand p.kv v vt ∧ currentDemand p.kv v vt ≤ 127 :=
    fun v vt => clampInt_mem (by decide)
  unfold loopDac
  extract_lets motion a
  obtain ⟨hlo, hhi⟩ : -127 ≤ a ∧ a ≤ 127 := ha ..
  cases motion <;> dsimp only <;> omega

/-- A change that leaves the state, the motion timers, the samples and the counted registers. -/
theorem PositionerStep.same {t : Settings} {p r : Positioner} (state : r.state = p.state := by rfl)
    (counter : r.counter = p.counter := by rfl) (vmeas : r.vmeas = p.vmeas := by rfl)
    (crossTimer : r.crossTimer = p.crossTimer := by rfl) (velTimer : r.velTimer = p.velTimer := by rfl)
    (dac : r.dac = p.dac := by rfl) (retries : r.retractRetries = p.retractRetries := by rfl)
    (load : r.loadTimer = p.loadTimer := by rfl) (recal : r.recalTimer = p.recalTimer := by rfl)
    (seek : r.seekTimer = p.seekTimer := by rfl) (limit : r.settleLimit = p.settleLimit := by rfl)
    (wait : r.settleWait = p.settleWait := by rfl) (stop : r.stopTimer = p.stopTimer := by rfl)
    (retract : r.retractTimer = p.retractTimer := by rfl) (hold : r.parkHold = p.parkHold := by rfl)
    (sampling : r.sampling = p.sampling := by rfl) (sampleTimer : r.sampleTimer = p.sampleTimer := by rfl)
    (guard : r.outerGuard = p.outerGuard := by rfl) : PositionerStep t p r where
  range _ h := by
    obtain ⟨hcounter, hvmeas, hcross, hdac, hretries⟩ := h
    exact ⟨by rwa [counter], by rwa [vmeas], by rwa [crossTimer], by rwa [dac], by rwa [retries]⟩
  motion h := by simpa only [Positioner.motionOk, load, recal, seek, limit, stop, state] using h
  motions := by simp [load, recal, seek, limit, stop]
  settle _ h := .inr ⟨state ▸ h, wait⟩
  hold h := .inr (.inr ⟨state ▸ h, hold⟩)
  retract h hnone := .inr (.inr ⟨state ▸ h, hold ▸ hnone, retract⟩)
  vel h := .inr ⟨state ▸ h, velTimer⟩
  sample h := .inr ⟨sampling ▸ h, sampleTimer⟩
  guard := guard

theorem PositionerStep.refl (t : Settings) (p : Positioner) : PositionerStep t p p := .same

/-- Two changes, one after the other. -/
theorem PositionerStep.trans {t : Settings} {p q r : Positioner} (h : PositionerStep t p q)
    (h' : PositionerStep t q r) : PositionerStep t p r where
  range ht hp := h'.range ht (h.range ht hp)
  motion hp := h'.motion (h.motion hp)
  motions := by
    have trans {x y z : Option Nat} (hxy : TimerKept x y) (hyz : TimerKept y z) : TimerKept x z := by
      rcases hyz with rfl | rfl | rfl <;> simp [hxy]
    obtain ⟨a, b, c, d, e⟩ := h.motions
    obtain ⟨a', b', c', d', e'⟩ := h'.motions
    exact ⟨trans a a', trans b b', trans c c', trans d d', trans e e'⟩
  settle ht hr := by
    rcases h'.settle ht hr with hw | ⟨hq, hw⟩
    · exact .inl hw
    · exact hw ▸ h.settle ht hq
  hold hr := by
    rcases h'.hold hr with hw | hw | ⟨hq, hw⟩
    · exact .inl hw
    · exact .inr (.inl hw)
    · exact hw ▸ h.hold hq
  retract hr hn := by
    rcases h'.retract hr hn with hw | hw | ⟨hq, hn', hw⟩
    · exact .inl hw
    · exact .inr (.inl hw)
    · exact hw ▸ h.retract hq hn'
  vel hr := by
    rcases h'.vel hr with hw | ⟨hq, hw⟩
    · exact .inl hw
    · exact hw ▸ h.vel hq
  sample hr := by
    rcases h'.sample hr with hw | ⟨hq, hw⟩
    · exact .inl hw
    · exact hw ▸ h.sample hq
  guard := h'.guard.trans h.guard

/-- The demand recomputed: the DAC stays within its range and the next 500 µs run. -/
theorem demandComputed_step (t : Settings) (p : Positioner) : PositionerStep t p (demandComputed p) where
  range _ h := ⟨h.counter, h.vmeas, h.crossTimer, loopDac_mem p, h.retractRetries⟩
  motion h := h
  motions := by simp [demandComputed]
  settle _ h := .inr ⟨h, rfl⟩
  hold h := .inr (.inr ⟨h, rfl⟩)
  retract h hn := .inr (.inr ⟨h, hn, rfl⟩)
  vel _ := .inl rfl
  sample h := .inr ⟨h, rfl⟩
  guard := rfl

/-- A change into a state of the velocity loop or any other of a motion over the platter, with the motion's
demand still to be computed. -/
theorem PositionerStep.motionBegun {t : Settings} {p r : Positioner} (loaded : r.state.loaded = true)
    (counter : r.counter = p.counter) (vmeas : r.vmeas = p.vmeas) (crossTimer : r.crossTimer = p.crossTimer)
    (dac : -127 ≤ p.dac ∧ p.dac ≤ 127 → -127 ≤ r.dac ∧ r.dac ≤ 127)
    (retries : r.retractRetries = p.retractRetries)
    (motions : TimerKept p.loadTimer r.loadTimer ∧ TimerKept p.recalTimer r.recalTimer ∧
      TimerKept p.seekTimer r.seekTimer ∧ TimerKept p.settleLimit r.settleLimit ∧
      TimerKept p.stopTimer r.stopTimer)
    (settle : t.inRange → r.state = .settling → r.settleWait ≠ some 0)
    (vel : r.state.underLoop = true → r.velTimer = 0) (sampling : r.sampling = false)
    (guard : r.outerGuard = p.outerGuard) : PositionerStep t p r where
  range _ h := by
    obtain ⟨hcounter, hvmeas, hcross, hdac, hretries⟩ := h
    exact ⟨by rwa [counter], by rwa [vmeas], by rwa [crossTimer], dac hdac, by rwa [retries]⟩
  motion _ _ := loaded
  motions := motions
  settle ht h := .inl (settle ht h)
  hold h := by simp [h, Actuator.loaded] at loaded
  retract h := by simp [h, Actuator.loaded] at loaded
  vel h := .inl (vel h)
  sample h := by simp [sampling] at h
  guard := guard

theorem loadBegun_step (t : Settings) (p : Positioner) : PositionerStep t p (loadBegun p) :=
  .motionBegun rfl rfl rfl rfl (fun _ => by simp [loadBegun]) rfl
    (by simp [loadBegun, motionTimersStopped]) (fun _ h => nomatch h) (fun h => nomatch h) rfl rfl

theorem recalibrateBegun_step (t : Settings) (p : Positioner) :
    PositionerStep t p (recalibrateBegun t p) :=
  .motionBegun rfl rfl rfl rfl (fun _ => loopDac_mem _) rfl
    (by simp [recalibrateBegun, demandComputed, motionTimersStopped]) (fun _ h => nomatch h)
    (fun _ => rfl) rfl rfl

theorem seekBegun_step (t : Settings) (c : Nat) (p : Positioner) : PositionerStep t p (seekBegun t c p) :=
  .motionBegun rfl rfl rfl rfl (fun _ => loopDac_mem _) rfl
    (by simp [seekBegun, demandComputed, motionTimersStopped]) (fun _ h => nomatch h)
    (fun _ => rfl) rfl rfl

theorem stopBegun_step (t : Settings) (p : Positioner) : PositionerStep t p (stopBegun t p) :=
  .motionBegun rfl rfl rfl rfl (fun _ => loopDac_mem _) rfl
    (by simp [stopBegun, demandComputed, motionTimersStopped]) (fun _ h => nomatch h)
    (fun _ => rfl) rfl rfl

theorem reseekBegun_step (t : Settings) (p : Positioner) : PositionerStep t p (reseekBegun t p) :=
  .motionBegun rfl rfl rfl rfl (fun _ => loopDac_mem _) rfl
    (by
      simp only [reseekBegun, demandComputed, TimerKept.refl, true_and, and_true]
      split
      · exact .begun _
      · exact .or_begun _)
    (fun _ h => nomatch h) (fun _ => rfl) rfl rfl

theorem settlingEntered_step (t : Settings) (p : Positioner) : PositionerStep t p (settlingEntered t p) :=
  .motionBegun rfl rfl rfl rfl (fun _ => by simp [settlingEntered]) rfl
    (by
      simp only [settlingEntered, TimerKept.refl, true_and, and_true]
      exact .or_begun _)
    (fun ht _ => by
      obtain ⟨-, -, -, -, -, -, -, -, -, -, -, -, -, -, -, -, -, ⟨hsettle, -⟩, -⟩ := ht
      simp [settlingEntered]
      omega)
    (fun h => nomatch h) rfl rfl

/-- A change into a state off the platter with every timer of a motion stopped. -/
theorem PositionerStep.motionEnded {t : Settings} {p r : Positioner}
    (counter : r.counter = p.counter ∨ r.counter = 0) (vmeas : r.vmeas = p.vmeas ∨ r.vmeas = 0)
    (crossTimer : r.crossTimer = p.crossTimer ∨ r.crossTimer = 0) (dac : -127 ≤ r.dac ∧ r.dac ≤ 127)
    (retries : p.retractRetries ≤ 3 → r.retractRetries ≤ 3)
    (motions : r.loadTimer = none ∧ r.recalTimer = none ∧ r.seekTimer = none ∧ r.settleLimit = none ∧
      r.stopTimer = none)
    (settle : r.settleWait = none) (hold : r.parkHold = none ∨ r.parkHold = some 0)
    (retract : r.retractTimer = none ∨ r.retractTimer = some 0) (off : r.state.underLoop = false)
    (sampling : r.sampling = false) (guard : r.outerGuard = p.outerGuard) : PositionerStep t p r where
  range _ h := by
    obtain ⟨hcounter, hvmeas, hcross, -, hretries⟩ := h
    refine ⟨?_, ?_, ?_, dac, retries hretries⟩
    · rcases counter with e | e <;> rw [e]
      · exact hcounter
      · decide
    · rcases vmeas with e | e <;> rw [e]
      · exact hvmeas
      · decide
    · rcases crossTimer with e | e <;> rw [e]
      · exact hcross
      · decide
  motion _ h := by simp [motions] at h
  motions := by simp [motions]
  settle _ _ := .inl (by simp [settle])
  hold _ := hold.imp_right .inl
  retract _ _ := retract.imp_right .inl
  vel h := by simp [off] at h
  sample h := by simp [sampling] at h
  guard := guard

theorem retractBegun_step (t : Settings) (parked : Bool) (p : Positioner) :
    PositionerStep t p (retractBegun parked p) :=
  .motionEnded (.inl rfl) (.inl rfl) (.inl rfl) (by simp [retractBegun]) (fun h => h)
    ⟨rfl, rfl, rfl, rfl, rfl⟩ rfl (by cases parked <;> simp [retractBegun]) (.inr rfl) rfl rfl rfl

theorem parkEnded_step (t : Settings) (p : Positioner) : PositionerStep t p (parkEnded p) :=
  .motionEnded (.inr rfl) (.inr rfl) (.inr rfl) (by simp [parkEnded]) (fun h => h)
    ⟨rfl, rfl, rfl, rfl, rfl⟩ rfl (.inl rfl) (.inl rfl) rfl rfl rfl

theorem retractFailed_step (t : Settings) (p : Positioner) : PositionerStep t p (retractFailed p) :=
  .motionEnded (.inl rfl) (.inl rfl) (.inl rfl) (by simp [retractFailed])
    (fun h => by
      simp only [retractFailed, motionTimersStopped]
      split
      · exact raiseTo_le ..
      · exact h)
    ⟨rfl, rfl, rfl, rfl, rfl⟩ rfl (.inl rfl) (.inl rfl) rfl rfl rfl

theorem strandedActuator_step (t : Settings) (p : Positioner) : PositionerStep t p (strandedActuator p) :=
  .motionEnded (.inl rfl) (.inl rfl) (.inl rfl) (by simp [strandedActuator]) (fun h => h)
    ⟨rfl, rfl, rfl, rfl, rfl⟩ rfl (.inl rfl) (.inl rfl) rfl rfl rfl

theorem followingEntered_step (t : Settings) (p : Positioner) :
    PositionerStep t p { motionTimersStopped p with state := .following } where
  range _ h := ⟨h.counter, h.vmeas, h.crossTimer, h.dac, h.retractRetries⟩
  motion _ h := by simp [motionTimersStopped] at h
  motions := by simp [motionTimersStopped]
  settle _ h := nomatch h
  hold h := nomatch h
  retract h := nomatch h
  vel h := nomatch h
  sample h := nomatch h
  guard := rfl

/-- The DAC at rest. -/
theorem dacZero_step (t : Settings) (p : Positioner) : PositionerStep t p { p with dac := 0 } :=
  { PositionerStep.refl t p with
    range := fun _ h => ⟨h.counter, h.vmeas, h.crossTimer, by simp, h.retractRetries⟩ }

theorem velocityLegEnded_step (t : Settings) (p : Positioner) :
    PositionerStep t p (velocityLegEnded t p) := by
  unfold velocityLegEnded
  split
  · exact (dacZero_step t p).trans (recalibrateBegun_step t _)
  · exact ((dacZero_step t p).trans (.same : PositionerStep t _ { p with dac := 0, target := p.counter.toNat })).trans
      (settlingEntered_step t _)

/-- The timers of a motion stopped by its failure (R72). -/
theorem seekFaulted_step (t : Settings) (p : Positioner) :
    PositionerStep t p { p with
      seekTimer := none, settleLimit := none, settleWait := none, recalTimer := none, sampling := false
      onTrackCount := 0 } where
  range _ h := ⟨h.counter, h.vmeas, h.crossTimer, h.dac, h.retractRetries⟩
  motion h hr := by
    refine h ?_
    rcases hr with hl | hc | hs | hm | ho
    · exact .inl hl
    · cases hc
    · cases hs
    · cases hm
    · exact .inr (.inr (.inr (.inr ho)))
  motions := by simp
  settle _ _ := .inl (by simp)
  hold h := .inr (.inr ⟨h, rfl⟩)
  retract h hn := .inr (.inr ⟨h, hn, rfl⟩)
  vel h := .inr ⟨h, rfl⟩
  sample h := nomatch h
  guard := rfl

theorem mountAwaited_step (t : Settings) (p : Positioner) : PositionerStep t p (mountAwaited p) := .same

theorem withdrawHeld_step (t : Settings) (g : Giver) (p : Positioner) :
    PositionerStep t p (withdrawHeld g p) := by
  unfold withdrawHeld
  extract_lets behind
  split <;> exact .same

@[simp] theorem withdrawHeld_state (g : Giver) (p : Positioner) : (withdrawHeld g p).state = p.state := by
  unfold withdrawHeld
  extract_lets behind
  split <;> rfl

theorem ordersWithdrawn_step (t : Settings) (g : Giver) (p : Positioner) :
    PositionerStep t p (ordersWithdrawn g p) := by
  unfold ordersWithdrawn
  split
  · exact (PositionerStep.same : PositionerStep t p { p with order := none }).trans (withdrawHeld_step ..)
  · exact withdrawHeld_step ..

@[simp] theorem ordersWithdrawn_state (g : Giver) (p : Positioner) :
    (ordersWithdrawn g p).state = p.state := by
  unfold ordersWithdrawn
  split <;> simp

/-! ### The changes of a Spindle Controller that leave its phase -/

theorem SpindleStep.same {t : Settings} {q r : Spindle} (phase : r.phase = q.phase := by rfl)
    (history : r.history = q.history := by rfl) (mark : r.markTimer = q.markTimer := by rfl)
    (revCount : r.revCount = q.revCount := by rfl) (speed : r.speed = q.speed := by rfl)
    (target : r.activeTarget = q.activeTarget := by rfl) (integrator : r.integrator = q.integrator := by rfl)
    (staging : r.dutyStaging = q.dutyStaging := by rfl) (active : r.dutyActive = q.dutyActive := by rfl)
    (inBand : r.inBand = q.inBand := by rfl) (miss : r.missCount = q.missCount := by rfl)
    (start : r.startTimer = q.startTimer := by rfl) (spinUp : r.spinUpTimer = q.spinUpTimer := by rfl)
    (drift : r.driftTimer = q.driftTimer := by rfl) (stop : r.stopTimer = q.stopTimer := by rfl) :
    SpindleStep t q r where
  phase := phase
  range _ h := by
    obtain ⟨hhistory, hmark, hrev, hspeed, htarget, hint, hduty, hband, hmiss⟩ := h
    exact ⟨by rwa [history], by rwa [mark], by rwa [revCount], by rwa [speed], by rwa [target],
      by rwa [integrator], by rwa [staging, active], by rwa [inBand], by rwa [miss]⟩
  timers := by simp [start, spinUp, drift, stop]
  mark := by simp [mark]

theorem deferredBrake_step (t : Settings) (q : Spindle) : SpindleStep t q (deferredBrake q) := by
  unfold deferredBrake
  split
  · exact .same
  · exact .refl t q

/-! ### The changes of a Defect Map Unit -/

/-- A change that leaves the counts and the table. -/
theorem MapStep.same {m n : DefectMap} (soft : n.softErrors = m.softErrors := by rfl)
    (retries : n.mountRetries = m.mountRetries := by rfl) (table : n.table = m.table := by rfl)
    (next : n.nextSpare = m.nextSpare := by rfl) (status : n.status = m.status := by rfl) : MapStep m n where
  range h := ⟨soft ▸ h.1, retries ▸ h.2⟩
  table h := by simpa only [DefectMap.tableLaw, table, next, status] using h

theorem MapStep.refl (m : DefectMap) : MapStep m m := .same

theorem DefectMap.tableLaw_empty {m : DefectMap} (ht : m.table = []) (hn : m.nextSpare = 0) :
    m.tableLaw := by
  simp [DefectMap.tableLaw, ht, hn]

/-- A change that empties the table. -/
theorem MapStep.emptied {m n : DefectMap} (soft : n.softErrors ≤ m.softErrors)
    (retries : n.mountRetries = m.mountRetries) (table : n.table = []) (next : n.nextSpare = 0) :
    MapStep m n where
  range h := ⟨soft.trans h.1, retries ▸ h.2⟩
  table _ := DefectMap.tableLaw_empty table next

/-- R105: a table stands where its status leaves VALID for no value that asks for an empty one. -/
theorem MapStep.mountEnded (m : DefectMap) :
    MapStep m { m with
      status := if m.status = .mounting then .none else m.status
      mountStage := .idle, mountOrder := .idle } where
  range h := h
  table h := by
    obtain ⟨hlen, hsorted, hnodup, hspare, hnext, hvalid⟩ := h
    refine ⟨hlen, hsorted, hnodup, hspare, hnext, fun hs => hvalid fun he => hs ?_⟩
    simp [he]

theorem mountRetryCounted_step (m : DefectMap) : MapStep m (mountRetryCounted m) where
  range h := by
    refine ⟨h.1, ?_⟩
    unfold mountRetryCounted
    dsimp only
    split
    · exact h.2
    · exact raiseTo_le ..
  table h := h

theorem softErrorRaised_step (n : Nat) (m : DefectMap) : MapStep m (softErrorRaised n m) where
  range h := ⟨raiseTo_le .., h.2⟩
  table h := h

/-! ### The changes of the channel that take up no slot -/

theorem releasedChannel_step (c : Channel) : ChannelStep c (releasedChannel c) where
  range h := ⟨h.retryCount, by simp [releasedChannel]⟩
  slot := .inl rfl

/-- A change of the channel that leaves its counts and its field. -/
theorem ChannelStep.same {c d : Channel} (retry : d.retryCount = c.retryCount := by rfl)
    (search : d.searchRevs = c.searchRevs := by rfl) (format : d.formatRevs = c.formatRevs := by rfl)
    (position : d.formatPosition = c.formatPosition := by rfl)
    (slot : d.slot = none ∨ (d.slot = c.slot ∧
      (c.grant = none ∨ (d.search = c.search ∧ d.grant = c.grant))) := by
      exact .inr ⟨rfl, .inr ⟨rfl, rfl⟩⟩) : ChannelStep c d where
  range h := ⟨retry ▸ h.retryCount, search ▸ format ▸ position ▸ h.searches⟩
  slot := slot

/-! ### The slot of the field in progress -/

/-- No slot is held for a field in progress. -/
def Channel.slotFree (c : Channel) : Prop := c.slot = none ∨ c.search = .searching

theorem State.mountOff_of_slotFree {s : State} (h : s.channel.slotFree) (b : Bay) : s.mountOff b :=
  h.imp_right .inl

theorem State.mountOff_congr {s t : State} {b : Bay} (hc : t.channel = s.channel) (hm : t.maps = s.maps) :
    t.mountOff b ↔ s.mountOff b := by
  simp only [State.mountOff, State.map, hc, hm]

theorem State.loseChannel_slot {s : State} {b : Bay} (h : s.channel.grant = some b) :
    (s.loseChannel b).channel.slot = none := by
  rw [State.loseChannel, if_pos h]
  rfl

@[simp] theorem State.loseChannel_maps (s : State) (b : Bay) : (s.loseChannel b).maps = s.maps := by simp

/-- Once a mount's bay has lost the channel, no field fills a slot of the mount. -/
theorem State.mountOff_loseChannel (s : State) (b : Bay) : ((s.loseChannel b).withdrawWaiting b).mountOff b := by
  obtain ⟨-, hgrant⟩ := (s.loseChannel b).withdrawWaiting_channel b
  exact .inr (.inr (.inl (hgrant ▸ s.loseChannel_grant b)))

end Sys2Proof.Machine

namespace Sys2Proof.Machine

/-! ### A property that the elementary changes keep -/

/-- A property of states that every elementary change keeps, but for the changes of a spindle's phase, of the
permit, and of what the Task Queue and the Link Port count by. -/
structure KeptBase (P : State → Prop) : Prop where
  bay : ∀ {s : State} {b : Bay} {f : BayControl → BayControl}, P s → BayStep (s.bay b) (f (s.bay b)) →
    P { s with bays := s.bays.update b f }
  spindle : ∀ {s : State} {b : Bay} {f : Spindle → Spindle}, P s →
    SpindleStep s.settings (s.spindle b) (f (s.spindle b)) → P { s with spindles := s.spindles.update b f }
  positioner : ∀ {s : State} {b : Bay} {f : Positioner → Positioner}, P s →
    PositionerStep s.settings (s.positioner b) (f (s.positioner b)) →
    ((f (s.positioner b)).state.loaded = true →
      (s.positioner b).state.loaded = true ∨ (s.spindle b).phase.regulates = true) →
    P { s with positioners := s.positioners.update b f }
  map : ∀ {s : State} {b : Bay} {f : DefectMap → DefectMap}, P s → MapStep (s.map b) (f (s.map b)) →
    s.mountOff b ∨ (f (s.map b)).mountStage = (s.map b).mountStage →
    P { s with maps := s.maps.update b f }
  channel : ∀ {s : State} {c : Channel}, P s → ChannelStep s.channel c → P { s with channel := c }
  entries : ∀ {s : State} {f : Entry → Entry}, P s → (∀ e, EntryStep e (f e)) →
    P { s with entries := s.entries.map f }
  link : ∀ {s : State} {l : Link}, P s → LinkStep s.link l → P { s with link := l }
  waiters : ∀ {s : State} {w : List Nat}, P s → P { s with waiters := w }
  medium : ∀ {s : State} {m : Option MediumWrite}, P s → P { s with mediumOut := m }
  dma : ∀ {s : State} {d : Bool}, P s → P { s with dmaRequest := d }
  loseChannel : ∀ {s : State} {b : Bay}, P s → P (s.loseChannel b)
  freeMountSlots : ∀ {s : State} {b : Bay}, P s → s.mountOff b → P (s.freeMountSlots b)
  letGo : ∀ {s : State} {id : Nat}, P s → P (s.dropSlots (s.letsGo id))
  takeSlot : ∀ {s : State} {i : Nat} {st : SlotState} {o : Owner} {p : Purpose} {b : Bay}
    {sector : SlotSector} {host : Option Nat}, P s → s.slotForTake o = some i → st ≠ .free →
    P (s.takeSlot i st o p b sector host)
  slots : ∀ {s : State} {l : List Slot}, P s → l.map Slot.key = s.slots.map Slot.key →
    P { s with slots := l }

namespace KeptBase

variable {P : State → Prop} (k : KeptBase P) {s : State} {b : Bay}

include k

/-! ### The named updates -/

theorem report (h : P s) {c : Bool} : P (s.report b c) := by
  unfold State.report State.notable
  split_ifs
  · exact k.link h (raiseRecord_step b s.link)
  · exact h
  · exact h

theorem modBay {f : BayControl → BayControl} (h : P s) (step : BayStep (s.bay b) (f (s.bay b))) :
    P (s.modBay b f) :=
  k.report (k.bay h step)

theorem modSpindle {f : Spindle → Spindle} (h : P s)
    (step : SpindleStep s.settings (s.spindle b) (f (s.spindle b))) : P (s.modSpindle b f) :=
  k.report (k.spindle h step)

theorem modPositioner {f : Positioner → Positioner} (h : P s)
    (step : PositionerStep s.settings (s.positioner b) (f (s.positioner b)))
    (fly : (f (s.positioner b)).state.loaded = true →
      (s.positioner b).state.loaded = true ∨ (s.spindle b).phase.regulates = true) :
    P (s.modPositioner b f) :=
  k.report (k.positioner h step fly)

theorem modMap {f : DefectMap → DefectMap} (h : P s) (step : MapStep (s.map b) (f (s.map b)))
    (stage : s.mountOff b ∨ (f (s.map b)).mountStage = (s.map b).mountStage := by exact .inr rfl) :
    P (s.modMap b f) :=
  k.report (k.map h step stage)

theorem modChannel {f : Channel → Channel} (h : P s) (step : ChannelStep s.channel (f s.channel)) :
    P (s.modChannel f) :=
  k.channel h step

theorem modLink {f : Link → Link} (h : P s) (step : LinkStep s.link (f s.link)) : P (s.modLink f) :=
  k.link h step

theorem modEntry {id : Nat} {f : Entry → Entry} (h : P s) (step : ∀ e, EntryStep e (f e)) :
    P (s.modEntry id f) := by
  refine k.entries h fun e => ?_
  split
  · exact step e
  · exact .refl e

theorem modEntries {f : Entry → Entry} (h : P s) (step : ∀ e, EntryStep e (f e)) : P (s.modEntries f) :=
  k.entries h step

/-- A change of an entry that leaves its name, block, state and retries. -/
theorem setEntry {id : Nat} {f : Entry → Entry} (h : P s)
    (step : ∀ e, (f e).id = e.id ∧ (f e).block = e.block ∧ (f e).state = e.state ∧
      (f e).retriesUsed = e.retriesUsed := by exact fun _ => ⟨rfl, rfl, rfl, rfl⟩) :
    P (s.modEntry id f) := by
  refine k.modEntry h fun e => ?_
  obtain ⟨hid, hblock, hstate, hretries⟩ := step e
  exact ⟨hid, hblock, hstate, fun hr => hretries ▸ hr⟩

/-- A change of a slot that leaves its state, its owner and its purpose. -/
theorem modSlot {i : Nat} {f : Slot → Slot} (h : P s) (key : ∀ x, (f x).key = x.key) :
    P (s.modSlot i f) := by
  refine k.slots h (List.ext_getElem (by simp) fun j _ _ => ?_)
  simp only [List.getElem_map, List.getElem_modify]
  split
  · exact key _
  · rfl

theorem recordFault (h : P s) {f : FaultClass} : P (s.recordFault b f) :=
  k.modBay h ⟨rfl, by simp, by simp⟩

theorem setPositioner {f : Positioner → Positioner} (h : P s)
    (step : PositionerStep s.settings (s.positioner b) (f (s.positioner b)))
    (state : (f (s.positioner b)).state = (s.positioner b).state := by rfl) : P (s.modPositioner b f) :=
  k.modPositioner h step fun hl => .inl (state ▸ hl)

theorem handBack (h : P s) {o : Order} {outcome : OrderState} : P (s.handBack b o outcome) := by
  unfold State.handBack
  split
  · exact h
  · refine k.modMap h ?_ ?_ <;> split <;> first | exact .same | exact .inr rfl
  · refine k.modEntry h fun e => ?_
    split
    · exact ⟨rfl, rfl, rfl, fun h => h⟩
    · exact .refl e

theorem handBack? (h : P s) {o : Option Order} {outcome : OrderState} : P (s.handBack? b o outcome) := by
  unfold State.handBack?
  split
  · exact h
  · exact k.handBack h

theorem countRetry (h : P s) {g : Giver} : P (s.countRetry b g) := by
  unfold State.countRetry
  split
  · exact h
  · exact k.modMap h (mountRetryCounted_step _)
  · exact k.modEntry h retryCounted_step

theorem countReseek (h : P s) {g : Giver} : P (s.countReseek b g) := by
  unfold State.countReseek
  split
  · exact h
  · exact k.modMap h (mountRetryCounted_step _)
  · refine k.modEntry h fun e => ?_
    split
    · exact retryCounted_step e
    · exact .refl e

theorem decideEnd (h : P s) {id : Nat} {r : Result} {n : Nat} : P (s.decideEnd id r n) :=
  k.modEntry h (decided_step r n)

theorem complete (h : P s) {id : Nat} : P (s.complete id) := k.modEntry h completed_step

/-! ### The channel -/

theorem releaseChannel (h : P s) : P s.releaseChannel := k.modChannel h (releasedChannel_step _)

theorem releaseOf (h : P s) : P (s.releaseOf b) := by
  unfold State.releaseOf
  split
  · exact k.releaseChannel h
  · exact h

theorem withdrawWaiting (h : P s) : P (s.withdrawWaiting b) := by
  unfold State.withdrawWaiting
  split
  · exact k.modChannel h .same
  · exact h

/-- A field of a format cut short leaves its mark on the medium only. -/
theorem cutFormat (h : P s) (hs : s.channel.search = .formatting) : P (s.cutField b) := by
  unfold State.cutField
  rw [hs]
  dsimp only
  split
  · exact k.medium h
  · exact h

theorem endMount (h : P s) : P (s.endMount b) := by
  unfold State.endMount
  split
  · exact h
  extract_lets cut
  have hcut : P cut ∧ cut.mountOff b := by
    unfold cut
    split
    next => exact ⟨k.withdrawWaiting (k.loseChannel h), s.mountOff_loseChannel b⟩
    next hstage => exact ⟨h, .inr (.inr (.inr hstage))⟩
  obtain ⟨hkept, hoff⟩ := hcut
  refine k.modMap (k.freeMountSlots hkept hoff) (.mountEnded _) (.inl ?_)
  exact (State.mountOff_congr (by simp [State.freeMountSlots]) (by simp [State.freeMountSlots])).mpr hoff

theorem clearMount (h : P s) : P (s.clearMount b) :=
  k.modMap (k.endMount h) (.emptied le_rfl rfl rfl rfl)

theorem mountReadEnd {status : MountStatus} {table : List RemapEntry} {next : Nat} (h : P s)
    (hslot : s.channel.slotFree)
    (hlaw : ∀ m : DefectMap, m.tableLaw → ({ m with
      status := status, table := table, nextSpare := next, mountStage := .idle, mountOrder := .idle }
        : DefectMap).tableLaw) :
    P (s.mountReadEnd b status table next) := by
  unfold State.mountReadEnd
  refine k.releaseOf (k.freeMountSlots (k.modMap h ⟨fun hr => hr, hlaw _⟩ (.inl ?_)) ?_)
  · exact State.mountOff_of_slotFree hslot b
  · exact State.mountOff_of_slotFree (by simpa using hslot) b

theorem exhausted {g : Giver} {f : FailKind} (h : P s) (hslot : s.channel.slotFree) :
    P (s.exhausted b g f) := by
  unfold State.exhausted
  split
  · exact k.modEntry h fun e => decided_step ..
  · exact k.mountReadEnd h hslot fun m _ => DefectMap.tableLaw_empty rfl rfl
  · exact h

theorem failAttempt {g : Giver} {f : FailKind} (h : P s) (hslot : s.channel.slotFree) :
    P (s.failAttempt b g f) := by
  unfold State.failAttempt
  extract_lets counted
  have hcounted : P counted := by
    refine k.countRetry (k.modChannel h ⟨fun hr => ⟨fun c => ?_, hr.searches⟩, .inr ⟨rfl, .inr ⟨rfl, rfl⟩⟩⟩)
    rw [PerBay.get_update]
    split
    · exact raiseTo_le ..
    · exact hr.retryCount c
  split
  · exact hcounted
  · exact k.exhausted hcounted (by simpa [counted, Channel.slotFree] using hslot)

theorem interruptChannel (h : P s) : P (s.interruptChannel b) := by
  unfold State.interruptChannel
  split
  next hgrant =>
    repeat' split
    · exact k.failAttempt (k.loseChannel h) (.inl (State.loseChannel_slot hgrant))
    · exact k.loseChannel h
    · exact k.loseChannel h
  · exact h

theorem beginSearch (h : P s) {r : Run} : P (s.beginSearch r) :=
  k.modChannel h ⟨fun hr => ⟨hr.retryCount, Nat.zero_le _, hr.searches.2⟩, .inl rfl⟩

theorem newTarget (h : P s) : P (s.newTarget b) := by
  refine k.modChannel h ⟨fun hr => ⟨fun c => ?_, hr.searches⟩, .inr ⟨rfl, .inr ⟨rfl, rfl⟩⟩⟩
  rw [PerBay.get_update]
  split
  · exact Nat.zero_le _
  · exact hr.retryCount c

theorem grantChannel (h : P s) (hfree : s.channel.grant = none ∨ s.channel.slot = none) :
    P (s.grantChannel b) := by
  have hslot {d : Channel} (hd : d.slot = s.channel.slot) : d.slot = none ∨ (d.slot = s.channel.slot ∧
      (s.channel.grant = none ∨ (d.search = s.channel.search ∧ d.grant = s.channel.grant))) :=
    hfree.elim (fun hg => .inr ⟨hd, .inl hg⟩) fun hs => .inl (hd.trans hs)
  unfold State.grantChannel
  extract_lets held
  have hheld : P held := k.modChannel h (.same (slot := by exact hslot rfl))
  split
  · exact hheld
  split
  · exact k.channel (s := s) h ⟨fun hr => ⟨hr.retryCount, hr.searches.1, by simp⟩, by exact hslot rfl⟩
  · exact k.beginSearch hheld

theorem requestChannel (h : P s) : P (s.requestChannel b) := by
  unfold State.requestChannel
  split
  next hgrant => exact k.grantChannel h (.inl hgrant)
  · exact k.modChannel h .same

theorem countSoftError (h : P s) : P (s.countSoftError b) := by
  unfold State.countSoftError
  split
  · exact k.modMap h (softErrorRaised_step ..)
  · exact h

theorem nextTarget {id : Nat} (h : P s) : P (s.nextTarget b id) := by
  unfold State.nextTarget
  split
  · exact k.beginSearch h
  · exact k.releaseOf h

theorem sectorDone {id : Nat} {f : Entry → Entry} (h : P s) (hf : ∀ e, EntryStep e (f e)) :
    P (s.sectorDone b id f) :=
  k.nextTarget (k.modEntry (k.modEntry (k.newTarget (k.countSoftError h)) hf) runPopped_step)

theorem indexFault (h : P s) (hs : s.channel.search = .formatting) : P (s.indexFault b) := by
  unfold State.indexFault
  split
  · exact k.releaseChannel (k.modEntry (k.cutFormat h hs) fun e => decided_step _ _ e)
  · exact h

/-! ### Orders and motions of the Positioner -/

theorem selectHead {head : Nat} (h : P s) : P (s.selectHead b head) := by
  refine k.setPositioner h ?_ ?_ <;> split <;> first | exact .same | rfl

theorem endOrder {outcome : OrderState} (h : P s) : P (s.endOrder b outcome) :=
  k.setPositioner (k.handBack? h) .same

theorem dropHeld {outcome : OrderState} (h : P s) : P (s.dropHeld b outcome) :=
  k.setPositioner (k.handBack? (k.handBack? h)) .same

theorem endSeekIfThere (h : P s) : P (s.endSeekIfThere b) := by
  unfold State.endSeekIfThere
  extract_lets p
  repeat' split
  · exact k.endOrder h
  · exact h
  · exact h

theorem beginRetract (h : P s) : P (s.beginRetract b) :=
  k.modPositioner h (retractBegun_step ..) fun hl => nomatch hl

theorem emergencyRetract (h : P s) : P (s.emergencyRetract b) := by
  unfold State.emergencyRetract
  split
  · exact k.beginRetract (k.dropHeld (k.endOrder (k.loseChannel h)))
  · exact h

theorem dropLoad (h : P s) : P (s.dropLoad b) := by
  unfold State.dropLoad
  split
  · exact k.dropHeld h
  · exact h

/-- A velocity leg ends over the platter. -/
theorem endVelocityLeg {t : Settings} (h : P s) (ht : s.settings = t)
    (hfly : (s.positioner b).state.loaded = true ∨ (s.spindle b).phase.regulates = true) :
    P (s.modPositioner b (velocityLegEnded t)) :=
  k.modPositioner h (ht ▸ velocityLegEnded_step ..) fun _ => hfly

theorem controlledStop (h : P s)
    (hfly : (s.positioner b).state.loaded = true ∨ (s.spindle b).phase.regulates = true) :
    P (s.controlledStop b) := by
  have hbegun : P (s.modPositioner b (stopBegun s.settings)) :=
    k.modPositioner h (stopBegun_step ..) fun _ => hfly
  unfold State.controlledStop
  extract_lets begun
  split
  · exact k.endVelocityLeg hbegun (by simp [begun]) (.inl (by simp [begun, stopBegun, demandComputed, Actuator.loaded]))
  · exact hbegun

theorem recordSeekFault (h : P s) : P (s.recordSeekFault b) :=
  k.setPositioner (k.recordFault h) (seekFaulted_step ..)

theorem holdOrder {o : Order} (h : P s) : P (s.holdOrder b o) := by
  unfold State.holdOrder
  split <;> exact k.setPositioner (k.handBack? h) .same

theorem carryOut {o : Order} (h : P s) (hl : (s.positioner b).state = .following) :
    P (s.carryOut b o) := by
  have hloaded : (s.positioner b).state.loaded = true := by rw [hl]; rfl
  have htaken : P (s.modPositioner b fun p => { p with order := some o }) := k.setPositioner h .same
  unfold State.carryOut
  extract_lets taken
  have hmove {t : State} {f : Positioner → Positioner} (ht : P t) (hset : t.settings = s.settings)
      (hstate : (t.positioner b).state = (s.positioner b).state)
      (step : ∀ p, PositionerStep s.settings p (f p)) : P (t.modPositioner b f) :=
    k.modPositioner ht (hset ▸ step _) fun _ => .inl (hstate ▸ hloaded)
  have hhead (n : Nat) : ((taken.selectHead b n).positioner b).state = (s.positioner b).state := by
    simp only [State.selectHead, State.positioner_modPositioner, if_true, taken]
    split <;> rfl
  split
  · exact hmove htaken (by simp [taken]) (by simp [taken]) (recalibrateBegun_step _)
  · exact hmove htaken (by simp [taken]) (by simp [taken]) (recalibrateBegun_step _)
  · extract_lets headed
    have hheaded : P headed := k.selectHead htaken
    have hset : headed.settings = s.settings := by simp [headed, State.selectHead, taken]
    split
    · split
      · exact k.endSeekIfThere hheaded
      · exact hmove hheaded hset (hhead _) (seekBegun_step _ _)
    · exact hmove hheaded hset (hhead _) (recalibrateBegun_step _)
  · exact k.beginRetract htaken

theorem loadFor {o : Order} (h : P s) (hp : (s.spindle b).phase = .locked) : P (s.loadFor b o) := by
  have htaken : P (s.modPositioner b fun p => loadBegun { p with order := some o }) :=
    k.modPositioner h ((PositionerStep.same : PositionerStep _ _ { s.positioner b with order := some o }).trans
      (loadBegun_step ..)) fun _ => .inr (by rw [hp]; rfl)
  unfold State.loadFor
  split
  · exact k.selectHead htaken
  · exact htaken

theorem enterFollowing (h : P s) (hl : (s.positioner b).state.loaded = true) :
    P (s.enterFollowing b) := by
  have hthere : P (s.modPositioner b fun p => { motionTimersStopped p with state := .following }) :=
    k.modPositioner h (followingEntered_step ..) fun _ => .inl hl
  unfold State.enterFollowing
  extract_lets there
  repeat' split
  · exact k.endSeekIfThere hthere
  · exact k.modPositioner hthere (by simpa [there] using seekBegun_step ..) fun _ =>
      .inl (by simp [there, Actuator.loaded])
  · exact hthere
  · exact k.endOrder hthere
  · exact hthere

theorem giveOrder {o : Order} (h : P s) : P (s.giveOrder b o) := by
  unfold State.giveOrder
  split
  · exact k.handBack h
  split
  · exact k.handBack h
  next hstate =>
    split
    · exact k.carryOut h hstate
    · exact k.holdOrder h
  · split
    next hload => exact k.loadFor h hload.1
    · exact k.holdOrder h
  · exact k.holdOrder h

theorem holdPark {g : Giver} (h : P s) : P (s.holdPark b g) := by
  unfold State.holdPark
  split
  · exact k.setPositioner h .same
  · exact k.setPositioner (k.handBack? h) .same

theorem replaceHeld (h : P s) : P (s.replaceHeld b) := by
  unfold State.replaceHeld
  split
  · exact h
  · exact k.setPositioner (k.handBack? h) .same

theorem givePark {g : Giver} (h : P s) : P (s.givePark b g) := by
  unfold State.givePark
  split
  · exact k.handBack (k.endMount (k.replaceHeld h))
  split
  · exact k.handBack h
  split
  · exact k.setPositioner (k.endMount (k.replaceHeld h)) .same
  · exact k.beginRetract (k.setPositioner (k.endMount h) .same)
  · exact k.holdPark h

theorem takePark (h : P s) : P (s.takePark b) :=
  k.beginRetract (k.setPositioner (k.endMount (k.endOrder h)) .same)

theorem stopMotion (h : P s) : P (s.stopMotion b) := by
  unfold State.stopMotion
  split
  next hstate => exact k.controlledStop h (.inl (by rw [hstate]; rfl))
  · exact k.setPositioner h .same
  · exact k.setPositioner h .same
  · exact h

theorem stopOrder {g : Giver} (h : P s) : P (s.stopOrder b g) := by
  unfold State.stopOrder
  split
  · exact h
  · exact k.stopMotion (k.setPositioner h (ordersWithdrawn_step ..) (ordersWithdrawn_state ..))

theorem loadFaulted (h : P s) : P (s.loadFaulted b) := k.beginRetract (k.endOrder (k.recordFault h))

theorem enterParked (h : P s) : P (s.enterParked b) := by
  have hparked : P (((s.modPositioner b parkEnded).modSpindle b deferredBrake).endOrder b .ended) :=
    k.endOrder (k.modSpindle (k.modPositioner h (parkEnded_step ..) fun hl => nomatch hl)
      (deferredBrake_step ..))
  unfold State.enterParked
  extract_lets parked
  split
  · exact k.setPositioner (k.handBack (k.endMount hparked)) .same
  · exact hparked

theorem failRetract (h : P s) : P (s.failRetract b) :=
  k.dropHeld (k.endOrder (k.modSpindle (k.modPositioner h (retractFailed_step ..) fun hl => nomatch hl)
    (deferredBrake_step ..)))

end KeptBase
end Sys2Proof.Machine

namespace Sys2Proof.Machine

/-! ### A property that every wait keeps -/

/-- A property of states that every wait keeps: beside the elementary changes, the changes of a spindle's phase,
of the permit and of the states of the entries, and the waits that are one change of their own. -/
structure Kept (P : State → Prop) : Prop extends KeptBase P where
  requestPermit : ∀ {s : State} {b : Bay}, P s → (s.spindle b).phase = .stopped → P (s.requestPermit b)
  leavePending : ∀ {s : State} {b : Bay}, P s → (s.spindle b).phase = .pending → P (s.leavePending b)
  enterStopping : ∀ {s : State} {b : Bay}, P s → (s.spindle b).phase ≠ .pending → P (s.enterStopping b)
  activate : ∀ {s : State} {e : Entry}, P s → e ∈ s.entries → e.state = .queued ∨ e.state = .waiting →
    s.turnCome e = true → P (s.modEntry e.id fun f => { f with state := .active })
  await : ∀ {s : State} {e : Entry}, P s → e ∈ s.entries → e.state = .queued →
    P (s.modEntry e.id fun f => { f with state := .waiting })
  finish : ∀ {s : State} {e : Entry}, P s → e ∈ s.entries → e.state ≠ .finishing →
    P { s.modEntry e.id fun f => { f with state := .finishing } with finishing := s.finishing ++ [e.id] }
  sense : ∀ {s t : State} {b : Bay}, P s → restartSensing b s = some t → P t
  leave : ∀ {s t : State}, P s → leaveHalted s = some t → P t
  offline : ∀ {s t : State}, P s → goOfflineNow s = some t → P t
  withdraw : ∀ {s t : State}, P s → withdrawFetch s = some t → P t
  fetch : ∀ {s t : State}, P s → beginFetch s = some t → P t

/-- What each of a list of changes keeps, all of them keep. -/
theorem foldl_keeps {P : State → Prop} {α : Type} {f : State → α → State} (hf : ∀ {s : State} {x : α}, P s → P (f s x)) (xs : List α) {s : State} (h : P s) :
    P (xs.foldl f s) := by
  induction xs generalizing s with
  | nil => exact h
  | cons x xs ih => exact ih (hf h)

theorem renamedSlot_key (e : Entry) (x : Slot) : (renamedSlot e x).key = x.key := by
  unfold renamedSlot
  split <;> rfl

theorem idleUpdated_step (holds : Bool) (c : BayControl) : BayStep c (idleUpdated holds c) :=
  ⟨rfl, by simp [idleUpdated], by simp [idleUpdated, TimerKept.timerWhile]⟩

theorem eachBay_keeps {P : State → Prop} {s t : State} {f : Bay → State → Option State}
    (hf : ∀ {b : Bay} {s t : State}, P s → f b s = some t → P t) (h : P s)
    (ht : eachBay f s = some t) : P t := by
  obtain h0 | ⟨-, h1⟩ := Option.or_eq_some_iff.mp ht
  · exact hf h h0
  · exact hf h h1

theorem firstEntry_keeps {P : State → Prop} {s t : State}
    {f : State → Entry → Option State}
    (hf : ∀ {s : State} {e : Entry} {t : State}, P s → e ∈ s.entries → f s e = some t → P t) (h : P s)
    (ht : firstEntry f s = some t) : P t := by
  obtain ⟨e, he, hfe⟩ := List.exists_of_findSome?_eq_some ht
  exact hf h he hfe

namespace Kept

variable {P : State → Prop} (k : Kept P) {s t : State} {b : Bay} {e : Entry}

include k

/-! ### The spindle -/

theorem spinUpRequest (h : P s) : P (s.spinUpRequest b) := by
  unfold State.spinUpRequest
  split
  · exact h
  split
  next hp => exact k.requestPermit h hp
  · exact k.modSpindle h .same
  · exact h

theorem stopRequest (h : P s) : P (s.stopRequest b) := by
  unfold State.stopRequest
  split
  · exact h
  next hp => exact k.dropLoad (k.leavePending h hp)
  · exact k.modSpindle h .same
  next _ hp _ => exact k.enterStopping h hp

/-! ### The bays -/

theorem endTasksOn {p : Entry → Bool} {r : Result} (h : P s) : P (s.endTasksOn b p r) := by
  refine k.modEntries h fun e => ?_
  split
  · exact decided_step ..
  · exact .refl e

theorem stopTask (h : P s) : P (s.stopTask e) := by
  unfold State.stopTask
  split
  · exact k.setEntry (k.stopOrder h)
  · exact h

theorem ejectTasks (h : P s) : P (s.ejectTasks b) := k.endTasksOn (foldl_keeps k.stopTask _ h)

theorem beginMount (h : P s) (hstage : (s.map b).mountStage = .idle) : P (s.beginMount b) :=
  k.giveOrder (k.setPositioner
    (k.modMap h ⟨fun hr => ⟨hr.1, Nat.zero_le _⟩, fun ht => ht⟩
      (.inl (.inr (.inr (.inr (by simp [hstage]))))))
    (mountAwaited_step ..))

theorem mountIfDue (h : P s) : P (s.mountIfDue b) := by
  unfold State.mountIfDue
  split
  next hm =>
    simp only [State.mountable, Bool.and_eq_true, beq_iff_eq] at hm
    exact k.beginMount h hm.1.1.2
  · exact h

theorem failMount {r : Result} (h : P s) : P (s.failMount b r) := k.endTasksOn (k.endMount h)

theorem lockBay (h : P s) : P (s.lockBay b) := k.modBay h ⟨rfl, by simp, by simp⟩

theorem lockAndSpin (h : P s) : P (s.lockAndSpin b) := k.spinUpRequest (k.lockBay h)

theorem enterReleasing {d : Destination} (h : P s) : P (s.enterReleasing b d) :=
  k.ejectTasks (k.clearMount (k.modBay h ⟨rfl, by simp, by simp⟩))

theorem releaseLock {d : Destination} (h : P s) : P (s.releaseLock b d) := by
  unfold State.releaseLock
  split
  · refine k.modEntries (k.modBay h ⟨rfl, by simp, by simp⟩) fun e => ?_
    split
    · exact completed_step e
    · exact .refl e
  · refine k.modEntries ?_ (releaseReached_step b)
    split
    · exact k.modBay h ⟨rfl, by simp, by simp⟩
    · exact k.modBay h ⟨rfl, by simp [ejectingEntered], by simp [ejectingEntered]⟩

theorem failEject (h : P s) : P (s.failEject b) :=
  k.endTasksOn (k.modBay h ⟨rfl, by simp [ejectStopped], by simp [ejectStopped]⟩)

theorem press (h : P s) : P (s.press b) := by
  unfold State.press
  split
  · exact h
  split
  · exact h
  · exact k.modBay h (ejectingEntered_step _)
  · split
    · exact k.modBay h ⟨rfl, by simp, by simp⟩
    · exact k.enterReleasing h
  · exact k.modBay h ⟨rfl, by simp, by simp⟩
  · exact h
  · exact h
  · exact k.modBay h ⟨rfl, by simp, by simp⟩

theorem returnToLocked (h : P s) : P (s.returnToLocked b) :=
  k.mountIfDue (k.modBay h ⟨rfl, by simp, by simp⟩)

/-! ### The start of a task -/

theorem lockIfSeated (h : P s) : P (s.lockIfSeated b) := by
  unfold State.lockIfSeated
  split
  · exact k.lockAndSpin h
  · exact h

theorem clearReseek (h : P s) : P (s.clearReseek b) := k.setPositioner h .same

theorem engage (h : P s) : P (s.engage e) := by
  refine k.complete (k.modBay ?_ ⟨rfl, by simp, by simp⟩)
  split
  · exact k.lockBay h
  · exact h

theorem lockNamed (h : P s) : P (s.lockNamed e) := foldl_keeps k.lockIfSeated _ h

theorem beginWork {kind : TaskKind} (h : P s) : P (s.beginWork kind e) := by
  unfold State.beginWork
  extract_lets b enter
  have henter {t : State} {x : Stage} (ht : P t) : P (enter t x) := k.setEntry ht
  split
  · exact henter h
  · exact henter h
  · exact henter h
  · split
    · exact k.enterReleasing (henter h)
    · exact k.engage h
  · split
    · exact k.modBay (henter h) (ejectingEntered_step _)
    · exact k.enterReleasing (henter h)
  · exact henter (k.lockNamed h)

theorem start (h : P s) (he : e ∈ s.entries) (hstate : e.state = .queued ∨ e.state = .waiting)
    (hturn : s.turnCome e = true) : P (s.start e) := by
  unfold State.start
  extract_lets active
  have hactive : P active := k.activate h he hstate hturn
  repeat' split
  · exact k.setEntry hactive
  · exact k.setEntry hactive
  · exact hactive
  · exact k.beginWork (foldl_keeps k.clearReseek _ hactive)

/-! ### The end of a task -/

theorem leaveChannel (h : P s) : P (s.leaveChannel e) := by
  unfold State.leaveChannel
  split
  · exact k.withdrawWaiting (k.releaseOf h)
  · exact h

theorem tidyEntry (h : P s) (ht : s.tidyEntry e = some t) : P t := by
  unfold State.tidyEntry at ht
  split_ifs at ht
  · cases ht
    exact k.letGo (s := { s with waiters := _ }) (k.waiters h)
  · cases ht
    exact k.setEntry (k.leaveChannel h)

theorem reportStop (h : P s) (ht : s.reportStop e = some t) : P t := by
  unfold State.reportStop at ht
  split at ht
  · cases ht
  · split_ifs at ht
    cases ht
    exact k.setEntry h

theorem restartIdle (h : P s) : P (s.restartIdle b) :=
  k.modBay h ⟨rfl, by simp, by simp [TimerKept.restarted]⟩

theorem handOver (h : P s) (he : e ∈ s.entries) (hs : e.state ≠ .finishing) : P (s.handOver e) :=
  foldl_keeps k.restartIdle _ (k.finish h he hs)

/-! ### The waits of a started task -/

theorem setWait {w : BayWait} (h : P s) : P (s.setWait e b w) := k.setEntry h

theorem waitSpindle (h : P s) (ht : s.waitSpindle e b = some t) : P t := by
  unfold State.waitSpindle at ht
  split_ifs at ht <;> cases ht
  · exact k.setWait h
  · exact k.spinUpRequest h
  · exact k.decideEnd h

theorem completeSpinUp (h : P s) : P (s.completeSpinUp e) := by
  unfold State.completeSpinUp
  extract_lets b retries done
  have hdone : P done := k.modEntry h fun e =>
    .trans (f := { e with retriesUsed := min 255 (e.retriesUsed + retries) })
      ⟨rfl, rfl, rfl, fun _ => Nat.min_le_left ..⟩ (completed_step _)
  split
  · exact hdone
  · exact k.modBay hdone ⟨rfl, by simp, by simp⟩

theorem afterMount (h : P s) : P (s.afterMount e) := by
  unfold State.afterMount
  extract_lets enter
  split
  · exact k.completeSpinUp h
  · exact k.setEntry h
  · split
    · exact k.decideEnd h
    · exact k.setEntry h
  · exact k.setEntry h
  · exact k.setEntry h

theorem waitMount (h : P s) (ht : s.waitMount e b = some t) : P t := by
  unfold State.waitMount at ht
  extract_lets again at ht
  have hagain : again = some t → P t := by
    intro ha
    unfold again at ha
    split_ifs at ha
    cases ha
    exact k.setWait h
  split_ifs at ht with _ _ _ hm
  · exact hagain ht
  · cases ht
    exact k.setWait h
  · cases ht
    exact k.setEntry h
  · cases ht
    simp only [State.mountable, Bool.and_eq_true, beq_iff_eq] at hm
    exact k.beginMount h hm.1.1.2
  · exact hagain ht

theorem waitBay (h : P s) (ht : s.waitBay e b = some t) : P t := by
  unfold State.waitBay at ht
  split at ht
  · exact k.waitSpindle h ht
  · exact k.waitMount h ht
  · cases ht

theorem waitBays (h : P s) (ht : s.waitBays e = some t) : P t := by
  unfold State.waitBays at ht
  split_ifs at ht
  · cases ht
    exact k.afterMount h
  · obtain ⟨b, -, hb⟩ := List.exists_of_findSome?_eq_some ht
    exact k.waitBay h hb

theorem takeFor {i : Nat} (h : P s) (hi : s.slotForTake (.task e.id) = some i) : P (s.takeFor e i) := by
  unfold State.takeFor
  extract_lets own
  have hdata {t : State} {f : List Byte → List Byte} (ht : P t) :
      P (t.modSlot i fun x => { x with data := f x.data }) := k.modSlot ht fun _ => rfl
  split
  · exact k.setEntry (k.takeSlot h hi (by decide))
  · exact k.setEntry (k.takeSlot h hi (by decide))
  · exact k.setEntry (hdata (f := fun d => settingsBytes s.settings ++ d.drop 64) (k.takeSlot h hi (by decide)))
  · exact k.setEntry (hdata (f := fun _ => recordImageOf e (s.map e.bay)) (k.takeSlot h hi (by decide)))

theorem takeAhead (h : P s) (ht : s.takeAhead e = some t) : P t := by
  unfold State.takeAhead at ht
  split_ifs at ht with hw
  simp only [Bool.and_eq_true, decide_eq_true_iff] at hw
  split at ht <;> cases ht
  next i hi => exact k.takeFor h (by simp [State.slotForTake, hw.2, hi])
  · exact k.waiters h

theorem serveWaiter (h : P s) (ht : s.serveWaiter = some t) : P t := by
  unfold State.serveWaiter at ht
  split at ht
  next i w hi hw =>
    have hquota := List.find?_some hw
    simp only [decide_eq_true_iff] at hquota
    split at ht <;> cases ht
    next e he =>
      have hid : e.id = w := by simpa using List.find?_some he
      refine k.takeFor (s := { s with waiters := _ }) (k.waiters h) ?_
      exact (by simpa [State.slotForTake, hid, hquota] using hi : s.slotForTake (.task e.id) = some i)
    · exact k.waiters h
  · cases ht

theorem orderFor {o : OrderKind} (h : P s) : P (s.orderFor e b o) := k.giveOrder (k.setEntry h)

theorem setRun {r : Run} {n : Nat} (h : P s) : P (s.setRun e r n) := k.setEntry (k.newTarget h)

theorem beginWriteHalf (h : P s) : P (s.beginWriteHalf e) := by
  refine k.setEntry (s := { s with slots := s.slots.map (renamedSlot e) }) (k.slots h ?_)
  rw [List.map_map]
  exact List.map_congr_left fun x _ => renamedSlot_key e x

theorem nextRun (h : P s) : P (s.nextRun e) := by
  unfold State.nextRun
  extract_lets t
  repeat' split
  all_goals first | exact k.setRun h | exact k.beginWriteHalf h | exact k.setEntry h

theorem orderNext {o : OrderKind} (h : P s) : P (s.orderNext e b o) := by
  unfold State.orderNext
  split
  · exact k.setWait h
  · exact k.orderFor h

theorem giveNext (h : P s) : P (s.giveNext e) := by
  unfold State.giveNext
  repeat' split
  · exact k.orderNext h
  · exact k.orderNext h
  · exact k.nextRun h
  · exact k.setEntry h
  · exact k.orderNext h

theorem waitPositioner (h : P s) (ht : s.waitPositioner e = some t) : P t := by
  unfold State.waitPositioner at ht
  split at ht
  · cases ht
  · cases ht
    exact k.giveNext h
  · cases ht
    exact k.decideEnd h
  · cases ht
    exact k.decideEnd h
  · extract_lets back at ht
    cases ht
    have hback : P back := k.setEntry h
    split
    · exact k.setWait hback
    · exact hback
  · split_ifs at ht <;> cases ht
    · exact k.complete h
    · exact k.setEntry h
    · exact k.setEntry h

theorem waitChannel (h : P s) (ht : s.waitChannel e = some t) : P t := by
  unfold State.waitChannel at ht
  split at ht
  · cases ht
  · extract_lets p at ht
    split_ifs at ht
    cases ht
    exact k.setEntry h

theorem waitDrain (h : P s) (ht : s.waitDrain e = some t) : P t := by
  unfold State.waitDrain at ht
  split_ifs at ht
  cases ht
  exact k.complete h

theorem waitPark (h : P s) (ht : s.waitPark e = some t) : P t := by
  unfold State.waitPark at ht
  split at ht <;> cases ht
  · exact k.stopRequest (k.setEntry h)
  · exact k.decideEnd h
  · exact k.decideEnd h
  · exact k.givePark (k.setEntry h)
  · exact k.givePark (k.setEntry h)

theorem waitStop (h : P s) (ht : s.waitStop e = some t) : P t := by
  unfold State.waitStop at ht
  split at ht <;> cases ht
  · exact k.complete h
  · exact k.stopRequest h

theorem advanceEntry (h : P s) (ht : s.advanceEntry e = some t) : P t := by
  unfold State.advanceEntry at ht
  split_ifs at ht
  split at ht
  · exact k.waitBays h ht
  · exact k.waitPositioner h ht
  · exact k.waitPositioner h ht
  · exact k.waitChannel h ht
  · exact k.waitDrain h ht
  · exact k.waitPark h ht
  · exact k.waitStop h ht
  all_goals cases ht

theorem abortEntry (h : P s) (ht : s.abortEntry e = some t) : P t := by
  unfold State.abortEntry at ht
  split_ifs at ht
  cases ht
  exact k.decideEnd (k.stopTask h)

/-! ### The waits -/

theorem deliverPress (h : P s) (ht : deliverPress s = some t) : P t := by
  unfold Machine.deliverPress at ht
  split at ht
  · cases ht
  · split_ifs at ht
    cases ht
    exact k.press (k.modChannel h .same)

theorem releaseOrphan (h : P s) (ht : releaseOrphan s = some t) : P t := by
  unfold Machine.releaseOrphan at ht
  split at ht
  · cases ht
  · split_ifs at ht
    cases ht
    exact k.loseChannel h

theorem serveWaitingBay (h : P s) (ht : serveWaitingBay s = some t) : P t := by
  unfold Machine.serveWaitingBay at ht
  split at ht
  · cases ht
  · split_ifs at ht with _ hgrant <;> cases ht
    · exact k.withdrawWaiting h
    · exact k.grantChannel h (.inl hgrant)

theorem makeRequest (h : P s) (ht : makeRequest b s = some t) : P t := by
  unfold Machine.makeRequest at ht
  split_ifs at ht
  cases ht
  exact k.requestChannel h

theorem endUnreliable (h : P s) (ht : endUnreliable s = some t) : P t := by
  unfold Machine.endUnreliable at ht
  split at ht
  · cases ht
  · split_ifs at ht with hs
    cases ht
    exact k.indexFault h hs.1

theorem changeHead (h : P s) (ht : changeHead b s = some t) : P t := by
  unfold Machine.changeHead at ht
  split at ht
  · cases ht
  · split_ifs at ht
    cases ht
    exact k.endSeekIfThere (k.setPositioner h .same)

theorem takeHeldPark (h : P s) (ht : takeHeldPark b s = some t) : P t := by
  unfold Machine.takeHeldPark at ht
  split_ifs at ht
  cases ht
  exact k.takePark h

theorem takeHeldOrder (h : P s) (ht : takeHeldOrder b s = some t) : P t := by
  unfold Machine.takeHeldOrder at ht
  extract_lets p taken at ht
  split at ht
  · cases ht
  next o ho =>
    have htaken : P taken := k.setPositioner h .same
    split_ifs at ht with _ hstate hlock <;> cases ht
    · exact k.carryOut htaken (by simpa [taken] using hstate)
    · exact k.loadFor htaken (by simpa [taken] using hlock.2)

theorem seekRecord (h : P s) (hstage : s.mountOff b) : P (s.seekRecord b) :=
  k.giveOrder (k.modMap h .same (.inl hstage))

theorem beginRead (h : P s) (hstage : (s.map b).mountStage = .loading) : P (s.beginRead b) := by
  refine k.seekRecord (k.newTarget (k.modMap h (.emptied (Nat.zero_le _) rfl rfl rfl))) ?_
  exact .inr (.inr (.inr (by simp [State.newTarget, hstage])))

theorem advanceMount (h : P s) (ht : advanceMount b s = some t) : P t := by
  unfold Machine.advanceMount at ht
  extract_lets m p at ht
  have hoff {x : MountStage} (hm : m.mountStage = x) (hx : x ≠ .atChannel) : s.mountOff b :=
    .inr (.inr (.inr (hm ▸ hx)))
  split at ht
  · cases ht
  · cases ht
  · split_ifs at ht with hgrant
    cases ht
    exact k.seekRecord h (.inr (.inr (.inl hgrant.1)))
  · cases ht
  next hm _ =>
    cases ht
    exact k.beginRead h hm
  next hm _ =>
    cases ht
    exact k.modMap h .same (.inl (hoff hm (by decide)))
  next hm _ =>
    cases ht
    exact k.seekRecord h (hoff hm (by decide))
  · cases ht
    exact k.failMount h
  · cases ht
    exact k.failMount h
  · cases ht
    exact k.endMount h

theorem leaveFault (h : P s) (ht : leaveFault b s = some t) : P t := by
  unfold Machine.leaveFault at ht
  split_ifs at ht
  cases ht
  exact k.returnToLocked h

theorem stopIdle (h : P s) (ht : stopIdle b s = some t) : P t := by
  unfold Machine.stopIdle at ht
  split_ifs at ht
  cases ht
  exact k.stopRequest (k.modBay h ⟨rfl, by simp, by simp⟩)

theorem advanceRelease (h : P s) (ht : advanceRelease b s = some t) : P t := by
  unfold Machine.advanceRelease at ht
  split at ht
  · extract_lets p at ht
    split_ifs at ht <;> cases ht
    · exact k.givePark h
    · exact k.stopRequest h
    · exact k.releaseLock h
  · cases ht

theorem runDown (h : P s) (ht : runDown b s = some t) : P t := by
  unfold Machine.runDown at ht
  extract_lets p given at ht
  have hgiven : P given := k.modBay h ⟨rfl, by simp, by simp⟩
  split_ifs at ht
  · cases ht
    exact k.givePark hgiven
  · exact Option.some.inj ht ▸ hgiven
  · cases ht
    exact k.stopRequest h
  · split at ht <;> cases ht
    · exact k.releaseLock h
    · exact k.modBay h ⟨rfl, by simp, by simp⟩

theorem solenoidOff (h : P s) : P (s.modBay b solenoidOff) :=
  k.modBay h ⟨rfl, by simp [Machine.solenoidOff], by simp [Machine.solenoidOff]⟩

theorem driveEject (h : P s) (ht : driveEject b s = some t) : P t := by
  unfold Machine.driveEject at ht
  extract_lets c at ht
  split_ifs at ht <;> cases ht
  · exact k.modBay h ⟨rfl, by simp [pulseBegun], by simp [pulseBegun]⟩
  · exact k.solenoidOff h

theorem handOverEntry (h : P s) (he : e ∈ s.entries) (ht : handOverEntry s e = some t) : P t := by
  unfold Machine.handOverEntry at ht
  split_ifs at ht with hover
  cases ht
  refine k.handOver h he fun hs => ?_
  simp [State.handsOver, Entry.unfinished, hs] at hover

theorem startEntry (h : P s) (he : e ∈ s.entries) (ht : startEntry s e = some t) : P t := by
  unfold Machine.startEntry at ht
  split_ifs at ht with hs
  cases ht
  exact k.start h he hs.1 hs.2.2.1

theorem waitEntry (h : P s) (he : e ∈ s.entries) (ht : waitEntry s e = some t) : P t := by
  unfold Machine.waitEntry at ht
  split_ifs at ht with hs
  cases ht
  exact k.await h he hs.1

/-- Every wait keeps the property. -/
theorem wait {f : State → Option State} (hf : f ∈ waits) (h : P s) (ht : f s = some t) : P t := by
  simp only [waits, List.mem_cons, List.not_mem_nil, or_false] at hf
  rcases hf with rfl | rfl | rfl | rfl | rfl | rfl | rfl | rfl | rfl | rfl | rfl | rfl | rfl | rfl |
    rfl | rfl | rfl | rfl | rfl | rfl | rfl | rfl | rfl | rfl | rfl | rfl | rfl | rfl
  · exact k.deliverPress h ht
  · exact eachBay_keeps k.sense h ht
  · exact k.leave h ht
  · exact eachBay_keeps k.changeHead h ht
  · exact eachBay_keeps k.leaveFault h ht
  · exact firstEntry_keeps (fun h _ => k.reportStop h) h ht
  · exact firstEntry_keeps (fun h _ => k.tidyEntry h) h ht
  · exact k.releaseOrphan h ht
  · exact k.serveWaiter h ht
  · exact eachBay_keeps k.takeHeldPark h ht
  · exact k.serveWaitingBay h ht
  · exact k.endUnreliable h ht
  · exact eachBay_keeps k.stopIdle h ht
  · exact eachBay_keeps k.advanceRelease h ht
  · exact eachBay_keeps k.runDown h ht
  · exact eachBay_keeps k.takeHeldOrder h ht
  · exact eachBay_keeps k.advanceMount h ht
  · exact eachBay_keeps k.driveEject h ht
  · exact firstEntry_keeps (fun h _ => k.abortEntry h) h ht
  · exact firstEntry_keeps (fun h _ => k.advanceEntry h) h ht
  · exact firstEntry_keeps (fun h _ => k.takeAhead h) h ht
  · exact eachBay_keeps k.makeRequest h ht
  · exact firstEntry_keeps k.handOverEntry h ht
  · exact firstEntry_keeps k.startEntry h ht
  · exact firstEntry_keeps k.waitEntry h ht
  · exact k.offline h ht
  · exact k.withdraw h ht
  · exact k.fetch h ht

/-- What every wait keeps holds where none is left. -/
theorem settle (n : Nat) (h : P s) : P (settle n s) :=
  settle_keeps P (fun _ hf _ _ ht h => k.wait hf h ht) n s h

/-! ### The end of an instant -/

theorem interlocked (h : P s) : P s.interlocked := by
  have hgate : P s.gateInterlocked := by
    unfold State.gateInterlocked
    repeat' split
    · exact h
    · exact k.loseChannel h
    · exact k.modChannel h .same
    · exact h
  have heject {t : State} {c : Bay} (ht : P t) : P (t.ejectInterlocked c) := by
    unfold State.ejectInterlocked
    split
    · exact k.solenoidOff ht
    · exact ht
  exact heject (heject hgate)

theorem closed (h : P s) : P s.closed := by
  have hlock := k.interlocked h
  have hbay0 := k.bay (b := .bay0) (f := idleUpdated (s.interlocked.idleHolds .bay0)) hlock
    (idleUpdated_step ..)
  have hbays := k.bay (b := .bay1) (f := idleUpdated (s.interlocked.idleHolds .bay1)) hbay0
    (idleUpdated_step ..)
  have htimers : P s.interlocked.timersUpdated := by
    refine k.link hbays ⟨rfl, rfl, rfl, fun b => ?_, TimerKept.timerWhile ..⟩
    cases b <;> exact TimerKept.timerWhile ..
  have hline := k.link (l := { s.interlocked.timersUpdated.link with
    interruptLine := s.interlocked.timersUpdated.interruptDue }) htimers
    ⟨rfl, rfl, rfl, fun _ => .refl _, .refl _⟩
  exact k.dma hline

theorem instantEnd (h : P s) : P s.instantEnd := k.closed (k.settle _ h)

end Kept
end Sys2Proof.Machine

/-!
PROOFS. The ranges (spec/00 section 4.2) under the waits.
-/

namespace Sys2Proof.Machine

/-- What holds of both bays' records holds after one of them has changed within it. -/
theorem PerBay.forall_update {α : Type} {Q : α → Prop} {p : PerBay α} {b : Bay} {f : α → α}
    (h : ∀ c, Q (p.get c)) (hf : Q (f (p.get b))) (c : Bay) : Q ((p.update b f).get c) := by
  rw [PerBay.get_update]
  split
  · subst_vars; exact hf
  · exact h c

/-! ### The changes of a spindle's phase -/

theorem startingEntered_inRange {t : Settings} {q : Spindle} (ht : t.inRange) (h : q.inRange) :
    (startingEntered t q).inRange := by
  obtain ⟨htarget, -, -, -, ⟨-, hstart⟩, -⟩ := ht
  exact ⟨by simp [startingEntered], by simp [startingEntered], by simp [startingEntered],
    by simp [startingEntered], htarget, h.integrator, ⟨hstart, h.duty.2⟩, by simp [startingEntered],
    h.missCount⟩

theorem stoppingEntered_inRange {q : Spindle} (h : q.inRange) : (stoppingEntered q).inRange :=
  ⟨h.history, h.markTimer, h.revCount, h.speed, h.activeTarget, h.integrator,
    ⟨Nat.zero_le _, h.duty.2⟩, h.inBand, Nat.zero_le _⟩

theorem stoppedEntered_inRange {q : Spindle} (h : q.inRange) : (stoppedEntered q).inRange :=
  ⟨by simp [stoppedEntered], by simp [stoppedEntered], Nat.zero_le _, Nat.zero_le _, h.activeTarget,
    by simp [stoppedEntered], ⟨Nat.zero_le _, h.duty.2⟩, Nat.zero_le _, h.missCount⟩

theorem Spindle.inRange_phase {q : Spindle} (h : q.inRange) (x : Phase) :
    ({ q with phase := x } : Spindle).inRange :=
  ⟨h.history, h.markTimer, h.revCount, h.speed, h.activeTarget, h.integrator, h.duty, h.inBand,
    h.missCount⟩

namespace State.rangeLaw

variable {s : State} {b : Bay}

/-- A change of one spindle within its ranges. -/
theorem setSpindles {l : PerBay Spindle} (h : s.rangeLaw) (hl : ∀ c, (l.get c).inRange) :
    { s with spindles := l }.rangeLaw :=
  { h with spindles := hl }

theorem report {c : Bool} (h : s.rangeLaw) : (s.report b c).rangeLaw := by
  unfold State.report State.notable
  split_ifs
  · exact { h with }
  · exact h
  · exact h

theorem modSpindle {f : Spindle → Spindle} (h : s.rangeLaw) (hf : (f (s.spindle b)).inRange) :
    (s.modSpindle b f).rangeLaw :=
  (h.setSpindles (PerBay.forall_update h.spindles hf)).report

theorem modBay {f : BayControl → BayControl} (h : s.rangeLaw) (hf : (f (s.bay b)).generation ≤ 255) :
    (s.modBay b f).rangeLaw :=
  report (s := { s with bays := s.bays.update b f })
    { h with generation := PerBay.forall_update (Q := fun c : BayControl => c.generation ≤ 255) h.generation hf }

theorem dropSlot {i : Nat} (h : s.rangeLaw) : (s.dropSlot i).rangeLaw := by
  unfold State.dropSlot
  split
  · exact { h with }
  · exact { h with pool := by simpa [State.freeSlot] using h.pool }

theorem dropSlots {p : Nat → Slot → Bool} (h : s.rangeLaw) : (s.dropSlots p).rangeLaw :=
  foldl_keeps dropSlot _ h

theorem cutField (h : s.rangeLaw) : (s.cutField b).rangeLaw := by
  unfold State.cutField
  repeat' split
  · exact { h with pool := by simpa [State.freeSlot] using h.pool }
  · exact { h with pool := by simpa using h.pool }
  all_goals exact { h with }

theorem grantPermit (h : s.rangeLaw) : (s.grantPermit b).rangeLaw :=
  modSpindle (s := { s with permitHolder := some b }) { h with }
    (startingEntered_inRange h.settings (h.spindles b))

theorem releasePermit (h : s.rangeLaw) : (s.releasePermit b).rangeLaw := by
  unfold State.releasePermit
  repeat' split
  · exact grantPermit { h with }
  · exact { h with }
  · exact h

/-- R150: the counts of the entries after a change of some of them. -/
theorem setEntries {f : Entry → Entry} (h : s.rangeLaw) (hf : ∀ e, (f e).retriesUsed = e.retriesUsed) :
    { s with entries := s.entries.map f }.rangeLaw :=
  { h with entries := List.forall_mem_map.mpr fun e he => hf e ▸ h.entries e he }

end State.rangeLaw

theorem rangeLaw_keptBase : KeptBase State.rangeLaw where
  bay {s b f} h step := { h with
    generation := PerBay.forall_update (Q := fun c : BayControl => c.generation ≤ 255) h.generation
      (step.generation ▸ h.generation b) }
  spindle {s b f} h step := h.setSpindles (PerBay.forall_update h.spindles (step.range h.settings (h.spindles b)))
  positioner {s b f} h step _ := { h with
    positioners := PerBay.forall_update h.positioners (step.range h.settings (h.positioners b)) }
  map {s b f} h step _ := { h with
    maps := PerBay.forall_update (Q := fun m : DefectMap => m.softErrors ≤ 255 ∧ m.mountRetries ≤ 255) h.maps
      (step.range (h.maps b)) }
  channel {s c} h step :=
    have hrange := step.range ⟨h.retryCount, h.searches⟩
    { h with retryCount := hrange.retryCount, searches := hrange.searches }
  entries {s f} h step := { h with entries := List.forall_mem_map.mpr fun e he => (step e).range (h.entries e he) }
  link h _ := { h with }
  waiters h := { h with }
  medium h := { h with }
  dma h := { h with }
  loseChannel {s b} h := by
    unfold State.loseChannel
    split
    · have hcut := h.cutField (b := b)
      exact { hcut with retryCount := hcut.retryCount, searches := by simp [State.releaseChannel, releasedChannel] }
    · exact h
  freeMountSlots h _ := h.dropSlots
  letGo h := h.dropSlots
  takeSlot h _ _ := { h with pool := by simpa [State.takeSlot] using h.pool }
  slots {s l} h hl :=
    have hlen : l.length = s.slots.length := by simpa using congrArg List.length hl
    { h with pool := hlen.trans h.pool }

theorem rangeLaw_kept : Kept State.rangeLaw where
  toKeptBase := rangeLaw_keptBase
  requestPermit {s b} h _ := by
    have hasking := h.modSpindle (b := b) (f := fun q => { q with phase := .pending })
      (Spindle.inRange_phase (h.spindles b) _)
    unfold State.requestPermit
    split
    · exact hasking.grantPermit
    · exact { hasking with }
  leavePending {s b} h _ := by
    unfold State.leavePending
    split
    · exact State.rangeLaw.modSpindle { h with } (stoppedEntered_inRange (h.spindles b))
    · exact h.modSpindle (stoppedEntered_inRange (h.spindles b))
  enterStopping {s b} h _ :=
    have k := rangeLaw_keptBase
    k.dropLoad (k.emergencyRetract (k.loseChannel
      (h.modSpindle (stoppingEntered_inRange (h.spindles b))).releasePermit))
  activate h _ _ _ := h.setEntries fun e => by split <;> rfl
  await h _ _ := h.setEntries fun e => by split <;> rfl
  finish h _ _ :=
    have hset := h.setEntries fun e => by split <;> rfl
    { hset with }
  sense {s t b} h ht := by
    unfold restartSensing at ht
    split_ifs at ht
    cases ht
    exact h.modBay (h.generation b)
  leave h ht := by
    unfold leaveHalted at ht
    split_ifs at ht
    cases ht
    exact { h with }
  offline h ht := by
    unfold goOfflineNow at ht
    split_ifs at ht
    cases ht
    exact { h with }
  withdraw h ht := by
    unfold withdrawFetch at ht
    split_ifs at ht
    split at ht <;> cases ht
    · exact { h with }
    · exact { h with }
  fetch h ht := by
    unfold beginFetch at ht
    split_ifs at ht <;> cases ht
    · exact { h with }
    · exact { h with }

end Sys2Proof.Machine

/-!
PROOFS. The expiries of the timers, and the events of the Positioner and the Spindle Controller, for any
property that the waits keep.
-/

namespace Sys2Proof.Machine

/-- A property that does not ask where the heads are: a change of a Positioner keeps it whatever motion it
begins. -/
def HeadsFree (P : State → Prop) : Prop :=
  ∀ {s : State} {b : Bay} {f : Positioner → Positioner}, P s →
    PositionerStep s.settings (s.positioner b) (f (s.positioner b)) →
    P { s with positioners := s.positioners.update b f }

/-- A bay on which a motion over the platter may begin. -/
def Flies (P : State → Prop) (s : State) (b : Bay) : Prop :=
  HeadsFree P ∨ (s.spindle b).phase.regulates = true

theorem Flies.congr {P : State → Prop} {s t : State} {b : Bay} (h : Flies P s b)
    (hs : t.spindles = s.spindles) : Flies P t b :=
  h.imp_right fun hr => by simpa only [State.spindle, hs] using hr

/-- R62 to R75: a timer of a motion over the platter runs. -/
def Positioner.inMotion (p : Positioner) : Prop :=
  p.loadTimer.isSome ∨ p.recalTimer.isSome ∨ p.seekTimer.isSome ∨ p.settleLimit.isSome ∨ p.stopTimer.isSome

/-- A property that the waits and the expiries of the timers keep. -/
structure KeptLimits (P : State → Prop) : Prop extends Kept P where
  stopped : ∀ {s : State} {b : Bay}, P s → (s.spindle b).phase = .stopping →
    P (s.modSpindle b stoppedEntered)
  flies : ∀ {s : State} {b : Bay}, P s → (s.positioner b).state.loaded = true ∨ (s.positioner b).inMotion →
    Flies P s b

theorem samplingBegun_step (t : Settings) (p : Positioner) : PositionerStep t p (samplingBegun p) := by
  unfold samplingBegun
  split
  · exact { PositionerStep.refl t p with
      range := fun _ h => ⟨h.counter, h.vmeas, h.crossTimer, h.dac, h.retractRetries⟩
      motion := fun h => h
      settle := fun _ _ => .inl (by simp)
      sample := fun _ => .inl rfl }
  · exact .refl t p

theorem samplingBegun_state (p : Positioner) : (samplingBegun p).state = p.state := by
  unfold samplingBegun
  split <;> rfl

theorem refreshPending_step {s : State} {b : Bay} (l : Link) (hl : LinkStep s.link l) : LinkStep s.link (refreshPending b l) := by
  unfold refreshPending
  split
  · exact ⟨hl.state, hl.haltedFrom, hl.fetch, hl.refresh, hl.poll⟩
  · exact hl

@[simp] theorem State.interruptChannel_spindles (s : State) (b : Bay) :
    (s.interruptChannel b).spindles = s.spindles := by
  unfold State.interruptChannel
  repeat' split
  all_goals simp

namespace KeptLimits

variable {P : State → Prop} (k : KeptLimits P) {s t : State} {b : Bay}

include k

/-! ### Seek Faults (R72 to R75) -/

theorem modHeads {f : Positioner → Positioner} (h : P s) (hfly : Flies P s b)
    (step : PositionerStep s.settings (s.positioner b) (f (s.positioner b))) : P (s.modPositioner b f) :=
  hfly.elim (fun free => k.report (free h step)) fun hr => k.modPositioner h step fun _ => .inr hr

theorem stopControlled (h : P s) (hfly : Flies P s b) : P (s.controlledStop b) := by
  unfold State.controlledStop
  extract_lets begun
  have hbegun : P begun := k.modHeads h hfly (stopBegun_step ..)
  split
  · exact k.modHeads hbegun (hfly.congr (by simp [begun])) (by simpa [begun] using velocityLegEnded_step ..)
  · exact hbegun

theorem retryMotion {o : Order} (h : P s) (hfly : Flies P s b) : P (s.retryMotion b o) := by
  unfold State.retryMotion
  split
  · exact k.stopControlled (k.setPositioner (k.endOrder h) .same) (hfly.congr (by simp))
  · exact k.stopControlled (k.countReseek (k.setPositioner h .same)) (hfly.congr (by simp))

theorem seekFault {stops : Bool} (h : P s) (hfly : Flies P s b) : P (s.seekFault b stops) := by
  unfold State.seekFault
  extract_lets left
  have hleft : P left ∧ left.spindles = s.spindles := by
    unfold left
    split
    · exact ⟨k.recordSeekFault (k.interruptChannel h), by simp⟩
    · exact ⟨k.recordSeekFault h, by simp⟩
  obtain ⟨hkept, hspin⟩ := hleft
  repeat' split
  · exact k.retryMotion hkept (hfly.congr hspin)
  · exact k.stopControlled hkept (hfly.congr hspin)
  · exact k.beginRetract hkept

theorem overrun (h : P s) (hfly : Flies P s b) : P (s.overrun b) :=
  k.seekFault (k.setPositioner h .same) (hfly.congr (by simp))

/-! ### The limits of a motion -/

theorem takeSettleLimit (h : P s) : P (takeSettleLimit b s) := by
  unfold Machine.takeSettleLimit
  split
  next hm => exact k.seekFault h (k.flies h (.inr (.inr (.inr (.inr (.inl hm))))))
  · exact h

theorem takeSeekLimit (h : P s) : P (takeSeekLimit b s) := by
  unfold Machine.takeSeekLimit
  split
  next hm => exact k.seekFault h (k.flies h (.inr (.inr (.inr (.inl hm)))))
  · exact h

theorem takeRecalibrateLimit (h : P s) : P (takeRecalibrateLimit b s) := by
  unfold Machine.takeRecalibrateLimit
  split
  next hm => exact k.seekFault h (k.flies h (.inr (.inr (.inl hm))))
  · exact h

theorem takeStopLimit (h : P s) : P (takeStopLimit b s) := by
  unfold Machine.takeStopLimit
  split
  next hm => exact k.seekFault h (k.flies h (.inr (.inr (.inr (.inr (.inr hm))))))
  · exact h

theorem takeLoadFault (h : P s) : P (takeLoadFault b s) := by
  unfold Machine.takeLoadFault
  split
  · exact k.loadFaulted h
  · exact h

theorem takeSettleEnd (h : P s) : P (takeSettleEnd b s) :=
  k.setPositioner h (samplingBegun_step ..) (samplingBegun_state _)

theorem enterBayFault (h : P s) : P (s.enterBayFault b) := by
  refine k.endTasksOn (k.clearMount (k.setPositioner (k.modBay h ⟨rfl, by simp, by simp⟩) ?_))
  exact { PositionerStep.refl _ _ with
    range := fun _ h => ⟨h.counter, h.vmeas, h.crossTimer, h.dac, Nat.zero_le _⟩
    motion := fun h => h }

theorem failRecovery (h : P s) : P (s.failRecovery b) := by
  refine k.endTasksOn (k.setPositioner (k.modBay h ⟨rfl, by simp, ?_⟩) ?_)
  · simp only [TimerKept.refl, true_and, and_true]
    split <;> simp
  · exact { PositionerStep.refl _ _ with
      range := fun _ h => ⟨h.counter, h.vmeas, h.crossTimer, h.dac, Nat.zero_le _⟩
      motion := fun h => h }

theorem takeActuatorFault (h : P s) : P (s.takeActuatorFault b) := by
  unfold State.takeActuatorFault
  repeat' split
  · exact h
  · exact k.enterBayFault h
  · exact k.enterBayFault h
  · exact k.failRecovery h
  · exact k.modBay h ⟨rfl, by simp, by simp⟩
  · exact h
  · exact h

theorem takeRetractLimit (h : P s) : P (takeRetractLimit b s) := by
  unfold Machine.takeRetractLimit
  split
  · exact k.takeActuatorFault (k.failRetract h)
  · exact h

theorem takeHoldEnd (h : P s) : P (takeHoldEnd b s) := by
  unfold Machine.takeHoldEnd
  split
  · exact k.enterParked h
  · exact h

/-! ### The limits of a spindle -/

theorem cutCopy (h : P s) : P (s.cutCopy b) := by
  unfold State.cutCopy
  split
  · exact k.loseChannel h
  · exact h

theorem spinFault {f : FaultClass} (h : P s) (hp : (s.spindle b).phase ≠ .pending) : P (s.spinFault b f) := by
  have hstopped : P ((((((s.recordFault b f).cutCopy b).endMount b).enterStopping b).endTasksOn b usesSpindle
      (spinResult f)).modEntries (stopAwaited b)) := by
    refine k.modEntries (k.endTasksOn (k.enterStopping (k.endMount (k.cutCopy (k.recordFault h))) ?_))
      (stopAwaited_step b)
    simpa [State.spindle] using hp
  unfold State.spinFault
  extract_lets stopped
  split
  · exact k.givePark hstopped
  · exact hstopped

theorem takeStartLimit (h : P s) : P (takeStartLimit b s) := by
  unfold Machine.takeStartLimit
  split
  next hp => exact k.spinFault h (by simp [hp])
  · exact h

theorem takeSpinUpLimit (h : P s) : P (takeSpinUpLimit b s) := by
  unfold Machine.takeSpinUpLimit
  split
  next hp => exact k.spinFault h (by rcases hp with hp | hp <;> simp [hp])
  · exact h

theorem takeSilence (h : P s) : P (takeSilence b s) := by
  unfold Machine.takeSilence
  split
  next hp => exact k.spinFault h fun hpending => by simp [hpending, Phase.runsLaw] at hp
  · exact h

theorem takeDriftLimit (h : P s) : P (takeDriftLimit b s) := by
  unfold Machine.takeDriftLimit
  split
  next hp => exact k.spinFault h (by simp [hp])
  · exact h

theorem takeStopped (h : P s) : P (takeStopped b s) := by
  unfold Machine.takeStopped
  split
  next hp =>
    have hstopped := k.dropLoad (b := b) (k.stopped h hp)
    unfold State.enterStopped
    extract_lets stopped
    split
    · exact k.requestPermit hstopped (by simp [stopped, State.spindle, stoppedEntered])
    · exact hstopped
  · exact h

/-! ### The limits of a bay and of the Link Port -/

theorem takePulseExpiry (h : P s) : P (takePulseExpiry b s) := by
  refine k.modBay h ?_
  unfold pulseEnded
  split
  · exact ⟨rfl, by simp, by simp⟩
  · exact .refl _

theorem takeLeaveExpiry (h : P s) : P (takeLeaveExpiry b s) := by
  unfold Machine.takeLeaveExpiry
  split
  · exact k.failEject h
  · exact h

theorem takeStartBoundExpiry (h : P s) : P (takeStartBoundExpiry b s) := by
  unfold Machine.takeStartBoundExpiry
  split
  · exact k.failEject h
  · exact h

theorem takeRetryExpiry (h : P s) : P (takeRetryExpiry b s) := by
  unfold Machine.takeRetryExpiry
  extract_lets u
  have hu : P u := k.modBay h ⟨rfl, by simp, by simp⟩
  repeat' split
  · exact k.givePark hu
  · exact hu
  · exact h

theorem takeIdleExpiry (h : P s) : P (takeIdleExpiry b s) := by
  unfold Machine.takeIdleExpiry
  split
  · exact k.givePark (k.modBay h ⟨rfl, by simp, by simp⟩)
  · exact h

theorem takeRefreshExpiry (h : P s) : P (takeRefreshExpiry b s) := by
  unfold Machine.takeRefreshExpiry
  split
  · refine k.modLink h (refreshPending_step _ ⟨rfl, rfl, rfl, fun c => ?_, .refl _⟩)
    rw [PerBay.get_update]
    split <;> simp
  · exact h

theorem takePollExpiry (h : P s) : P (takePollExpiry s) := by
  unfold Machine.takePollExpiry
  split
  · exact k.modLink h ⟨rfl, rfl, rfl, fun _ => .refl _, .begun _⟩
  · exact h

end KeptLimits
end Sys2Proof.Machine

/-!
PROOFS. The events of the inputs, of a spindle and of the channel: what follows a sample for any property that
the waits keep, and the samples themselves for one that asks nothing of the sampled inputs.
-/

namespace Sys2Proof.Machine

/-- What a sample, a crossing or a tick makes of a Positioner: its state stands, and no motion timer starts. -/
structure HeadStep (p r : Positioner) : Prop where
  state : r.state = p.state
  range : p.inRange → r.inRange
  motion : p.motionOk → r.motionOk

/-- A change of a Positioner that no sample of Outer Guard makes. -/
structure DriveStep (p r : Positioner) : Prop extends HeadStep p r where
  guard : r.outerGuard = p.outerGuard

/-- The levels of the inputs that a run of equal samples makes accepted. -/
structure BayLevels where
  present : Bool
  writeProtect : Bool
  ejectButton : Bool
  parkDetect : Bool
  outerGuard : Bool

def BayPins.debounced (x : BayPins) : BayLevels :=
  ⟨x.present, x.writeProtect, x.ejectButton, x.parkDetect, x.outerGuard⟩

/-- R45: what holds where the permit's arbiter gives the permit to bay 0. -/
def State.permitMet (s : State) : Prop :=
  s.permitHolder = some .bay1 ∧ s.permitWaiting = some .bay0 ∧ (s.spindle .bay1).phase = .starting

/-- An insertion raises the Media Generation of its bay, and stops timers. -/
structure BayRaised (c d : BayControl) : Prop where
  generation : d.generation = generationRaised c.generation
  rest : BayStep c { d with generation := c.generation }

/-- What an insertion keeps, which raises the Media Generation of its bay. -/
def Raises (P : State → Prop) (b : Bay) : Prop :=
  ∀ {s : State} {f : BayControl → BayControl}, P s → BayRaised (s.bay b) (f (s.bay b)) →
    P { s with bays := s.bays.update b f }

/-- A property that the marks, the crossings and the pulses of the drive keep. -/
structure KeptDrive (P : State → Prop) : Prop extends KeptLimits P where
  levels : ∀ {s : State} {b : Bay} {f : BayPins → BayPins}, P s →
    (∀ x, (f x).debounced = x.debounced) → P (s.modPins b f)
  move : ∀ {s : State} {b : Bay} {f : Positioner → Positioner}, P s →
    DriveStep (s.positioner b) (f (s.positioner b)) → P { s with positioners := s.positioners.update b f }
  spun : ∀ {s : State} {b : Bay} {f : Spindle → Spindle}, P s →
    (f (s.spindle b)).phase = (s.spindle b).phase →
    (s.settings.inRange → (s.spindle b).inRange → (f (s.spindle b)).inRange) →
    P { s with spindles := s.spindles.update b f }
  mark : ∀ {s : State} {b : Bay} {n : Nat}, P s →
    P (s.modSpindle b fun q => markTimed (markCounted (markRecorded n q)))
  lock : ∀ {s : State} {b : Bay}, P s → (s.spindle b).phase = .accelerating ∨ (s.spindle b).phase = .drifting →
    P ((s.modSpindle b lockedEntered).releasePermit b)
  drift : ∀ {s : State} {b : Bay}, P s → (s.spindle b).phase = .locked →
    P (s.modSpindle b driftingEntered)

/-- A property that the waits and the events of the drive keep: it asks nothing of the inputs, the ports, the
supply and the clock. -/
structure KeptEvents (P : State → Prop) : Prop extends KeptLimits P where
  pins : ∀ {s : State} {x : Pins}, P s → P { s with pins := x }
  ports : ∀ {s : State} {x : Ports}, P s → P { s with ports := x }
  supply : ∀ {s : State} {x : Supply}, P s → P { s with supply := x }
  reset : ∀ {s : State} {x : Bool}, P s → P { s with resetInProgress := x }
  input : ∀ {s : State} {b : Bay} {f : BayControl → BayControl}, P s →
    (f (s.bay b)).generation = (s.bay b).generation → P { s with bays := s.bays.update b f }
  head : ∀ {s : State} {b : Bay} {f : Positioner → Positioner}, P s →
    HeadStep (s.positioner b) (f (s.positioner b)) → P { s with positioners := s.positioners.update b f }
  spun : ∀ {s : State} {b : Bay} {f : Spindle → Spindle}, P s →
    (f (s.spindle b)).phase = (s.spindle b).phase →
    (s.settings.inRange → (s.spindle b).inRange → (f (s.spindle b)).inRange) →
    P { s with spindles := s.spindles.update b f }
  tickLink : ∀ {s : State} {l : Link}, P s →
    l.state = s.link.state ∧ l.haltedFrom = s.link.haltedFrom ∧ l.fetch = s.link.fetch →
    P { s with link := l }
  mark : ∀ {s : State} {b : Bay} {n : Nat}, P s →
    P (s.modSpindle b fun q => markTimed (markCounted (markRecorded n q)))
  lock : ∀ {s : State} {b : Bay}, P s → (s.spindle b).phase = .accelerating ∨ (s.spindle b).phase = .drifting →
    P ((s.modSpindle b lockedEntered).releasePermit b)
  drift : ∀ {s : State} {b : Bay}, P s → (s.spindle b).phase = .locked →
    P (s.modSpindle b driftingEntered)
  permitMet : ∀ {start s : State}, P start → P s → s.permitMet → P (State.permitToBay0 start s)
  fill : ∀ {s : State} {b : Bay} {i : Nat} {o : Owner} {p : Purpose} {sector : SlotSector}
    {host : Option Nat}, P s → s.channel.grant = some b → s.channel.search = .searching →
    s.slotForTake o = some i → p ∈ [Purpose.read, .verify, .copy, .recordRead] →
    (∀ c, o = .mount c → c = b ∧ (s.map b).mountStage = .atChannel) →
    P ((s.takeSlot i .filling o p b sector host).modChannel fun c =>
      { c with search := .reading, slot := some i })
  pour : ∀ {s : State} {b : Bay} {i id : Nat} {sector : SlotSector}, P s → s.channel.grant = some b →
    s.slotFor? id sector = some i → (s.slots[i]?.any fun x => x.state == .full) = true →
    P ((s.modSlot i fun x => { x with state := .draining }).modChannel fun c =>
      { c with search := .writing, slot := some i, writeGate := true, readGate := false })

/-! ### Frames of the operations of a fault -/

@[simp] theorem State.interruptChannel_positioners (s : State) (b : Bay) :
    (s.interruptChannel b).positioners = s.positioners := by
  unfold State.interruptChannel
  repeat' split
  all_goals simp

@[simp] theorem State.interruptChannel_settings (s : State) (b : Bay) :
    (s.interruptChannel b).settings = s.settings := by
  have h : (s.interruptChannel b).standing.settings = s.standing.settings := by simp
  exact h

theorem State.mountOff_releaseOf (s : State) (b : Bay) : (s.releaseOf b).mountOff b := by
  unfold State.releaseOf
  split
  · exact .inl rfl
  next hg => exact .inr (.inr (.inl hg))

theorem outwardCounted_step (t : Settings) (d : Direction) (p : Positioner) :
    PositionerStep t p (outwardCounted d p) := by
  unfold outwardCounted
  split
  · exact .same
  · exact .refl t p

@[simp] theorem outwardCounted_state (d : Direction) (p : Positioner) :
    (outwardCounted d p).state = p.state := by
  unfold outwardCounted
  split <;> rfl

/-! ### The settings that a mark runs under -/

theorem mark_drive (n : Nat) (q : Spindle) : (markTimed (markCounted (markRecorded n q))).drive = q.drive := by
  unfold markTimed markCounted markRecorded
  repeat' split
  all_goals rfl

@[simp] theorem standing_markPhase (s : State) (b : Bay) : (s.markPhase b).standing = s.standing := by
  unfold State.markPhase State.markStability
  extract_lets t
  have ht : t.standing = s.standing := State.standing_modSpindle _ _ _ rfl
  repeat' split
  all_goals simp [ht]

@[simp] theorem standing_markFly (s : State) (b : Bay) : (s.markFly b).standing = s.standing := by
  unfold State.markFly
  split <;> simp

@[simp] theorem standing_markRevolution (s : State) (b : Bay) (turns : Bool) :
    (s.markRevolution b turns).standing = s.standing := by
  unfold State.markRevolution
  split <;> simp

theorem default_inRange : Settings.default.inRange := by
  simp [Settings.inRange, Settings.default]
  decide

theorem HeadStep.same {p r : Positioner} (step : ∀ t, PositionerStep t p r)
    (state : r.state = p.state := by rfl) : HeadStep p r where
  state := state
  range := (step Settings.default).range default_inRange
  motion := (step Settings.default).motion

theorem crossingCounted_step (d : Direction) (n : Nat) (p : Positioner) :
    HeadStep p (crossingCounted d n p) where
  state := rfl
  range h := by
    refine ⟨?_, Nat.div_le_self .., by simp [crossingCounted], h.dac, h.retractRetries⟩
    obtain ⟨hlo, hhi⟩ := h.counter
    cases d <;> simp only [crossingCounted, countCrossing] <;> omega
  motion h := h

theorem edgeFound_step (t : Settings) (p : Positioner) : PositionerStep t p (edgeFound t p) where
  range _ h := ⟨by simp [edgeFound, settlingEntered], h.vmeas, h.crossTimer,
    by simp [edgeFound, settlingEntered], h.retractRetries⟩
  motion _ _ := rfl
  motions := ⟨.refl _, .stopped _, .begun _, .or_begun _, .refl _⟩
  settle ht h := (settlingEntered_step t _).settle ht h
  hold h := nomatch h
  retract h := nomatch h
  vel h := nomatch h
  sample h := nomatch h
  guard := rfl

theorem crossingsSilent_step (t : Settings) (p : Positioner) :
    PositionerStep t p (crossingsSilent t p) := by
  unfold crossingsSilent
  extract_lets still
  have hstill : PositionerStep t p still := { PositionerStep.refl t p with
    range := fun _ h => ⟨h.counter, Nat.zero_le _, le_rfl, h.dac, h.retractRetries⟩
    motion := fun h => h }
  split
  · exact hstill.trans (velocityLegEnded_step ..)
  · exact hstill.trans (demandComputed_step ..)
  · exact hstill.trans (demandComputed_step ..)
  · exact hstill

theorem indexMissed_step (t : Settings) (q : Spindle) : SpindleStep t q (indexMissed q) := by
  unfold indexMissed
  split
  · exact ⟨rfl, fun _ hr => ⟨hr.history, hr.markTimer, hr.revCount, hr.speed, hr.activeTarget, hr.integrator,
      hr.duty, hr.inBand, raiseTo_le ..⟩, by simp, by simp⟩
  · exact .refl t q

theorem holdBegun_step (t : Settings) (p : Positioner) : PositionerStep t p (holdBegun p) := by
  unfold holdBegun
  split
  · exact { PositionerStep.refl t p with
      range := fun _ h => ⟨h.counter, h.vmeas, h.crossTimer, h.dac, h.retractRetries⟩
      motion := fun h => h
      hold := fun hr => by
        rcases TimerKept.or_begun p.parkHold with hn | hz | hk
        · exact .inl hn
        · exact .inr (.inl hz)
        · exact .inr (.inr ⟨hr, hk⟩)
      retract := fun _ hn => by cases hp : p.parkHold <;> simp [hp] at hn }
  · exact .refl t p

theorem lawRun_inRange {t : Settings} {q : Spindle} (ht : t.inRange) (h : q.inRange) :
    (lawRun t q).inRange := by
  unfold lawRun
  split
  · obtain ⟨-, -, -, -, -, hfloor, ⟨hlow, hceil⟩, -⟩ := ht
    refine ⟨h.history, h.markTimer, h.revCount, h.speed, h.activeTarget, ?_, ⟨?_, h.duty.2⟩, h.inBand,
      h.missCount⟩
    · simp only [lawIntegrator]
      split
      · exact h.integrator
      · exact clampInt_mem (by decide)
    · simp only [lawDuty]
      obtain ⟨-, hhi⟩ := clampInt_mem (x := rawDuty t q.integrator (clampedError (errorOf q)))
        (show (t.dutyFloor : Int) ≤ t.dutyCeiling by omega)
      omega
  · exact h

theorem readPurpose_mem {e : Entry} {p : Purpose} (h : readPurpose e = some p) :
    p ∈ [Purpose.read, .verify, .copy, .recordRead] := by
  unfold readPurpose at h
  repeat' split at h
  all_goals cases h <;> decide

theorem client_mount {s : State} {b : Bay} (h : s.client? b = some .mount) :
    (s.map b).mountStage = .atChannel := by
  unfold State.client? at h
  split at h
  · assumption
  · obtain ⟨e, -, he⟩ := Option.map_eq_some_iff.mp h
    cases he
namespace KeptLimits

variable {P : State → Prop} (k : KeptLimits P) {s : State} {b : Bay}

include k

/-! ### The bay inputs -/

theorem insert (hr : Raises P b) (h : P s) : P (s.insert b) := by
  unfold State.insert
  extract_lets counted cleared seated parked
  have hcounted : P counted := k.report (hr h ⟨rfl, rfl, by simp, by simp⟩)
  have hcleared : P cleared :=
    k.modMap (k.clearMount hcounted) ⟨fun hr => ⟨Nat.zero_le _, hr.2⟩, fun ht => ht⟩
  have hseated : P seated := k.modBay hcleared ⟨rfl, by simp, by simp⟩
  have hparked : P parked := by
    unfold parked
    split
    · exact k.modSpindle (k.modPositioner hseated (parkEnded_step ..) fun hl => nomatch hl)
        (deferredBrake_step ..)
    · exact hseated
  repeat' split
  · exact k.lockAndSpin hparked
  · exact hparked
  · exact k.modPositioner (k.loseChannel (k.modBay hcleared ⟨rfl, by simp, by simp⟩))
      (strandedActuator_step ..) fun hl => nomatch hl

theorem takePresentTrue (hr : Raises P b)
    (still : ¬((s.bay b).sensing ∧ !(s.bay b).presentUndecided ∧ !(s.bay b).present.accepted) → P s)
    (set : P (s.setPresent b true)) : P (takePresentTrue b s) := by
  unfold Machine.takePresentTrue
  extract_lets c u
  split
  · split
    · exact k.insert hr set
    · exact set
  next h => exact still h

theorem ordinaryRemoval (h : P s) : P (s.ordinaryRemoval b) := by
  refine k.modEntries (k.modBay (k.loseChannel h) ⟨rfl, by simp [ejectStopped], by simp [ejectStopped]⟩)
    fun e => ?_
  split
  · exact completed_step e
  · exact .refl e

theorem unexpectedRemoval (h : P s) : P (s.unexpectedRemoval b) :=
  k.modBay (k.clearMount (k.endTasksOn (k.stopRequest (k.emergencyRetract (k.withdrawWaiting
    (k.loseChannel (k.cutCopy h))))))) ⟨rfl, by simp [ejectStopped], by simp [ejectStopped]⟩

theorem removed (h : P s) : P (s.removed b) := by
  unfold State.removed
  repeat' split
  · exact h
  · exact k.ordinaryRemoval h
  · exact k.ordinaryRemoval h
  · exact k.ordinaryRemoval h
  · exact k.unexpectedRemoval h

theorem takePresentFalse
    (still : ¬((s.bay b).sensing ∧ !(s.bay b).presentUndecided ∧ (s.bay b).present.accepted) → P s)
    (set : P (s.setPresent b false)) : P (takePresentFalse b s) := by
  unfold Machine.takePresentFalse
  extract_lets c
  split
  · exact k.removed set
  next h => exact still h

theorem takePresentDecided {v : Bool} (hr : v = true → Raises P b)
    (still : ¬((s.bay b).sensing ∧ (s.bay b).presentUndecided) → P s) (set : P (s.setPresent b v)) :
    P (takePresentDecided b v s) := by
  unfold Machine.takePresentDecided
  extract_lets u
  split
  · repeat' split
    · exact set
    next hv _ => exact k.insert (hr hv) set
    · exact k.ordinaryRemoval set
    · exact set
  next h => exact still h

theorem protect (h : P s) : P (s.protect b) := by
  unfold State.protect
  extract_lets writing
  refine k.endTasksOn ?_
  split
  · exact k.loseChannel h
  · exact h

theorem takeWriteProtect {v : Bool} (still : ¬((s.bay b).sensing ∧ (s.bay b).writeProtect.accepted ≠ v) → P s)
    (set : P ((s.modPins b fun x => { x with writeProtect := v }).modBay b fun c =>
      { c with writeProtect := ⟨v, 0⟩ })) : P (takeWriteProtect b v s) := by
  unfold Machine.takeWriteProtect
  extract_lets u
  split
  · split
    · exact k.protect set
    · exact set
  next h => exact still h

theorem pressed (h : P s) : P (s.pressed b) := by
  unfold State.pressed
  repeat' split
  · exact h
  · exact k.modChannel h .same
  · exact k.press h

theorem takeButtonPress (still : ¬((s.bay b).sensing ∧ !(s.bay b).button.accepted) → P s)
    (set : P ((s.modPins b fun x => { x with ejectButton := true }).modBay b fun c =>
      { c with button := ⟨true, 0⟩ })) : P (takeButtonPress b s) := by
  unfold Machine.takeButtonPress
  split
  · exact k.pressed set
  next h => exact still h

omit k in
theorem takeButtonReleased (still : ¬((s.bay b).sensing ∧ (s.bay b).button.accepted) → P s)
    (set : P ((s.modPins b fun x => { x with ejectButton := false }).modBay b fun c =>
      { c with button := ⟨false, 0⟩ })) : P (takeButtonReleased b s) := by
  unfold Machine.takeButtonReleased
  split
  · exact set
  next h => exact still h

theorem holdBegun (h : P s) : P (s.modPositioner b holdBegun) := by
  refine k.setPositioner h (holdBegun_step ..) ?_
  unfold Machine.holdBegun
  split <;> rfl

/-- R78: Park Detect accepted true; `watched` is the Positioner's own view of the input, `set` the bay's. -/
theorem takeParkTrue (still : ¬((s.bay b).sensing ∧ !(s.bay b).parkDetect.accepted) → P s)
    (watched : s.rampWatched b = true → P (s.modPins b fun x => { x with parkDetect := true }))
    (set : s.rampWatched b = false → P (s.setParkDetect b true)) : P (takeParkTrue b s) := by
  have hsensing : s.rampWatched b = true → ¬((s.bay b).sensing = true ∧ (!(s.bay b).parkDetect.accepted) = true) :=
    fun hw hc => by simp [State.rampWatched, hc.1] at hw
  unfold Machine.takeParkTrue
  split
  next hw =>
    split
    · exact k.holdBegun (watched hw)
    · exact still (hsensing hw)
  next hw =>
    split
    · exact k.holdBegun (set (by simpa using hw))
    next h => exact still h

/-- R78, R80: Park Detect accepted false. -/
theorem takeParkFalse (abandon : ∀ {s : State}, P s → P (s.modPositioner b holdAbandoned))
    (still : ¬((s.bay b).sensing ∧ (s.bay b).parkDetect.accepted) → P s)
    (watched : s.rampWatched b = true → P (s.modPins b fun x => { x with parkDetect := false }))
    (set : s.rampWatched b = false → P (s.setParkDetect b false)) : P (takeParkFalse b s) := by
  have hsensing : s.rampWatched b = true → ¬((s.bay b).sensing = true ∧ (s.bay b).parkDetect.accepted = true) :=
    fun hw hc => by simp [State.rampWatched, hc.1] at hw
  unfold Machine.takeParkFalse
  extract_lets u
  split
  next hw =>
    split
    · exact abandon (watched hw)
    · exact still (hsensing hw)
  next hw =>
    have hset : P u := set (by simpa using hw)
    repeat' split
    · exact abandon hset
    · exact k.beginRetract hset
    · exact hset
    next h => exact still h

/-! ### The actuator's inputs -/

theorem fliesOf (h : P s) {a : Actuator} (ha : (s.positioner b).state = a) (hl : a.loaded = true) :
    Flies P s b :=
  k.flies h (.inl (ha ▸ hl))

theorem guardEntered (h : P s) : P (s.guardEntered b) := by
  unfold State.guardEntered
  extract_lets p
  split
  next ha => exact k.modPositioner h (recalibrateBegun_step ..) fun _ => .inl (by simp only [p] at ha; simp [ha, Actuator.loaded])
  · exact k.setPositioner h .same
  next ha => exact k.overrun h (k.fliesOf h ha rfl)
  next ha => exact k.overrun h (k.fliesOf h ha rfl)
  next ha => exact k.overrun h (k.fliesOf h ha rfl)
  · exact k.setPositioner h .same
  · exact h

theorem guardLeft (h : P s) : P (s.guardLeft b) := by
  unfold State.guardLeft
  extract_lets p
  split
  next hp => exact k.modPositioner h (edgeFound_step ..) fun _ => .inl (by
    have ha := hp.1
    simp only [p] at ha
    simp [ha, Actuator.loaded])
  · exact h

theorem takeOuterGuard {v : Bool} (still : (s.positioner b).outerGuard.accepted = v → P s)
    (set : P ((s.modPins b fun x => { x with outerGuard := v }).modPositioner b fun p =>
      { p with outerGuard := ⟨v, 0⟩ })) : P (takeOuterGuard b v s) := by
  unfold Machine.takeOuterGuard
  extract_lets u
  split
  · split
    · exact k.guardEntered set
    · exact k.guardLeft set
  next h => exact still (not_not.mp h)

/-- A change of the motion of heads over the platter. -/
theorem modLoaded {f : Positioner → Positioner} {a : Actuator} (h : P s) (ha : (s.positioner b).state = a)
    (hl : a.loaded = true) (step : PositionerStep s.settings (s.positioner b) (f (s.positioner b))) :
    P (s.modPositioner b f) :=
  k.modPositioner h step fun _ => .inl (ha ▸ hl)

theorem crossed {d : Direction} (h : P s) : P (s.crossed b d) := by
  unfold State.crossed
  extract_lets p u
  split
  next ha =>
    have hu : P u := k.setPositioner h (outwardCounted_step ..) (outwardCounted_state ..)
    have hua : (u.positioner b).state = .recalibrating := by simpa [u] using ha
    split
    · exact k.seekFault hu (k.fliesOf hu hua rfl)
    · exact k.modLoaded hu hua rfl (demandComputed_step ..)
  next ha =>
    repeat' split
    · exact k.overrun h (k.fliesOf h ha rfl)
    · exact k.modLoaded h ha rfl (settlingEntered_step ..)
    · exact k.modLoaded h ha rfl (demandComputed_step ..)
  next ha =>
    split
    · exact k.overrun h (k.fliesOf h ha rfl)
    · exact k.modLoaded h ha rfl (reseekBegun_step ..)
  next ha =>
    split
    · exact k.overrun h (k.fliesOf h ha rfl)
    · refine k.modLoaded (k.interruptChannel h) (a := .following) ?_ rfl ?_
      · exact (congrArg Positioner.state (by simp [State.positioner, p])).trans ha
      · simpa using reseekBegun_step ..
  next ha =>
    exact k.modLoaded h ha rfl ((PositionerStep.same : PositionerStep _ _
      { s.positioner b with known := (s.positioner b).known && !outOfCylinders (s.positioner b) }).trans
        (demandComputed_step ..))
  · exact h

theorem crossingLost (h : P s) : P (s.crossingLost b) := by
  unfold State.crossingLost
  extract_lets unknown
  have hunknown : P unknown := k.setPositioner h .same
  have hflies {a : Actuator} (ha : (s.positioner b).state = a) (hl : a.loaded = true) :
      Flies P unknown b :=
    (k.fliesOf h ha hl).congr (by simp [unknown])
  split
  next ha => exact k.seekFault hunknown (hflies ha rfl)
  next ha => exact k.seekFault hunknown (hflies ha rfl)
  next ha => exact k.seekFault hunknown (hflies ha rfl)
  · exact hunknown
  · exact h

theorem takeCrossingSilence (h : P s) : P (takeCrossingSilence b s) := by
  refine k.modPositioner h (crossingsSilent_step ..) fun hl => .inl ?_
  unfold crossingsSilent at hl
  extract_lets still at hl
  split at hl
  next ha => rw [ha]; rfl
  next ha => rw [ha]; rfl
  next ha => rw [ha]; rfl
  · exact hl

theorem takeRecompute (h : P s) : P (takeRecompute b s) := by
  unfold Machine.takeRecompute
  split
  · exact k.setPositioner h (demandComputed_step ..)
  · exact h

theorem takeOnTrack (h : P s) (level : P (s.modPins b fun x => { x with onTrack := true })) :
    P (takeOnTrack b s) := by
  unfold Machine.takeOnTrack
  split
  next hs => exact k.enterFollowing level (by
    have ha := hs.1
    exact (show (s.positioner b).state.loaded = true by rw [ha]; rfl))
  · exact h

/-! ### Marks and the index -/

theorem searchRevolution (h : P s) (hs : s.channel.search = .searching) : P (s.searchRevolution b) := by
  unfold State.searchRevolution
  extract_lets n
  repeat' split
  · exact k.failAttempt (k.modChannel h ⟨fun hr => ⟨hr.retryCount, Nat.zero_le _, hr.searches.2⟩,
      .inr ⟨rfl, .inr ⟨rfl, rfl⟩⟩⟩) (.inr hs)
  · exact h
  · exact k.modChannel h ⟨fun hr => ⟨hr.retryCount, by dsimp only; omega, hr.searches.2⟩,
      .inr ⟨rfl, .inr ⟨rfl, rfl⟩⟩⟩

theorem formatRevolution (h : P s) (hs : s.channel.search = .formatting) : P (s.formatRevolution b) := by
  unfold State.formatRevolution
  extract_lets n
  split
  · exact k.indexFault h hs
  · exact k.modChannel h ⟨fun hr => ⟨hr.retryCount, hr.searches.1, by dsimp only; omega, hr.searches.2.2⟩,
      .inr ⟨rfl, .inr ⟨rfl, rfl⟩⟩⟩

theorem revolution (h : P s) : P (s.revolution b) := by
  unfold State.revolution
  extract_lets slid
  have hslid : P slid := by
    refine k.modMap (k.modEntries h (slipOver_step b)) ?_ ?_
    · split <;> exact .same
    · split
      next hm => exact .inl (.inr (.inr (.inr (by simp at hm; simp [hm]))))
      · exact .inr rfl
  repeat' split
  next hs => exact k.searchRevolution hslid (by simpa [slid] using hs)
  next hs => exact k.formatRevolution hslid (by simpa [slid] using hs)
  · exact hslid
  · exact hslid

theorem beginLaying {r : Run} (h : P s) : P (s.beginLaying b r) := by
  unfold State.beginLaying
  extract_lets laid
  have hlaid : P laid := k.modChannel h ⟨fun hr => ⟨hr.retryCount, hr.searches.1, by simp⟩,
    .inr ⟨rfl, .inr ⟨rfl, rfl⟩⟩⟩
  repeat' split
  · exact k.modMap hlaid (.emptied le_rfl rfl rfl rfl)
  · exact hlaid
  · exact h

theorem formatIndex (h : P s) : P (s.formatIndex b) := by
  unfold State.formatIndex
  split
  next hs =>
    split
    · exact k.beginLaying h
    · exact k.indexFault h hs.2
    · exact k.releaseChannel (k.modEntry h completed_step)
    · exact h
  · exact h

theorem takeIndexMissing (h : P s) : P (takeIndexMissing b s) := k.modSpindle h (indexMissed_step ..)

/-! ### The channel's fields -/

theorem slip {g : Giver} (h : P s) (hs : s.channel.search = .searching) : P (s.slip b g) := by
  unfold State.slip
  split
  · exact k.releaseChannel (k.setEntry h)
  · exact k.releaseChannel (k.modMap h .same (.inl (.inr (.inl hs))))
  · exact h

theorem recalibrateFor {g : Giver} (h : P s) (hoff : s.mountOff b) : P (s.recalibrateFor b g) := by
  unfold State.recalibrateFor
  repeat' split
  · exact k.orderFor (k.setEntry h)
  · exact h
  · exact h
  · exact k.giveOrder (k.modMap h .same (.inl hoff))
  · exact h

theorem wrongCylinder {g : Giver} (h : P s) (hs : s.channel.search = .searching) :
    P (s.wrongCylinder b g) := by
  unfold State.wrongCylinder
  extract_lets failed
  have hfailed : P failed := k.releaseOf (k.failAttempt h (.inr hs))
  split
  · exact k.recalibrateFor hfailed (State.mountOff_releaseOf ..)
  · exact hfailed

theorem positionLaid (h : P s) (hs : s.channel.search = .formatting) : P (s.positionLaid b) := by
  unfold State.positionLaid
  extract_lets laid
  have hlaid : P laid := k.modChannel h
    ⟨fun hr => ⟨hr.retryCount, hr.searches.1, hr.searches.2.1, Nat.min_le_left ..⟩,
      .inr ⟨rfl, .inr ⟨rfl, rfl⟩⟩⟩
  repeat' split
  · exact k.modEntry (k.releaseOf (k.cutFormat hlaid hs)) fun e => decided_step _ _ e
  · exact hlaid
  · exact hlaid

theorem trackLaid {e : Entry} (h : P s) : P (s.trackLaid b e) := by
  unfold State.trackLaid
  extract_lets closing laid
  have hlaid : P laid := k.medium (s := closing) (k.modChannel h .same)
  split
  · exact k.modEntry hlaid fun e => decided_step _ _ e
  · exact hlaid

theorem takeLayingEnd (h : P s) : P (takeLayingEnd s) := by
  unfold Machine.takeLayingEnd
  repeat' split
  · exact h
  · exact k.trackLaid h
  all_goals exact h

end KeptLimits

namespace KeptDrive

variable {P : State → Prop} (k : KeptDrive P) {s : State} {b : Bay}

include k

theorem modHead {f : Positioner → Positioner} (h : P s)
    (step : DriveStep (s.positioner b) (f (s.positioner b))) : P (s.modPositioner b f) :=
  k.report (k.move h step)

theorem modSpun {f : Spindle → Spindle} (h : P s) (hp : (f (s.spindle b)).phase = (s.spindle b).phase)
    (hr : s.settings.inRange → (s.spindle b).inRange → (f (s.spindle b)).inRange) :
    P (s.modSpindle b f) :=
  k.report (k.spun h hp hr)

/-! ### The actuator's inputs -/

theorem takeCrossing {d : Direction} {n : Nat} (h : P s) : P (takeCrossing b d n s) :=
  k.crossed (k.modHead (k.levels h fun _ => rfl) { crossingCounted_step .. with guard := rfl })

theorem takeCrossingError (h : P s) : P (takeCrossingError b s) :=
  k.crossingLost (k.modHead (k.levels h fun _ => rfl) { HeadStep.same fun _ => .same with guard := rfl })

theorem takeOnTrack (h : P s) : P (takeOnTrack b s) :=
  k.toKeptLimits.takeOnTrack h (k.levels h fun _ => rfl)

/-! ### Marks and the index -/

theorem enterSpindleLocked (h : P s)
    (hp : (s.spindle b).phase = .accelerating ∨ (s.spindle b).phase = .drifting) :
    P (s.enterSpindleLocked b) := by
  unfold State.enterSpindleLocked
  extract_lets entered
  have hentered : P entered := k.mountIfDue (k.lock h hp)
  split
  · exact k.givePark hentered
  · exact hentered

theorem markStability (h : P s)
    (hp : (s.spindle b).phase = .accelerating ∨ (s.spindle b).phase = .drifting) :
    P (s.markStability b) := by
  unfold State.markStability
  extract_lets u
  have hu : P u := by
    refine k.modSpun h rfl fun _ hr => ?_
    refine ⟨hr.history, hr.markTimer, hr.revCount, hr.speed, hr.activeTarget, hr.integrator, hr.duty, ?_,
      hr.missCount⟩
    simp only [stabilityCounted]
    split
    · exact raiseTo_le ..
    · exact Nat.zero_le _
  split
  · exact k.enterSpindleLocked hu (by simpa [u, stabilityCounted] using hp)
  · exact hu

theorem markPhase (h : P s) : P (s.markPhase b) := by
  unfold State.markPhase
  split
  next hp => exact k.markStability h (.inl hp)
  next hp => exact k.markStability h (.inr hp)
  next hp =>
    split
    · exact k.interruptChannel (k.drift h hp)
    · exact h
  · exact h

theorem markFly (h : P s) : P (s.markFly b) := by
  unfold State.markFly
  split
  next hp => exact k.spinFault h (by simp [hp.1])
  · exact h

theorem takeMark {n : Nat} (h : P s) : P (takeMark b n s) := by
  unfold Machine.takeMark
  split
  · extract_lets recorded
    have hrecorded : P recorded := by
      unfold recorded State.markRevolution
      split
      · exact k.revolution (k.mark h)
      · exact k.mark h
    refine k.modSpun (k.markFly (k.markPhase hrecorded)) (by unfold lawRun; split <;> rfl) ?_
    have hset : ((recorded.markPhase b).markFly b).standing.settings = s.standing.settings := by
      rw [standing_markFly, standing_markPhase, standing_markRevolution]
      exact congrArg Standing.settings (State.standing_modSpindle _ _ _ (mark_drive ..))
    have hset : ((recorded.markPhase b).markFly b).settings = s.settings := hset
    exact hset ▸ lawRun_inRange
  · exact h

theorem takePeriod (h : P s) : P (takePeriod b s) :=
  k.modSpun h rfl fun _ hr => ⟨hr.history, hr.markTimer, hr.revCount, hr.speed, hr.activeTarget,
    hr.integrator, ⟨hr.duty.1, hr.duty.1⟩, hr.inBand, hr.missCount⟩

theorem takeIndex {n : Nat} (h : P s) : P (takeIndex b n s) := by
  unfold Machine.takeIndex
  extract_lets u
  have hu : P u := by
    refine k.modSpun h ?_ ?_
    · unfold indexTaken
      repeat' split
      all_goals rfl
    · intro _ hr
      unfold indexTaken
      repeat' split
      · exact ⟨hr.history, hr.markTimer, hr.revCount, hr.speed, hr.activeTarget, hr.integrator, hr.duty,
          hr.inBand, Nat.zero_le _⟩
      · exact ⟨hr.history, hr.markTimer, hr.revCount, hr.speed, hr.activeTarget, hr.integrator, hr.duty,
          hr.inBand, hr.missCount⟩
      · exact hr
  split
  · exact k.formatIndex hu
  · exact hu

end KeptDrive

namespace KeptEvents


variable {P : State → Prop} (k : KeptEvents P) {s t start : State} {b : Bay}

include k

/-- What keeps every event keeps those of the drive. -/
theorem drive : KeptDrive P where
  toKeptLimits := k.toKeptLimits
  levels h _ := k.pins h
  move h step := k.head h step.toHeadStep
  spun := k.spun
  mark := k.mark
  lock := k.lock
  drift := k.drift

theorem modPins {f : BayPins → BayPins} (h : P s) : P (s.modPins b f) := k.pins h

theorem modInput {f : BayControl → BayControl} (h : P s)
    (hgen : (f (s.bay b)).generation = (s.bay b).generation := by rfl) : P (s.modBay b f) :=
  k.report (k.input h hgen)

theorem modHead {f : Positioner → Positioner} (h : P s)
    (step : HeadStep (s.positioner b) (f (s.positioner b))) : P (s.modPositioner b f) :=
  k.report (k.head h step)

theorem modSpun {f : Spindle → Spindle} (h : P s) (hp : (f (s.spindle b)).phase = (s.spindle b).phase)
    (hr : s.settings.inRange → (s.spindle b).inRange → (f (s.spindle b)).inRange) :
    P (s.modSpindle b f) :=
  k.report (k.spun h hp hr)

/-! ### The bay inputs -/

theorem setPresent {v : Bool} (h : P s) : P (s.setPresent b v) := k.modInput (k.modPins h)

theorem takePresentTrue (hr : Raises P b) (h : P s) : P (takePresentTrue b s) :=
  k.toKeptLimits.takePresentTrue hr (fun _ => h) (k.setPresent h)

theorem takePresentFalse (h : P s) : P (takePresentFalse b s) :=
  k.toKeptLimits.takePresentFalse (fun _ => h) (k.setPresent h)

theorem takePresentDecided {v : Bool} (hr : v = true → Raises P b) (h : P s) : P (takePresentDecided b v s) :=
  k.toKeptLimits.takePresentDecided hr (fun _ => h) (k.setPresent h)

theorem takeWriteProtect {v : Bool} (h : P s) : P (takeWriteProtect b v s) :=
  k.toKeptLimits.takeWriteProtect (fun _ => h) (k.modInput (k.modPins h))

theorem takeButtonPress (h : P s) : P (takeButtonPress b s) :=
  k.toKeptLimits.takeButtonPress (fun _ => h) (k.modInput (k.modPins h))

theorem takeButtonReleased (h : P s) : P (takeButtonReleased b s) :=
  KeptLimits.takeButtonReleased (fun _ => h) (k.modInput (k.modPins h))

theorem setParkDetect {v : Bool} (h : P s) : P (s.setParkDetect b v) := k.modInput (k.modPins h)

theorem holdAbandoned (h : P s) : P (s.modPositioner b holdAbandoned) :=
  k.modHead h ⟨rfl, fun h => ⟨h.counter, h.vmeas, h.crossTimer, h.dac, h.retractRetries⟩, fun h => h⟩

theorem takeParkTrue (h : P s) : P (takeParkTrue b s) :=
  k.toKeptLimits.takeParkTrue (fun _ => h) (fun _ => k.modPins h) (fun _ => k.setParkDetect h)

theorem takeParkFalse (h : P s) : P (takeParkFalse b s) :=
  k.toKeptLimits.takeParkFalse (fun h => k.holdAbandoned h) (fun _ => h) (fun _ => k.modPins h) (fun _ => k.setParkDetect h)

theorem takeOuterGuard {v : Bool} (h : P s) : P (takeOuterGuard b v s) :=
  k.toKeptLimits.takeOuterGuard (fun _ => h) (k.modHead (k.modPins h)
    ⟨rfl, fun h => ⟨h.counter, h.vmeas, h.crossTimer, h.dac, h.retractRetries⟩, fun h => h⟩)

theorem takeCrossing {d : Direction} {n : Nat} (h : P s) : P (takeCrossing b d n s) := k.drive.takeCrossing h

theorem takeCrossingError (h : P s) : P (takeCrossingError b s) := k.drive.takeCrossingError h

theorem takeOnTrack (h : P s) : P (takeOnTrack b s) := k.drive.takeOnTrack h

theorem takeMark {n : Nat} (h : P s) : P (takeMark b n s) := k.drive.takeMark h

theorem takePeriod (h : P s) : P (takePeriod b s) := k.drive.takePeriod h

theorem takeIndex {n : Nat} (h : P s) : P (takeIndex b n s) := k.drive.takeIndex h

/-! ### The channel's fields -/

theorem readInto {g : Giver} {o : Owner} {p : Purpose} {sector : SlotSector} {host : Option Nat} (h : P s)
    (hg : s.channel.grant = some b) (hs : s.channel.search = .searching)
    (hp : p ∈ [Purpose.read, .verify, .copy, .recordRead])
    (ho : ∀ c, o = .mount c → c = b ∧ (s.map b).mountStage = .atChannel) :
    P (s.readInto b g o p sector host) := by
  unfold State.readInto
  split
  · exact k.slip h hs
  next i hi => exact k.fill h hg hs hi hp ho

theorem writeFrom {id cylinder : Nat} {sector : SlotSector} (h : P s) (hg : s.channel.grant = some b)
    (hs : s.channel.search = .searching) : P (s.writeFrom b id cylinder sector) := by
  unfold State.writeFrom
  repeat' split
  · exact k.slip h hs
  next hi hfull => exact k.pour h hg hi (by simp only [Bool.and_eq_true] at hfull; exact hfull.1)
  · exact k.slip h hs

theorem targetMatched {g : Giver} {r : Run} (h : P s) (hg : s.channel.grant = some b)
    (hs : s.channel.search = .searching) (hc : s.client? b = some g) : P (s.targetMatched b g r) := by
  unfold State.targetMatched
  split
  · refine k.readInto h hg hs (by decide) fun c hc' => ?_
    cases hc'
    exact ⟨rfl, client_mount hc⟩
  · split
    · exact h
    · split
      next hp => exact k.readInto h hg hs (readPurpose_mem hp) fun c hc' => nomatch hc'
      · exact k.writeFrom h hg hs
  · exact h

theorem takeIdField {f : IdField} (h : P s) : P (takeIdField f s) := by
  unfold Machine.takeIdField
  split
  · split
    next hg _ hs =>
      split
      next hc _ =>
        split_ifs
        · exact k.wrongCylinder h hs.1
        · exact k.targetMatched h hg hs.1 hc
        · exact h
      · exact h
    · exact h
  · exact h

end KeptEvents
end Sys2Proof.Machine

/-!
PROOFS. The Remap Table under a Reassign (R113, R114) and under the read of a Defect Record (R107).
-/

namespace Sys2Proof.Machine

/-! ### The entries after a Reassign -/

theorem mem_remap {lsn spare : Nat} {l : List RemapEntry} {e : RemapEntry} (h : e ∈ remap lsn spare l) :
    e = ⟨lsn, spare⟩ ∨ e ∈ l := by
  induction l with
  | nil => simpa [remap] using h
  | cons x rest ih =>
    unfold remap at h
    split_ifs at h
    · simp only [List.mem_cons] at h ⊢
      exact h.imp_right .inr
    · simpa only [List.mem_cons] using h
    · simp only [List.mem_cons] at h ⊢
      rcases h with rfl | h
      · exact .inr (.inl rfl)
      · exact (ih h).imp_right .inr

/-- The table stays in ascending order of its LSNs. -/
theorem remap_ascending {lsn spare : Nat} {l : List RemapEntry} (h : l.Pairwise fun x y => x.lsn < y.lsn) :
    (remap lsn spare l).Pairwise fun x y => x.lsn < y.lsn := by
  induction l with
  | nil => simp [remap]
  | cons x rest ih =>
    obtain ⟨hx, hrest⟩ := List.pairwise_cons.mp h
    unfold remap
    split_ifs with he hlt
    · exact List.pairwise_cons.mpr ⟨fun y hy => he ▸ hx y hy, hrest⟩
    · refine List.pairwise_cons.mpr ⟨fun y hy => ?_, h⟩
      rcases List.mem_cons.mp hy with rfl | hy
      · exact hlt
      · exact hlt.trans (hx y hy)
    · refine List.pairwise_cons.mpr ⟨fun y hy => ?_, ih hrest⟩
      rcases mem_remap hy with rfl | hy
      · dsimp only; omega
      · exact hx y hy

/-- A spare index that the table does not use is used once after it. -/
theorem remap_spares {lsn spare : Nat} {l : List RemapEntry} (h : (l.map RemapEntry.spare).Nodup)
    (hnew : ∀ e ∈ l, e.spare ≠ spare) : ((remap lsn spare l).map RemapEntry.spare).Nodup := by
  induction l with
  | nil => simp [remap]
  | cons x rest ih =>
    simp only [List.map_cons, List.nodup_cons, List.mem_map, not_exists, not_and] at h
    obtain ⟨hx, hrest⟩ := h
    have hnewRest : ∀ e ∈ rest, e.spare ≠ spare := fun e he => hnew e (List.mem_cons_of_mem _ he)
    unfold remap
    split_ifs
    · simp only [List.map_cons, List.nodup_cons, List.mem_map, not_exists, not_and]
      exact ⟨hnewRest, hrest⟩
    · simp only [List.map_cons, List.nodup_cons, List.mem_map, List.mem_cons, not_exists, not_and]
      refine ⟨fun hused => ?_, hx, hrest⟩
      rcases hused with he | ⟨y, hy, he⟩
      · exact hnew x (by simp) he.symm
      · exact hnewRest y hy he
    · simp only [List.map_cons, List.nodup_cons, List.mem_map, not_exists, not_and]
      refine ⟨fun y hy => ?_, ih hrest hnewRest⟩
      rcases mem_remap hy with rfl | hy
      · exact fun e => hnew x (by simp) e.symm
      · exact hx y hy

theorem remap_length_le (lsn spare : Nat) (l : List RemapEntry) :
    (remap lsn spare l).length ≤ l.length + 1 := by
  induction l with
  | nil => simp [remap]
  | cons x rest ih =>
    unfold remap
    split_ifs <;> simp only [List.length_cons] <;> omega

/-- An entry that the table holds already is replaced. -/
theorem remap_length_of_found {lsn spare : Nat} {l : List RemapEntry}
    (hsorted : l.Pairwise fun x y => x.lsn < y.lsn) (h : findEntry l lsn ≠ none) :
    (remap lsn spare l).length = l.length := by
  induction l with
  | nil => exact absurd rfl h
  | cons x rest ih =>
    obtain ⟨hx, hrest⟩ := List.pairwise_cons.mp hsorted
    unfold remap
    split_ifs with he hlt
    · rfl
    · obtain ⟨e, he⟩ := Option.ne_none_iff_exists'.mp h
      have hlsn : e.lsn = lsn := by simpa using List.find?_some he
      rcases List.mem_cons.mp (List.mem_of_find?_eq_some he) with rfl | hmem
      · omega
      · have := hx e hmem
        omega
    · refine congrArg Nat.succ (ih hrest ?_)
      simpa [findEntry, List.find?_cons, he] using h

@[simp] theorem findEntry_cons (x : RemapEntry) (l : List RemapEntry) (n : Nat) :
    findEntry (x :: l) n = if x.lsn = n then some x else findEntry l n := by
  unfold findEntry
  rw [List.find?_cons]
  by_cases h : x.lsn = n
  · simp [h]
  · rw [beq_false_of_ne h, if_neg h]

theorem findEntry_remap_same (lsn spare : Nat) (l : List RemapEntry) :
    findEntry (remap lsn spare l) lsn = some ⟨lsn, spare⟩ := by
  induction l with
  | nil => simp [remap]
  | cons x rest ih =>
    unfold remap
    split_ifs with he <;> simp [*]

theorem findEntry_remap_other {lsn spare n : Nat} (l : List RemapEntry) (h : n ≠ lsn) :
    findEntry (remap lsn spare l) n = findEntry l n := by
  induction l with
  | nil => simp [remap, h.symm]
  | cons x rest ih =>
    unfold remap
    split_ifs with he
    · have hx : x.lsn ≠ n := fun e => h (e.symm.trans he)
      simp [h.symm, hx]
    · simp [h.symm]
    · simp [ih]

/-- R113: what a Reassign that passes its checks finds. -/
theorem reassignResult_eq_none {lsn : Nat} {m : DefectMap} (h : reassignResult lsn m = none) :
    m.status = .valid ∧ m.nextSpare ≠ Config.spareSectors ∧
      (findEntry m.table lsn = none → m.table.length < Config.tableSize) := by
  unfold reassignResult at h
  split_ifs at h with hstatus hnext hfull
  exact ⟨not_not.mp hstatus, hnext, fun hnone => not_le.mp fun hle => hfull ⟨hnone, hle⟩⟩

/-- R114: the table a Reassign establishes is lawful. -/
theorem reassigned_tableLaw {lsn : Nat} {m : DefectMap} (h : m.tableLaw)
    (hr : reassignResult lsn m = none) : (reassigned lsn m).tableLaw := by
  obtain ⟨hlen, hsorted, hnodup, hspare, hnext, -⟩ := h
  obtain ⟨hstatus, hlast, hroom⟩ := reassignResult_eq_none hr
  refine ⟨?_, remap_ascending hsorted, remap_spares hnodup fun e he => (hspare e he).ne, fun e he => ?_,
    ?_, fun hne => absurd hstatus hne⟩
  · dsimp only [reassigned]
    by_cases hf : findEntry m.table lsn = none
    · have := remap_length_le lsn m.nextSpare m.table
      have := hroom hf
      omega
    · rw [remap_length_of_found hsorted hf]
      exact hlen
  · rcases mem_remap he with rfl | he
    · exact Nat.lt_succ_self _
    · exact (hspare e he).trans (Nat.lt_succ_self _)
  · dsimp only [reassigned]
    omega

theorem reassigned_step {lsn : Nat} {m : DefectMap} (hr : reassignResult lsn m = none) :
    MapStep m (reassigned lsn m) :=
  ⟨fun h => h, fun h => reassigned_tableLaw h hr⟩

/-! ### A Defect Record as read -/

theorem pairwise_of_zip_tail {α : Type} {R : α → α → Prop} (trans : ∀ {x y z}, R x y → R y z → R x z) {l : List α}
    (h : ∀ x ∈ l.zip l.tail, R x.1 x.2) : l.Pairwise R := by
  induction l with
  | nil => exact .nil
  | cons x rest ih =>
    cases rest with
    | nil => simp
    | cons y rest =>
      have hxy : R x y := h (x, y) (by simp)
      have hrest := ih fun z hz => h z (List.mem_cons_of_mem _ hz)
      refine List.pairwise_cons.mpr ⟨fun z hz => ?_, hrest⟩
      rcases List.mem_cons.mp hz with rfl | hz
      · exact hxy
      · exact trans hxy ((List.pairwise_cons.mp hrest).1 z hz)

/-- R107: the table of a well-formed record is lawful under VALID. -/
theorem readRecord_tableLaw {bs : List Byte} {table : List RemapEntry} {next : Nat}
    (h : readRecord bs = some (table, next)) (m : DefectMap) :
    ({ m with status := .valid, table := table, nextSpare := next, mountStage := .idle, mountOrder := .idle }
      : DefectMap).tableLaw := by
  unfold readRecord at h
  extract_lets count nextSpare entries at h
  split_ifs at h with hok
  obtain ⟨-, hcount, hnext, hacc⟩ := hok
  obtain ⟨rfl, rfl⟩ := Prod.mk.inj (Option.some.inj h)
  simp only [tableAcceptable, Bool.and_eq_true, List.all_eq_true, decide_eq_true_iff] at hacc
  obtain ⟨⟨hlsn, hasc⟩, hnodup⟩ := hacc
  refine ⟨?_, pairwise_of_zip_tail (R := fun x y : RemapEntry => x.lsn < y.lsn) Nat.lt_trans hasc, hnodup, fun e he => (hlsn e he).2, hnext,
    fun hne => absurd rfl hne⟩
  simpa [entries, recordEntries] using hcount

end Sys2Proof.Machine

/-!
PROOFS. The events that end a field or a burst and the part-wide events, and from them every command and
every clock cycle, for any property that the elementary changes keep.
-/

namespace Sys2Proof.Machine

/-- A property that asks nothing of the slots but their number, and of the channel but its ranges. -/
structure SlotsFree (P : State → Prop) : Prop where
  slots : ∀ {s : State} {l : List Slot}, P s → l.length = s.slots.length → P { s with slots := l }
  channel : ∀ {s : State} {c : Channel}, P s → (s.channel.inRange → c.inRange) → P { s with channel := c }
  marked : ∀ {s : State}, P s → P { s with burst := s.burst.map fun b => { b with drop := true } }

namespace SlotsFree

variable {P : State → Prop} (k : SlotsFree P) {s : State} {i : Nat}

include k

theorem modSlot {f : Slot → Slot} (h : P s) : P (s.modSlot i f) := k.slots h (by simp)

theorem dropSlot (h : P s) : P (s.dropSlot i) := by
  unfold State.dropSlot
  split
  · exact k.marked h
  · exact k.modSlot h

theorem dropSlots {p : Nat → Slot → Bool} (h : P s) : P (s.dropSlots p) := foldl_keeps k.dropSlot _ h

theorem cutField {b : Bay} (medium : ∀ {s : State} {m : Option MediumWrite}, P s → P { s with mediumOut := m })
    (h : P s) : P (s.cutField b) := by
  unfold State.cutField
  repeat' split
  · exact k.modSlot h
  · exact medium (k.modSlot h)
  · exact medium h
  · exact h
  · exact h

theorem loseChannel {b : Bay} (medium : ∀ {s : State} {m : Option MediumWrite}, P s → P { s with mediumOut := m })
    (h : P s) : P (s.loseChannel b) := by
  unfold State.loseChannel
  split
  · exact k.channel (k.cutField medium h) (releasedChannel_step _).range
  · exact h

end SlotsFree

/-- A slot with an owner that neither the channel nor a burst works on. -/
def State.loose (s : State) (i : Nat) : Prop :=
  s.burstOn i = false ∧ ∃ x, s.slots[i]? = some x ∧ x.owner ≠ none

/-- A property that every event keeps but those of `TakesOwn`. -/
structure KeptTakes (P : State → Prop) : Prop extends KeptEvents P where
  fieldSlot : ∀ {s : State} {i : Nat}, P s → s.channel.slot = some i →
    s.channel.search = .reading ∨ s.channel.search = .writing → SlotsFree P ∨ s.loose i
  freeLoose : ∀ {s : State} {i : Nat}, P s → s.channel.slot ≠ some i → s.burstOn i = false →
    P (s.freeSlot i)
  fillLoose : ∀ {s : State} {i : Nat} {g : Nat → Nat}, P s → s.channel.slot ≠ some i → s.loose i →
    P (s.modSlot i fun x => { x with state := .full, age := g x.age })
  dropSlots : ∀ {s : State} {p : Nat → Slot → Bool}, P s → s.channel.slot = none → P (s.dropSlots p)
  started : ∀ {s : State}, P s → s.link.state = .offline → P s.started
  unstalled : ∀ {s : State}, P s → s.link.state = .stalled →
    P { s with
      counts := { s.counts with fault := .none }
      link := { s.link with state := .running, faultClear := true, attentionHeld := true } }
  draining : ∀ {s : State}, P s → s.link.state ≠ .offline → s.link.state ≠ .halted →
    P (s.modLink fun l => { l with state := .draining, pollDue := false })
  lowSupply : ∀ {s : State}, P s → s.supply.accepted = false → P (takeSupplyLow s)

/-- A property that every command keeps but those of the host bus and a BUS_RESET, and every cycle whose count is
not asked for. -/
structure KeptClock (P : State → Prop) : Prop extends KeptTakes P where
  instant : ∀ {s : State}, P s → P s.nextInstant
  raise : ∀ {s : State} {b : Bay} {f : BayControl → BayControl}, P s →
    (f (s.bay b)).generation = generationRaised (s.bay b).generation → P { s with bays := s.bays.update b f }
  resetDone : ∀ {s : State}, P s → s.resetEnds = true → P s.resetDone

/-- A property that every command and every cycle of the clock keep. -/
structure KeptSteps (P : State → Prop) : Prop extends KeptClock P where
  cycle : ∀ {s : State}, P s → P { s with cycle := s.cycle + 1 }
  beginBurst : ∀ {s : State}, P s → s.burst = none → P s.beginBurst
  burstEnd : ∀ {s : State} {ws : Vector Word 16}, P s → P (takeBurstEnd ws s)
  busReset : ∀ {s : State}, P s → P (takeBusReset s)

/-- What a property asks of the commands that are no part of every cycle, or that raise a Media Generation. -/
structure TakesOwn (P : State → Prop) (c : Instr) : Prop where
  grant : c = .dmaGrant → ∀ {s : State}, P s → s.burst = none → P s.beginBurst
  burst : ∀ words, c = .burstComplete words → ∀ {s : State}, P s → P (takeBurstEnd words s)
  ends : c = .resetInProgressEnd → ∀ {s : State}, P s → P (takeResetEnd s)
  reset : c = .busReset → ∀ {s : State}, P s → P (takeBusReset s)
  raise : ∀ b, c = .presentAcceptedTrue b ∨ c = .presentDecided b true → Raises P b

/-! ### Slots that neither the channel nor a burst works on -/

theorem State.loose_congr {s t : State} {i : Nat} (hb : t.burst = s.burst) (hs : t.slots = s.slots) :
    t.loose i ↔ s.loose i := by
  simp only [State.loose, State.burstOn, hb, hs]

theorem Channel.inRange_of_counts {c d : Channel} (h : c.inRange) (retry : d.retryCount = c.retryCount := by rfl)
    (search : d.searchRevs = c.searchRevs := by rfl) (format : d.formatRevs = c.formatRevs := by rfl)
    (position : d.formatPosition = c.formatPosition := by rfl) : d.inRange :=
  ⟨retry ▸ h.retryCount, search ▸ format ▸ position ▸ h.searches⟩

@[simp] theorem State.dropSlots_burstOn (s : State) (p : Nat → Slot → Bool) (j : Nat) :
    (s.dropSlots p).burstOn j = s.burstOn j :=
  State.foldl_field (fun s => s.burstOn j) _ (fun s i => s.dropSlot_burstOn i j) _ _

@[simp] theorem State.loseChannel_burst (s : State) (b : Bay) : (s.loseChannel b).burst = s.burst := by
  unfold State.loseChannel
  split
  · simp [State.releaseChannel]
  · rfl

/-- What a bay that loses the channel leaves of its slot. -/
theorem State.loseChannel_slot_cases (s : State) (b : Bay) :
    (s.loseChannel b).channel.slot = none ∨ (s.loseChannel b).channel = s.channel := by
  unfold State.loseChannel
  split
  · exact .inl rfl
  · exact .inr rfl

/-- A slot that no burst works on and that is not the channel's stays so through the waits. -/
theorem slotAside_keptBase (i : Nat) : KeptBase fun s => s.channel.slot ≠ some i ∧ s.burstOn i = false where
  bay h _ := h
  spindle h _ := h
  positioner h _ _ := h
  map h _ _ := h
  channel h step := by
    obtain ⟨hc, hb⟩ := h
    refine ⟨?_, hb⟩
    rcases step.slot with hn | ⟨he, -⟩
    · simp [hn]
    · simpa [he] using hc
  entries h _ := h
  link h _ := h
  waiters h := h
  medium h := h
  dma h := h
  loseChannel {s b} h := by
    obtain ⟨hc, hb⟩ := h
    refine ⟨?_, by simpa [State.burstOn] using hb⟩
    rcases s.loseChannel_slot_cases b with hn | he
    · simp [hn]
    · rwa [he]
  freeMountSlots h _ := by simpa [State.freeMountSlots] using h
  letGo h := by simpa using h
  takeSlot h _ _ := h
  slots h _ := h

theorem slotAside_kept (i : Nat) : Kept fun s => s.channel.slot ≠ some i ∧ s.burstOn i = false where
  toKeptBase := slotAside_keptBase i
  requestPermit h _ := by simpa [State.burstOn] using h
  leavePending h _ := by simpa [State.burstOn] using h
  enterStopping {s b} h _ :=
    have k := slotAside_keptBase i
    k.dropLoad (k.emergencyRetract (k.loseChannel (by simpa [State.burstOn] using h)))
  activate h _ _ _ := h
  await h _ _ := h
  finish h _ _ := h
  sense h ht := by
    unfold restartSensing at ht
    split_ifs at ht
    cases ht
    simpa [State.burstOn] using h
  leave h ht := by
    unfold leaveHalted at ht
    split_ifs at ht
    cases ht
    exact h
  offline h ht := by
    unfold goOfflineNow at ht
    split_ifs at ht
    cases ht
    exact h
  withdraw h ht := by
    unfold withdrawFetch at ht
    split_ifs at ht
    split at ht <;> cases ht <;> exact h
  fetch h ht := by
    unfold beginFetch at ht
    split_ifs at ht <;> cases ht <;> exact h

@[simp] theorem State.recordWritten_burstOn (s : State) (b : Bay) (e : Entry) (i : Nat) :
    (s.recordWritten b e).burstOn i = s.burstOn i := by
  unfold State.recordWritten
  repeat' split
  all_goals simp [State.burstOn]

@[simp] theorem State.recordWritten_channel (s : State) (b : Bay) (e : Entry) :
    (s.recordWritten b e).channel = s.channel := by
  unfold State.recordWritten
  repeat' split
  all_goals simp

theorem pressDelivered_keeps {P : State → Prop} (k : Kept P) {s : State} (h : P s) : P s.pressDelivered := by
  unfold State.pressDelivered
  cases hd : deliverPress s with
  | none => exact h
  | some t => exact k.deliverPress h hd

theorem spindleMicro_inRange {q : Spindle} (h : q.inRange) : (spindleMicro q).inRange :=
  { h with
    markTimer := fun n hn => by
      obtain ⟨t, -, rfl⟩ := Option.map_eq_some_iff.mp hn
      exact Nat.min_le_left .. }

theorem positionerMicro_step (p : Positioner) : HeadStep p (positionerMicro p) :=
  ⟨rfl, fun h => ⟨h.counter, h.vmeas, Nat.min_le_left .., h.dac, h.retractRetries⟩, fun h => h⟩

theorem positionerMilli_step (p : Positioner) : HeadStep p (positionerMilli p) :=
  ⟨rfl, fun h => ⟨h.counter, h.vmeas, h.crossTimer, h.dac, h.retractRetries⟩, fun h hr => h (by
    simpa [positionerMilli, tickUp] using hr)⟩

theorem headsRecovered_step (p : Positioner) : HeadStep p (headsRecovered p) := by
  refine ⟨rfl, fun h => ⟨h.counter, ?_, ?_, h.dac, h.retractRetries⟩, fun h => h⟩
  · have := h.vmeas
    simp only [headsRecovered]
    split <;> omega
  · have := h.crossTimer
    simp only [headsRecovered]
    split <;> omega

theorem resetMarked_step (e : Entry) : EntryStep e (resetMarked e) := by
  unfold resetMarked
  extract_lets marked
  have hmarked : EntryStep e marked := ⟨rfl, rfl, rfl, fun h => h⟩
  split
  · exact hmarked.trans (completed_step _)
  · exact hmarked

/-! ### The acceptance of Supply Low -/

theorem KeptBase.and {P Q : State → Prop} (k : KeptBase P) (l : KeptBase Q) : KeptBase fun s => P s ∧ Q s where
  bay h step := ⟨k.bay h.1 step, l.bay h.2 step⟩
  spindle h step := ⟨k.spindle h.1 step, l.spindle h.2 step⟩
  positioner h step fly := ⟨k.positioner h.1 step fly, l.positioner h.2 step fly⟩
  map h step stage := ⟨k.map h.1 step stage, l.map h.2 step stage⟩
  channel h step := ⟨k.channel h.1 step, l.channel h.2 step⟩
  entries h step := ⟨k.entries h.1 step, l.entries h.2 step⟩
  link h step := ⟨k.link h.1 step, l.link h.2 step⟩
  waiters h := ⟨k.waiters h.1, l.waiters h.2⟩
  medium h := ⟨k.medium h.1, l.medium h.2⟩
  dma h := ⟨k.dma h.1, l.dma h.2⟩
  loseChannel h := ⟨k.loseChannel h.1, l.loseChannel h.2⟩
  freeMountSlots h hoff := ⟨k.freeMountSlots h.1 hoff, l.freeMountSlots h.2 hoff⟩
  letGo h := ⟨k.letGo h.1, l.letGo h.2⟩
  takeSlot h hi hst := ⟨k.takeSlot h.1 hi hst, l.takeSlot h.2 hi hst⟩
  slots h hl := ⟨k.slots h.1 hl, l.slots h.2 hl⟩

theorem State.dropSlots_permitWaiting (s : State) (p : Nat → Slot → Bool) :
    (s.dropSlots p).permitWaiting = s.permitWaiting := by
  refine State.foldl_field (fun s => s.permitWaiting) _ (fun s i => ?_) _ _
  unfold State.dropSlot
  split
  · rfl
  · simp [State.freeSlot]

theorem State.loseChannel_permitWaiting (s : State) (b : Bay) :
    (s.loseChannel b).permitWaiting = s.permitWaiting := by
  unfold State.loseChannel State.cutField
  repeat' split
  all_goals rfl

/-- The bay that waits for the permit stands where no spindle is asked to turn. -/
theorem permitWaiting_keptBase (w : Option Bay) : KeptBase fun s => s.permitWaiting = w where
  bay h _ := h
  spindle h _ := h
  positioner h _ _ := h
  map h _ _ := h
  channel h _ := h
  entries h _ := h
  link h _ := h
  waiters h := h
  medium h := h
  dma h := h
  loseChannel h := (State.loseChannel_permitWaiting ..).trans h
  freeMountSlots h _ := (State.dropSlots_permitWaiting ..).trans h
  letGo h := (State.dropSlots_permitWaiting ..).trans h
  takeSlot h _ _ := h
  slots h _ := h

theorem powerLost_step (e : Entry) : EntryStep e (powerLost e) := by
  unfold powerLost
  split
  · exact ⟨rfl, rfl, rfl, fun h => h⟩
  · exact .refl e

theorem State.emergencyHeads_loaded (s : State) (b : Bay) :
    ((s.emergencyHeads b).positioner b).state.loaded = false := by
  have hback : (((s.endOrder b .returned).dropHeld b .returned).positioner b).state =
      (s.positioner b).state := by
    simp [State.endOrder, State.dropHeld, State.positioner]
  unfold State.emergencyHeads
  extract_lets p back
  split
  · simp [State.beginRetract, retractBegun, Actuator.loaded]
  next hp => exact hback ▸ Bool.eq_false_iff.mpr fun h => hp (.inl h)

@[simp] theorem State.emergencyHeads_frame (s : State) (b : Bay) :
    (s.emergencyHeads b).spindles = s.spindles ∧ (s.emergencyHeads b).permitHolder = s.permitHolder := by
  unfold State.emergencyHeads
  extract_lets p back
  split <;> simp [back]

theorem KeptBase.emergencyHeads {P : State → Prop} (k : KeptBase P) {s : State} {b : Bay} (h : P s) :
    P (s.emergencyHeads b) := by
  have hback := k.dropHeld (b := b) (outcome := .returned) (k.endOrder (b := b) (outcome := .returned) h)
  unfold State.emergencyHeads
  extract_lets p back
  split
  · exact k.beginRetract hback
  · exact hback

@[simp] theorem State.dropChannel_frame (s : State) :
    s.dropChannel.spindles = s.spindles ∧ s.dropChannel.permitHolder = s.permitHolder := by
  unfold State.dropChannel
  split <;> simp

theorem State.dropChannel_permitWaiting (s : State) : s.dropChannel.permitWaiting = s.permitWaiting := by
  unfold State.dropChannel State.cutField
  repeat' split
  all_goals rfl

theorem State.dropChannel_slot (s : State) : s.dropChannel.channel.slot = none := by
  unfold State.dropChannel
  rfl

/-- R173: the acceptance of Supply Low before the bays are shut down: the channel, the tasks and their slots. -/
def State.supplyLost (s : State) : State :=
  ({ s with
    supply := ⟨true, 0, some 0⟩, permitHolder := none, permitWaiting := none
    waiters := [] }.dropChannel.modEntries powerLost).dropSlots (fun _ x => x.state != SlotState.free)

/-- R167, R172: the Link Port halted, the input level being what was accepted. -/
def State.supplyHalted (s : State) : State :=
  { s with link := linkHalted s.link, pins := { s.pins with supplyLow := true } }

theorem takeSupplyLow_eq {s : State} (ha : s.supply.accepted = false) :
    takeSupplyLow s = ((s.supplyLost.shutDown .bay0).shutDown .bay1).supplyHalted := by
  unfold takeSupplyLow
  rw [if_neg (by simp [ha])]
  extract_lets dropped lost down
  have hlost : lost = s.supplyLost := rfl
  have hdown : down = (s.supplyLost.shutDown .bay0).shutDown .bay1 := hlost ▸ rfl
  rw [← hdown]
  rfl

theorem State.supplyLost_permit (s : State) :
    s.supplyLost.permitHolder = none ∧ s.supplyLost.permitWaiting = none := by
  simp [State.supplyLost, State.dropSlots_permitWaiting, State.dropChannel_permitWaiting]

theorem State.shutDown_permit (s : State) (b : Bay) :
    (s.shutDown b).permitHolder = s.permitHolder ∧ (s.shutDown b).permitWaiting = s.permitWaiting := by
  have k := permitWaiting_keptBase s.permitWaiting
  have hw : ((s.clearMount b).emergencyHeads b).permitWaiting = s.permitWaiting :=
    k.emergencyHeads (k.clearMount rfl)
  unfold State.shutDown
  simp [hw]

/-- What of a property the acceptance of Supply Low asks beside the elementary changes. -/
structure KeptLow (P : State → Prop) : Prop where
  permits : ∀ {s : State}, P s → P { s with permitHolder := none, permitWaiting := none }
  dropSlots : ∀ {s : State} {p : Nat → Slot → Bool}, P s → s.channel.slot = none → P (s.dropSlots p)
  spindle : ∀ {s : State} {b : Bay} {a : Actuator}, P s → s.permitWaiting = none → s.permitHolder = none →
    (s.positioner b).state.loaded = false →
    P { s with spindles := s.spindles.update b (supplyStopped a) }
  halted : ∀ {s : State}, P s → P { s with link := linkHalted s.link }

/-- A property that the acceptance of Supply Low keeps from its first change on. -/
structure KeptCut (P : State → Prop) : Prop extends KeptBase P where
  dropSlots : ∀ {s : State} {p : Nat → Slot → Bool}, P s → s.channel.slot = none → P (s.dropSlots p)
  spindleDown : ∀ {s : State} {b : Bay} {a : Actuator}, P s → s.permitWaiting = none → s.permitHolder = none →
    (s.positioner b).state.loaded = false →
    P { s with spindles := s.spindles.update b (supplyStopped a) }
  placed : ∀ {s : State} {b : Bay}, P s → P { s with bays := s.bays.update b supplyPlaced }
  halted : ∀ {s : State}, P s → P s.supplyHalted

namespace KeptCut

variable {P : State → Prop} (k : KeptCut P) {s : State} {b : Bay}

include k

theorem dropChannel (h : P s) : P s.dropChannel := by
  have hrange (c : Channel) : ({ releasedChannel c with
      waiting := none, heldPress := none, retryCount := .both 0 } : Channel).inRange :=
    ⟨fun c => by cases c <;> exact Nat.zero_le _, by simp [releasedChannel]⟩
  unfold State.dropChannel
  split
  next b hg =>
    have hlost := k.loseChannel (b := b) h
    unfold State.loseChannel at hlost
    rw [if_pos hg] at hlost
    exact k.channel (s := (s.cutField b).releaseChannel) hlost ⟨fun _ => hrange _, .inl rfl⟩
  · exact k.modChannel h ⟨fun _ => hrange _, .inl rfl⟩

theorem shutDown (h : P s) (hw : s.permitWaiting = none) (hp : s.permitHolder = none) : P (s.shutDown b) := by
  have kw := k.toKeptBase.and (permitWaiting_keptBase none)
  unfold State.shutDown
  extract_lets retracted
  have hretracted : P retracted ∧ retracted.permitWaiting = none :=
    kw.emergencyHeads (kw.clearMount ⟨h, hw⟩)
  obtain ⟨hkept, hwaiting⟩ := hretracted
  exact k.report (k.placed (k.report (k.spindleDown hkept hwaiting (by simpa [retracted] using hp)
    (State.emergencyHeads_loaded _ b))))

theorem supplyLost (h : P { s with
      supply := ⟨true, 0, some 0⟩, permitHolder := none, permitWaiting := none }) : P s.supplyLost :=
  k.dropSlots (k.modEntries (k.dropChannel (k.waiters h)) powerLost_step) (State.dropChannel_slot _)

theorem takeSupplyLow (ha : s.supply.accepted = false) (h : P { s with
      supply := ⟨true, 0, some 0⟩, permitHolder := none, permitWaiting := none }) : P (takeSupplyLow s) := by
  obtain ⟨hholder, hwaiting⟩ := s.supplyLost_permit
  obtain ⟨hholder', hwaiting'⟩ := s.supplyLost.shutDown_permit .bay0
  have hdown := k.shutDown (b := .bay1) (k.shutDown (b := .bay0) (k.supplyLost h) hwaiting hholder)
    (hwaiting'.trans hwaiting) (hholder'.trans hholder)
  rw [takeSupplyLow_eq ha]
  exact k.halted hdown

end KeptCut

namespace KeptLow

variable {P : State → Prop} (l : KeptLow P) (k : KeptEvents P) {s : State}

include l k

theorem cut : KeptCut P where
  toKeptBase := k.toKeptBase
  dropSlots := l.dropSlots
  spindleDown := l.spindle
  placed h := k.input h rfl
  halted {s} h := k.pins (s := { s with link := linkHalted s.link }) (l.halted h)

theorem takeSupplyLow (h : P s) (ha : s.supply.accepted = false) : P (takeSupplyLow s) :=
  (l.cut k).takeSupplyLow ha (l.permits (s := { s with supply := ⟨true, 0, some 0⟩ }) (k.supply h))

end KeptLow

namespace KeptTakes

variable {P : State → Prop} (k : KeptTakes P) {s t start : State} {b : Bay} {i id : Nat}

include k

/-! ### The end of a data field -/

/-- A slot aside is freed. -/
theorem freeAside (h : P s) (hl : SlotsFree P ∨ (s.channel.slot ≠ some i ∧ s.burstOn i = false)) :
    P (s.freeSlot i) := by
  rcases hl with hfree | ⟨hc, hb⟩
  · exact hfree.slots h (by simp)
  · exact k.freeLoose h hc hb

/-- A slot aside is FULL. -/
theorem fillAside {g : Nat → Nat} (h : P s)
    (hl : SlotsFree P ∨ (s.channel.slot ≠ some i ∧ s.loose i)) :
    P (s.modSlot i fun x => { x with state := .full, age := g x.age }) := by
  rcases hl with hfree | ⟨hc, hl⟩
  · exact hfree.slots h (by simp)
  · exact k.fillLoose h hc hl

theorem recordRead {data : List Byte} (h : P s) (hslot : s.channel.slotFree) : P (s.recordRead b data) := by
  unfold State.recordRead
  extract_lets soft
  have hsoft : P soft := k.countSoftError h
  have hfree : soft.channel.slotFree := by simpa [soft] using hslot
  split
  next hr =>
    refine k.mountReadEnd hsoft hfree fun m _ => readRecord_tableLaw hr m
  · exact k.mountReadEnd hsoft hfree fun m _ => DefectMap.tableLaw_empty rfl rfl

theorem sectorRead (h : P s) (hl : SlotsFree P ∨ (s.channel.slot ≠ some i ∧ s.loose i)) :
    P (s.sectorRead b id i) := by
  unfold State.sectorRead
  split
  · exact k.sectorDone (k.freeAside h (hl.imp_right fun hs => ⟨hs.1, hs.2.1⟩)) (sectorCounted_step _)
  · exact k.sectorDone (k.fillAside (g := fun _ => s.instant) h hl) (sectorCounted_step _)
  · exact k.sectorDone (k.fillAside (g := fun n => n) h hl) EntryStep.refl

theorem fieldFailed {g : Giver} (h : P s) (hs : s.channel.search = .searching)
    (hl : SlotsFree P ∨ (s.channel.slot ≠ some i ∧ s.burstOn i = false)) : P (s.fieldFailed b g i) := by
  unfold State.fieldFailed
  extract_lets freed again
  have hfreed : P freed := k.freeAside h hl
  have hagain : P again ∧ again.channel.slotFree := by
    unfold again
    split
    · exact ⟨k.beginSearch hfreed, .inl rfl⟩
    · exact ⟨hfreed, .inr (by simpa [freed] using hs)⟩
  exact k.failAttempt hagain.1 hagain.2

theorem takeReadEnd {f : DataField} (h : P s) : P (takeReadEnd f s) := by
  unfold Machine.takeReadEnd
  split
  next i hs hg hslot =>
    extract_lets stored
    have hloose := k.fieldSlot h hslot (.inl hs)
    have hstored : P stored := k.modChannel (k.modSlot h fun _ => rfl) (.same (slot := .inl rfl))
    have haside : SlotsFree P ∨ (stored.channel.slot ≠ some i ∧ stored.loose i) := by
      refine hloose.imp_right fun ⟨hb, x, hx, ho⟩ => ⟨by simp [stored], hb, ?_⟩
      exact ⟨{ x with data := f.bytes.toList }, by simp [stored, hx], ho⟩
    have haside' := haside.imp_right fun hl => (⟨hl.1, hl.2.1⟩ : _ ∧ stored.burstOn i = false)
    split
    · exact k.freeAside hstored haside'
    · split
      · split
        · exact k.recordRead hstored (.inl rfl)
        · exact k.sectorRead hstored haside
        · exact hstored
      · exact k.fieldFailed hstored rfl haside'
  · exact h

theorem recordWritten {e : Entry} (h : P s) : P (s.recordWritten b e) := by
  unfold State.recordWritten
  split
  · split
    next hr => exact k.modMap h (reassigned_step hr)
    · exact h
  · split
    · exact k.modMap h ⟨fun hr => hr, fun _ => DefectMap.tableLaw_empty rfl rfl⟩
    · exact h
  · exact h

theorem sectorWritten (h : P s) (hl : SlotsFree P ∨ (s.channel.slot ≠ some i ∧ s.burstOn i = false)) :
    P (s.sectorWritten b id i) := by
  unfold State.sectorWritten
  split
  · exact k.freeAside h hl
  · split
    · refine k.sectorDone (k.freeAside (k.recordWritten h) (hl.imp_right fun ⟨hc, hb⟩ => ?_)) completed_step
      exact ⟨by simpa using hc, by simpa using hb⟩
    · exact k.sectorDone (k.freeAside h hl) (sectorCounted_step _)

theorem pressDelivered (h : P s) : P s.pressDelivered := pressDelivered_keeps k.toKept h

theorem fieldWritten (h : P s) : P (s.fieldWritten b i) := by
  unfold State.fieldWritten
  extract_lets data between
  exact k.medium (s := between) (k.modChannel h (.same (slot := .inl rfl)))

theorem takeWriteEnd (h : P s) : P (takeWriteEnd s) := by
  unfold Machine.takeWriteEnd
  split
  · exact h
  · split
    next hs =>
      split
      next i id hslot _ =>
        refine k.sectorWritten (k.pressDelivered (k.fieldWritten h)) ?_
        exact (k.fieldSlot h hslot (.inr hs)).imp_right fun hl =>
          pressDelivered_keeps (slotAside_kept i) ⟨nofun, hl.1⟩
      · exact h
    · split
      next hs => exact k.positionLaid h hs.1
      · exact h

/-! ### The ports -/

theorem badCommand (h : P s) : P s.badCommand := k.ports h

theorem command {f : State → State} (hf : ∀ {s : State}, P s → P (f s)) (h : P s) : P (s.command f) := by
  unfold State.command
  split
  · exact k.badCommand h
  · exact hf h

theorem takeStart (h : P s) : P (takeStart s) := by
  unfold Machine.takeStart
  split
  next hs => exact k.started h hs.1
  · exact k.badCommand h

theorem takeAttention (h : P s) : P (takeAttention s) := by
  unfold Machine.takeAttention
  split
  · exact k.badCommand h
  · exact k.modLink h ⟨rfl, rfl, rfl, by simp, by simp⟩
  · exact k.modLink h ⟨rfl, rfl, rfl, by simp, by simp⟩
  next hs => exact k.unstalled h hs
  · exact h

theorem takeAbort (h : P s) : P (takeAbort s) := by
  unfold Machine.takeAbort
  split
  · exact k.badCommand h
  · exact h
  · exact k.modEntries h fun _ => ⟨rfl, rfl, rfl, fun h => h⟩

theorem takeGoOffline (h : P s) : P (takeGoOffline s) := by
  unfold Machine.takeGoOffline
  split
  · exact k.badCommand h
  · exact h
  · exact k.modLink h ⟨rfl, rfl, rfl, by simp, by simp⟩
  next hoff _ hhalt => exact k.draining h hoff hhalt

theorem runDownBegun (h : P s) : P (s.modBay b runDownBegun) :=
  k.modBay h ⟨rfl, by simp [Machine.runDownBegun, ejectStopped],
    by simp [Machine.runDownBegun, ejectStopped]⟩

theorem takePartReset (h : P s) : P (takePartReset s) :=
  k.runDownBegun (k.runDownBegun (k.modEntries (k.link (s := { s with resetInProgress := true })
    (k.reset h) ⟨rfl, rfl, rfl, by simp, by simp⟩) resetMarked_step))

theorem takeCode {code : Word} (h : P s) : P (takeCode code s) := by
  unfold Machine.takeCode
  split
  · exact k.command k.takeStart h
  · exact k.command k.takeAttention h
  · exact k.command k.takeAbort h
  · exact k.command k.takeGoOffline h
  · exact k.command k.takePartReset h
  · exact k.badCommand h

theorem takeAnchorWrite {half : AnchorHalf} {value : Word} (h : P s) : P (takeAnchorWrite half value s) := by
  unfold Machine.takeAnchorWrite
  split
  · exact k.ports h
  · exact k.badCommand h

theorem takeStatusRead (h : P s) : P (takeStatusRead s) := k.ports h

/-! ### The part-wide events -/

theorem takeSupplyLow (h : P s) : P (takeSupplyLow s) := by
  by_cases ha : s.supply.accepted = true
  · simpa only [Machine.takeSupplyLow, ha, if_true] using k.supply h
  · exact k.lowSupply h (by simpa using ha)

theorem takeSupplyRecovery (h : P s) : P (takeSupplyRecovery s) := by
  unfold Machine.takeSupplyRecovery
  split
  · exact k.modHead (k.modHead (k.pins (s := { s with supply := ⟨false, 0, none⟩ }) (k.supply h)) (headsRecovered_step _))
      (headsRecovered_step _)
  · exact h

/-! ### Every command -/

omit k in
theorem takeGrant (hb : ∀ {s : State}, P s → s.burst = none → P s.beginBurst) (h : P s) : P (takeGrant s) := by
  unfold Machine.takeGrant
  split
  next hn => exact hb h (by simpa using hn)
  · exact h

/-- Every command keeps the property, from the instant at which it is taken. -/
theorem taken {c : Instr} (o : TakesOwn P c) (h : P s.nextInstant) (ht : exec c s = .next t) : P t := by
  have done {f : State → State} (hf : ∀ {s : State}, P s → P (f s))
      (ht : (.next (perform f s) : Host.Outcome State Fault Refusal) = .next t) : P t := by
    cases ht
    exact k.instantEnd (hf h)
  cases c with
  | start => exact done (k.command k.takeStart) ht
  | attention => exact done (k.command k.takeAttention) ht
  | abort => exact done (k.command k.takeAbort) ht
  | goOffline => exact done (k.command k.takeGoOffline) ht
  | partReset => exact done (k.command k.takePartReset) ht
  | unknownCommand code => exact done k.takeCode ht
  | anchorWrite half value => exact done k.takeAnchorWrite ht
  | statusRead => exact done k.takeStatusRead ht
  | busReset => exact done (o.reset rfl) ht
  | supplyLowAccepted => exact done k.takeSupplyLow ht
  | supplyRecovery => exact done k.takeSupplyRecovery ht
  | resetInProgressEnd => exact done (o.ends rfl) ht
  | presentAcceptedTrue b => exact done (k.takePresentTrue (o.raise b (.inl rfl))) ht
  | presentAcceptedFalse b => exact done k.takePresentFalse ht
  | presentDecided b value => exact done (k.takePresentDecided fun hv => o.raise b (.inr (hv ▸ rfl))) ht
  | writeProtectAccepted b value => exact done k.takeWriteProtect ht
  | ejectButtonPress b => exact done k.takeButtonPress ht
  | ejectButtonReleased b => exact done k.takeButtonReleased ht
  | parkDetectAcceptedTrue b => exact done k.takeParkTrue ht
  | parkDetectAcceptedFalse b => exact done k.takeParkFalse ht
  | outerGuardAccepted b value => exact done k.takeOuterGuard ht
  | trackCrossing b direction elapsed => exact done k.takeCrossing ht
  | crossingError b => exact done k.takeCrossingError ht
  | crossingTimerExpiry b => exact done k.takeCrossingSilence ht
  | velocityRecompute b => exact done k.takeRecompute ht
  | settleTimeEnd b => exact done k.takeSettleEnd ht
  | onTrackCountReached b => exact done k.takeOnTrack ht
  | settleLimitExpiry b => exact done k.takeSettleLimit ht
  | seekLimitExpiry b => exact done k.takeSeekLimit ht
  | recalibrateTimerExpiry b => exact done k.takeRecalibrateLimit ht
  | stopLimitExpiry b => exact done k.takeStopLimit ht
  | loadFault b => exact done k.takeLoadFault ht
  | retractLimitExpiry b => exact done k.takeRetractLimit ht
  | parkHoldEnd b => exact done k.takeHoldEnd ht
  | tachMark b elapsed => exact done k.takeMark ht
  | startTimerExpiry b => exact done k.takeStartLimit ht
  | spinUpLimitExpiry b => exact done k.takeSpinUpLimit ht
  | markSilence b => exact done k.takeSilence ht
  | driftTimerExpiry b => exact done k.takeDriftLimit ht
  | stopTimerExpiry b => exact done k.takeStopped ht
  | pwmPeriodBoundary b => exact done k.takePeriod ht
  | indexPulse b elapsed => exact done k.takeIndex ht
  | indexMissing b => exact done k.takeIndexMissing ht
  | idField f => exact done k.takeIdField ht
  | dataFieldReadEnd f => exact done k.takeReadEnd ht
  | dataFieldWriteEnd => exact done k.takeWriteEnd ht
  | layingEnd => exact done k.takeLayingEnd ht
  | dmaGrant => exact done (takeGrant (o.grant rfl)) ht
  | burstComplete words => exact done (o.burst words rfl) ht
  | pollTimerExpiry => exact done k.takePollExpiry ht
  | refreshTimerExpiry b => exact done k.takeRefreshExpiry ht
  | pulseTimerExpiry b => exact done k.takePulseExpiry ht
  | leaveTimerExpiry b => exact done k.takeLeaveExpiry ht
  | startBoundTimerExpiry b => exact done k.takeStartBoundExpiry ht
  | retryTimerExpiry b => exact done k.takeRetryExpiry ht
  | idleTimerExpiry b => exact done k.takeIdleExpiry ht

end KeptTakes

/-! ### The clock -/

/-- The property of the state at the start of a cycle, whose count is not asked for. -/
def CycleStart (P : State → Prop) (start : State) : Prop := ∃ n, P { start with cycle := n }

/-- A property that the waits keep between the events of a cycle that began in `start`. -/
structure KeptTurns (P : State → Prop) (start : State) : Prop extends KeptLimits P where
  instant : ∀ {s : State}, P s → P s.nextInstant
  permitMet : ∀ {s : State}, P s → s.permitMet → P (State.permitToBay0 start s)

/-- A property that the events of the drive keep in a cycle that began in `start`. -/
structure KeptCycle (P : State → Prop) (start : State) : Prop extends KeptDrive P, KeptTurns P start

/-- A property that the samples of the bay inputs of `b` keep in a cycle that began in `start`. -/
structure KeptSamples (P : State → Prop) (start : State) (b : Bay) : Prop extends KeptTurns P start where
  levels : ∀ {s : State} {f : BayPins → BayPins}, P s → P (s.modPins b f)
  inputs : ∀ {s : State} {f : BayControl → BayControl}, P s → BayStep (s.bay b) { f (s.bay b) with
      present := (s.bay b).present, writeProtect := (s.bay b).writeProtect, button := (s.bay b).button
      parkDetect := (s.bay b).parkDetect, presentUndecided := (s.bay b).presentUndecided
      undecidedLevel := (s.bay b).undecidedLevel } → P { s with bays := s.bays.update b f }
  raises : Raises P b
  abandon : ∀ {s : State}, P s → P (s.modPositioner b holdAbandoned)

namespace KeptTurns

variable {P : State → Prop} {start : State} (k : KeptTurns P start) {s : State} {b : Bay}

include k

theorem arbitrated {before after : State} (h : P after) : P (State.arbitrated start before after) := by
  unfold State.arbitrated
  extract_lets permitted
  have hpermitted : P permitted := by
    unfold permitted
    split
    next ht =>
      simp only [State.permitTied, Bool.and_eq_true, beq_iff_eq] at ht
      obtain ⟨⟨⟨-, hholds⟩, hwait⟩, hp⟩ := ht
      exact k.permitMet h ⟨hholds, hwait, hp⟩
    · exact h
  split
  · refine k.settle _ (k.grantChannel (k.modChannel hpermitted ?_) (.inl rfl))
    exact ⟨fun hr => ⟨hr.retryCount, by simp [releasedChannel]⟩, .inl rfl⟩
  · exact hpermitted

/-- What an event brings about stands after the waits that it lets go on. -/
theorem occurs {f : State → State} (h : P (f s.nextInstant)) : P (s.occur start f) :=
  k.arbitrated (k.settle _ h)

theorem occur {f : State → State} (hf : ∀ {s : State}, P s → P (f s)) (h : P s) : P (s.occur start f) :=
  k.occurs (hf (k.instant h))

theorem fire {f : State → State} {due : State → Bool} (hf : ∀ {s : State}, P s → P (f s)) (h : P s) :
    P (s.fire start due f) := by
  unfold State.fire
  split
  · exact k.occur hf h
  · exact h

theorem spindleLimits (h : P s) : P (spindleLimits start b s) :=
  k.fire k.takeStopped (k.fire k.takeDriftLimit (k.fire k.takeSpinUpLimit (k.fire k.takeStartLimit h)))

theorem positionerLimits (h : P s) : P (positionerLimits start b s) :=
  k.fire k.takeSettleEnd (k.fire k.takeStopLimit (k.fire k.takeSettleLimit
    (k.fire k.takeSeekLimit (k.fire k.takeRecalibrateLimit (k.fire k.takeLoadFault
      (k.fire k.takeRetractLimit (k.fire k.takeHoldEnd h)))))))

theorem bayLimits (h : P s) : P (bayLimits start b s) :=
  k.fire k.takeRefreshExpiry (k.fire k.takeIdleExpiry (k.fire k.takeRetryExpiry
    (k.fire k.takeStartBoundExpiry (k.fire k.takeLeaveExpiry
      (k.fire k.takePulseExpiry h)))))

end KeptTurns

/-- A rule made for both bays keeps what each of them keeps. -/
theorem forBays_keeps {P : State → Prop} {s : State} {f : Bay → State → State}
    (hf : ∀ {b : Bay} {s : State}, P s → P (f b s)) (h : P s) : P (s.forBays f) := hf (hf h)

theorem every_keeps {P : State → Prop} {s : State} {n : Nat} {f : State → State}
    (hf : ∀ {s : State}, P s → P (f s)) (h : P s) : P (s.every n f) := by
  unfold State.every
  split
  · exact hf h
  · exact h

namespace KeptCycle

variable {P : State → Prop} {start : State} (k : KeptCycle P start) {s : State} {b : Bay}

include k

theorem sampleSpindle (h : P s) : P (sampleSpindle start b s) := by
  unfold Machine.sampleSpindle
  extract_lets x q kept
  have hkept : P kept := k.modSpun h rfl fun _ hr => { hr with }
  exact k.fire k.takeIndex (k.fire k.takeMark hkept)

theorem sampleCrossing (h : P s) : P (sampleCrossing start b s) := by
  unfold Machine.sampleCrossing
  extract_lets x aChanged bChanged
  split_ifs
  · exact k.occur k.takeCrossingError h
  · exact k.occur k.takeCrossing h
  · exact h

theorem pwmStep {n : Nat} (h : P s) : P (pwmStep start n b s) := by
  unfold Machine.pwmStep
  split
  · exact k.occur k.takePeriod h
  · exact k.modSpun h rfl fun _ hr => { hr with }

theorem sampleOnTrack (h : P s) : P (sampleOnTrack start b s) := by
  unfold Machine.sampleOnTrack
  split
  · extract_lets t
    have ht : P t := k.modHead h ⟨⟨rfl, fun h => { h with }, fun h => h⟩, rfl⟩
    split
    · exact k.occur k.takeOnTrack ht
    · exact ht
  · exact h

theorem microTick (h : P s) : P (microTick start b s) := by
  unfold Machine.microTick
  extract_lets silent counted
  have hcounted : P counted :=
    k.modHead (k.modSpun h rfl fun _ hr => spindleMicro_inRange hr) ⟨positionerMicro_step _, rfl⟩
  exact k.sampleOnTrack (k.fire k.takeSilence (k.fire k.takeIndexMissing
    (k.fire k.takeRecompute (k.fire k.takeCrossingSilence hcounted))))

end KeptCycle

namespace KeptSamples

variable {P : State → Prop} {start : State} {b : Bay} (k : KeptSamples P start b) {s : State}

include k

theorem modInput {f : BayControl → BayControl} (h : P s) (step : BayStep (s.bay b) { f (s.bay b) with
      present := (s.bay b).present, writeProtect := (s.bay b).writeProtect, button := (s.bay b).button
      parkDetect := (s.bay b).parkDetect, presentUndecided := (s.bay b).presentUndecided
      undecidedLevel := (s.bay b).undecidedLevel } := by exact .refl _) : P (s.modBay b f) :=
  k.report (k.inputs h step)

theorem setPresent {v : Bool} (h : P s) : P (s.setPresent b v) := k.modInput (k.levels h)

theorem setParkDetect {v : Bool} (h : P s) : P (s.setParkDetect b v) := k.modInput (k.levels h)

theorem parkTrue (h : P s) : P (takeParkTrue b s) :=
  k.takeParkTrue (fun _ => h) (fun _ => k.levels h) (fun _ => k.setParkDetect h)

theorem parkFalse (h : P s) : P (takeParkFalse b s) :=
  k.takeParkFalse k.abandon (fun _ => h) (fun _ => k.levels h) (fun _ => k.setParkDetect h)

theorem samplePark (h : P s) : P (sampleParkDetect start b s) := by
  unfold Machine.sampleParkDetect
  repeat' split
  · exact k.occur k.parkTrue h
  · exact k.occur k.parkFalse h
  · exact k.setPositioner h .same
  · exact k.occur k.parkTrue h
  · exact k.occur k.parkFalse h
  · exact k.modInput h
  · exact h

theorem sampleWriteProtect (h : P s) : P (sampleWriteProtect start b s) := by
  unfold Machine.sampleWriteProtect
  repeat' split
  · exact k.occur (fun h => k.takeWriteProtect (fun _ => h) (k.modInput (k.levels h))) h
  · exact k.modInput h
  · exact h

theorem samplePresent (h : P s) : P (samplePresent start b s) := by
  unfold Machine.samplePresent
  split
  · exact h
  split
  · extract_lets t
    have ht : P t := k.modInput h
    split
    · exact k.occur (fun h => k.takePresentDecided (fun _ => k.raises) (fun _ => h) (k.setPresent h)) ht
    · exact ht
  · split
    · exact k.occur (fun h => k.takePresentTrue k.raises (fun _ => h) (k.setPresent h)) h
    · exact k.occur (fun h => k.takePresentFalse (fun _ => h) (k.setPresent h)) h
    · exact k.modInput h

theorem sampleButton (h : P s) : P (sampleButton start b s) := by
  unfold Machine.sampleButton
  split
  · extract_lets count
    split
    · exact k.occur (fun h => k.takeButtonPress (fun _ => h) (k.modInput (k.levels h))) h
    · exact k.occur (fun h => KeptLimits.takeButtonReleased (fun _ => h) (k.modInput (k.levels h))) h
    · exact k.modInput h
  · exact h

theorem sampleBay (h : P s) : P (sampleBay start b s) :=
  k.sampleButton (k.samplePresent (k.sampleWriteProtect (k.samplePark h)))

end KeptSamples

/-- R176: the end of Reset in Progress keeps what its restoring and its insertions keep. -/
theorem KeptLimits.takeResetEnd {P : State → Prop} (k : KeptLimits P) {s : State} (hr : ∀ b, Raises P b)
    (done : s.resetEnds = true → P s.resetDone) (h : P s) : P (takeResetEnd s) := by
  have insertPresent {b : Bay} {t : State} (ht : P t) : P (t.insertPresent b) := by
    unfold State.insertPresent
    split
    · exact k.insert (hr b) ht
    · exact ht
  unfold Machine.takeResetEnd
  split
  next hends => exact insertPresent (insertPresent (done hends))
  · exact h

namespace KeptClock

variable {P : State → Prop} (k : KeptClock P) {s t start : State} {b : Bay} {i id : Nat}

include k

theorem raises (b : Bay) : Raises P b := fun h hg => k.raise h hg.generation

theorem takeResetEnd (h : P s) : P (takeResetEnd s) :=
  k.toKeptLimits.takeResetEnd k.raises (k.resetDone h) h

theorem turns (hstart : CycleStart P start) : KeptTurns P start where
  toKeptLimits := k.toKeptLimits
  instant := k.instant
  permitMet {s} h hm := by
    obtain ⟨n, hn⟩ := hstart
    exact k.permitMet (start := { start with cycle := n }) hn h hm

theorem cycle (hstart : CycleStart P start) : KeptCycle P start :=
  { k.drive, k.turns hstart with }

theorem samples (hstart : CycleStart P start) (b : Bay) : KeptSamples P start b where
  toKeptTurns := k.turns hstart
  levels h := k.modPins h
  inputs h step := k.input h step.generation
  raises := k.raises b
  abandon h := k.holdAbandoned h

theorem sampleSupply (hstart : CycleStart P start) (h : P s) : P (sampleSupply start s) := by
  unfold Machine.sampleSupply
  repeat' split
  · exact k.supply h
  · exact h
  · exact (k.turns hstart).occur k.takeSupplyLow h
  · exact k.supply h
  · exact k.supply h

theorem guardSampled {d : Debounced} (h : P s) : P (s.modPositioner b fun p => { p with outerGuard := d }) :=
  k.modHead h ⟨rfl, fun h => { h with }, fun h => h⟩

theorem sampleGuard (hstart : CycleStart P start) (h : P s) : P (sampleGuard start b s) := by
  unfold Machine.sampleGuard
  extract_lets v g
  repeat' split
  · exact k.guardSampled h
  · exact (k.turns hstart).occur k.takeOuterGuard h
  · exact k.guardSampled h

theorem millisCounted (h : P s) : P (millisCounted s) := by
  have hbays := k.input (b := .bay1) (f := bayMilli) (k.input (b := .bay0) (f := bayMilli) h rfl) rfl
  have hspindles := k.spun (b := .bay1) (f := spindleMilli)
    (k.spun (b := .bay0) (f := spindleMilli) hbays rfl fun _ hr => { hr with }) rfl fun _ hr => { hr with }
  have hheads := k.head (b := .bay1) (f := positionerMilli)
    (k.head (b := .bay0) (f := positionerMilli) hspindles (positionerMilli_step _)) (positionerMilli_step _)
  exact k.tickLink (k.supply hheads) ⟨rfl, rfl, rfl⟩

theorem milliTick (hstart : CycleStart P start) (h : P s) : P (milliTick start s) := by
  have w := k.turns hstart
  unfold Machine.milliTick
  extract_lets recovered
  have hrecovered : P recovered :=
    w.fire k.takeSupplyRecovery (forBays_keeps (fun {b} => (k.samples hstart b).sampleBay) (k.millisCounted h))
  exact w.fire k.takePollExpiry (forBays_keeps w.bayLimits
    (forBays_keeps w.positionerLimits (forBays_keeps w.spindleLimits hrecovered)))

/-- Every clock cycle keeps the property, from the state with the cycle counted. -/
theorem cycled (h : P { s with cycle := s.cycle + 1 }) : P (clockCycle s) := by
  have hstart : CycleStart P s := ⟨_, h⟩
  have c := k.cycle hstart
  unfold Machine.clockCycle
  extract_lets sampledInputs ticked
  have hsampled : P sampledInputs :=
    forBays_keeps (k.sampleGuard hstart) (forBays_keeps c.sampleCrossing (forBays_keeps c.sampleSpindle
      (k.sampleSupply hstart h)))
  have hticked : P ticked :=
    every_keeps (k.milliTick hstart) (every_keeps (forBays_keeps c.microTick)
      (forBays_keeps c.pwmStep hsampled))
  exact k.closed (c.fire k.takeResetEnd hticked)

end KeptClock

namespace KeptSteps

variable {P : State → Prop} (k : KeptSteps P) {s t : State}

include k

theorem takesOwn (c : Instr) : TakesOwn P c :=
  ⟨fun _ => k.beginBurst, fun _ _ => k.burstEnd, fun _ => k.takeResetEnd, fun _ => k.busReset, fun b _ => k.raises b⟩

/-- Every command keeps the property. -/
theorem exec {c : Instr} (h : P s) (ht : exec c s = .next t) : P t := k.taken (k.takesOwn c) (k.instant h) ht

/-- Every clock cycle keeps the property. -/
theorem clockCycle (h : P s) : P (clockCycle s) := k.cycled (k.cycle h)

/-- Every step keeps the property, where the commands that wait do not matter to it. -/
theorem step (hpending : ∀ {s : State} {l : List Instr}, P s → P { s with pending := l }) (h : P s)
    (ht : step s = .next t) : P t := by
  unfold Machine.step at ht
  split at ht
  · cases ht
    exact k.clockCycle h
  · exact k.exec (hpending h) ht

end KeptSteps
end Sys2Proof.Machine

/-!
PROOFS. The ranges (spec/00 section 4.2): O9.
-/

namespace Sys2Proof.Machine

theorem rangeLaw_slotsFree : SlotsFree State.rangeLaw where
  slots h hl := { h with pool := hl.trans h.pool }
  channel h hc :=
    have hr := hc ⟨h.retryCount, h.searches⟩
    { h with retryCount := hr.retryCount, searches := hr.searches }
  marked h := { h with }

theorem headsFree_rangeLaw : HeadsFree State.rangeLaw := fun h step =>
  { h with positioners := PerBay.forall_update h.positioners (step.range h.settings (h.positioners _)) }

theorem rangeLaw_limits : KeptLimits State.rangeLaw where
  toKept := rangeLaw_kept
  stopped h _ := h.modSpindle (stoppedEntered_inRange (h.spindles _))
  flies _ _ := .inl headsFree_rangeLaw

/-! ### A mark -/

theorem markPeriod_mem (n : Nat) : 1 ≤ markPeriod n ∧ markPeriod n ≤ Config.markTop := by
  simp only [markPeriod, Config.markTop]
  omega

theorem pushPeriod_mem {history : List Nat} {n : Nat}
    (h : history.length ≤ 8 ∧ ∀ x ∈ history, 1 ≤ x ∧ x ≤ Config.markTop) :
    (pushPeriod history (markPeriod n)).length ≤ 8 ∧
      ∀ x ∈ pushPeriod history (markPeriod n), 1 ≤ x ∧ x ≤ Config.markTop := by
  obtain ⟨hlen, hmem⟩ := h
  unfold pushPeriod
  split
  · refine ⟨by simp; omega, fun x hx => ?_⟩
    rcases List.mem_append.mp hx with hx | hx
    · exact hmem x hx
    · exact (List.mem_singleton.mp hx) ▸ markPeriod_mem n
  · refine ⟨by simp; omega, fun x hx => ?_⟩
    rcases List.mem_append.mp hx with hx | hx
    · exact hmem x (List.mem_of_mem_tail hx)
    · exact (List.mem_singleton.mp hx) ▸ markPeriod_mem n

theorem measuredSpeed_le (history : List Nat) : measuredSpeed history ≤ Config.markTop := by
  unfold measuredSpeed
  split
  · exact Nat.zero_le _
  · exact Nat.min_le_left ..

theorem markRecorded_inRange {n : Nat} {q : Spindle} (h : q.inRange) : (markRecorded n q).inRange := by
  have hzero : ∀ t, some 0 = some t → t ≤ Config.markTop := fun t ht => Option.some.inj ht ▸ Nat.zero_le _
  unfold markRecorded
  split
  · exact { h with markTimer := hzero }
  · exact { h with markTimer := hzero, history := pushPeriod_mem h.history, speed := measuredSpeed_le _ }

theorem mark_inRange {n : Nat} {q : Spindle} (h : q.inRange) :
    (markTimed (markCounted (markRecorded n q))).inRange := by
  have hcounted : (markCounted (markRecorded n q)).inRange :=
    { markRecorded_inRange (n := n) h with revCount := Nat.le_of_lt_succ (Nat.mod_lt _ (by decide)) }
  unfold markTimed
  repeat' split
  · exact { hcounted with }
  · exact { hcounted with integrator := by simp, inBand := Nat.zero_le _ }
  · exact { hcounted with }
  · exact hcounted

theorem grantWithdrawn_inRange {p q : Spindle} (hp : p.inRange) (hq : q.inRange) :
    (grantWithdrawn p q).inRange :=
  have h := stoppedEntered_inRange hq
  { h with activeTarget := hp.activeTarget, duty := ⟨h.duty.1, hp.duty.2⟩ }

theorem rangeLaw_events : KeptEvents State.rangeLaw where
  toKeptLimits := rangeLaw_limits
  pins h := { h with }
  ports h := { h with }
  supply h := { h with }
  reset h := { h with }
  input {s b f} h hg := { h with
    generation := PerBay.forall_update (Q := fun c : BayControl => c.generation ≤ 255) h.generation
      (hg.trans_le (h.generation b)) }
  head h step := { h with
    positioners := PerBay.forall_update h.positioners (step.range (h.positioners _)) }
  spun h _ hr := h.setSpindles (PerBay.forall_update h.spindles (hr h.settings (h.spindles _)))
  tickLink h _ := { h with }
  mark h := h.modSpindle (mark_inRange (h.spindles _))
  lock {s b} h _ := (h.modSpindle (f := lockedEntered) { h.spindles b with
    inBand := Nat.zero_le _, missCount := Nat.zero_le _ }).releasePermit
  drift {s b} h _ := h.modSpindle (f := driftingEntered) { h.spindles b with
    inBand := Nat.zero_le _, missCount := Nat.zero_le _ }
  permitMet {start s} hstart h _ := State.rangeLaw.grantPermit (State.rangeLaw.modSpindle
    (s := { s with permitWaiting := some .bay1 }) { h with }
    (grantWithdrawn_inRange (hstart.spindles .bay1) (h.spindles .bay1)))
  fill h _ _ _ _ _ :=
    rangeLaw_slotsFree.channel (rangeLaw_slotsFree.modSlot h) fun hr => ⟨hr.retryCount, hr.searches⟩
  pour h _ _ _ :=
    rangeLaw_slotsFree.channel (rangeLaw_slotsFree.modSlot h) fun hr => ⟨hr.retryCount, hr.searches⟩

/-! ### The settings taken (R168, R169) -/

theorem clampSetting_mem {lo hi x : Nat} (h : lo ≤ hi) :
    lo ≤ (clampSetting lo hi x).1 ∧ (clampSetting lo hi x).1 ≤ hi := by
  unfold clampSetting
  split_ifs <;> dsimp only <;> omega

theorem byteAt_le (bs : List Byte) (n : Nat) : byteAt bs n ≤ 255 :=
  Nat.le_of_lt_succ (bs.getD n 0#8).isLt

/-- Whatever bytes are taken over settings in range, the settings in use lie in their ranges. -/
theorem takeSettings_inRange {old : Settings} (data : List Byte) (h : old.inRange) :
    (takeSettings old data).1.inRange := by
  have profile : profileAcceptable (takeSettings old data).1.profile = true := by
    obtain ⟨-, -, -, -, -, -, -, -, -, -, -, -, -, -, -, -, -, -, -, -, hold⟩ := h
    unfold takeSettings
    extract_lets _ _ _ _ _ _ _ _ _ _ _ _ _ _ _ _ profile accepted
    dsimp only
    split
    next hacc => exact hacc
    · exact hold
  have upper {lo hi x : Nat} (h : lo ≤ hi) : (clampSetting lo hi x).1 ≤ hi := (clampSetting_mem h).2
  exact ⟨clampSetting_mem (by decide), byteAt_le .., byteAt_le .., upper (by decide),
    clampSetting_mem (by decide), upper (by decide), clampSetting_mem (by decide),
    clampSetting_mem (by decide), upper (by decide), clampSetting_mem (by decide),
    clampSetting_mem (by decide), byteAt_le .., upper (by decide), byteAt_le ..,
    clampSetting_mem (by decide), clampSetting_mem (by decide), clampSetting_mem (by decide),
    clampSetting_mem (by decide), clampSetting_mem (by decide), clampSetting_mem (by decide), profile⟩

/-! ### The bus -/

namespace State.rangeLaw

variable {s : State}

theorem freeSlot {i : Nat} (h : s.rangeLaw) : (s.freeSlot i).rangeLaw := rangeLaw_slotsFree.modSlot h

theorem modEntry {id : Nat} {f : Entry → Entry} (h : s.rangeLaw)
    (hf : ∀ e, e.retriesUsed ≤ 255 → (f e).retriesUsed ≤ 255) : (s.modEntry id f).rangeLaw :=
  have hall (e : Entry) (he : e ∈ s.entries) : (if e.id = id then f e else e).retriesUsed ≤ 255 := by
    split
    · exact hf e (h.entries e he)
    · exact h.entries e he
  { h with entries := List.forall_mem_map.mpr hall }

theorem takeSettingsRecord {id : Nat} {data : List Byte} (h : s.rangeLaw) :
    (s.takeSettingsRecord id data).rangeLaw := by
  unfold State.takeSettingsRecord
  extract_lets taken stored timed
  have hstored : stored.rangeLaw := { h with settings := takeSettings_inRange data h.settings }
  have htimed : timed.rangeLaw := by
    unfold timed
    split
    · exact hstored
    · exact rangeLaw_kept.restartIdle (rangeLaw_kept.restartIdle hstored)
  exact htimed.modEntry fun e => (decided_step ..).range

theorem slotMoved {i : Nat} {x : Slot} (h : s.rangeLaw) : (s.slotMoved i x).rangeLaw := by
  unfold State.slotMoved
  split
  · exact h.freeSlot.modEntry fun _ hr => hr
  · exact h.freeSlot.modEntry fun e => (decided_step ..).range
  · exact h.freeSlot.takeSettingsRecord
  · exact rangeLaw_slotsFree.modSlot h

theorem endSlotBurst {i : Nat} {drop : Bool} {ws : List Word} (h : s.rangeLaw) :
    (s.endSlotBurst i drop ws).rangeLaw := by
  unfold State.endSlotBurst
  split
  · exact h
  · extract_lets placed moved stored
    have hstored : stored.rangeLaw := rangeLaw_slotsFree.modSlot h
    split_ifs
    · exact h.freeSlot
    · exact hstored
    · exact hstored.slotMoved

theorem endBurst {w : BurstWork} {drop : Bool} {ws : List Word} (h : s.rangeLaw) :
    (s.endBurst w drop ws).rangeLaw := by
  unfold State.endBurst
  split
  · exact h.endSlotBurst
  · unfold State.endFinish
    split
    · exact { h with }
    · split
      · exact h
      · exact { h with entries := fun e he => h.entries e (List.mem_of_mem_filter he) }
  · split
    · exact { h with }
    · exact h
  · exact h
  · exact h
  · unfold State.endReread
    split
    · exact h
    · exact { h with }
  · unfold State.endPoll
    split
    · exact h
    · exact { h with }
  · exact { h with }
  · exact { h with }
  · refine { h with entries := fun e he => ?_ }
    rcases List.mem_append.mp he with he | he
    · exact h.entries e he
    · exact (List.mem_singleton.mp he) ▸ Nat.zero_le _
  · exact { h with }
  · exact { h with }
  · exact { h with }

theorem beginBurst (h : s.rangeLaw) : s.beginBurst.rangeLaw := by
  unfold State.beginBurst
  repeat' split
  · exact { h with pool := by simpa using h.pool }
  all_goals exact { h with }

theorem takeBurstEnd {ws : Vector Word 16} (h : s.rangeLaw) : (takeBurstEnd ws s).rangeLaw := by
  unfold Machine.takeBurstEnd
  split
  · exact h
  · exact endBurst { h with memory := State.storeWords_wf _ _ h.memory }

end State.rangeLaw

/-! ### The part-wide events -/

theorem reset_spindle_inRange : Spindle.reset.inRange :=
  ⟨by simp [Spindle.reset], by simp [Spindle.reset], by decide, by decide, by decide, by decide, by decide,
    by decide, by decide⟩

theorem reset_positioner_inRange : Positioner.reset.inRange :=
  ⟨by decide, by decide, by decide, by decide, by decide⟩

theorem supplyStopped_inRange {a : Actuator} {q : Spindle} (h : q.inRange) : (supplyStopped a q).inRange := by
  unfold supplyStopped
  split
  · exact h
  · exact stoppedEntered_inRange h
  · exact { h with duty := ⟨h.duty.1, Nat.zero_le _⟩ }
  · exact { stoppingEntered_inRange h with duty := ⟨Nat.zero_le _, Nat.zero_le _⟩ }

theorem positionerReset_inRange {p : Positioner} (h : p.inRange) : (positionerReset p).inRange where
  counter := by
    have := h.counter
    simp only [positionerReset]
    split <;> omega
  vmeas := Nat.zero_le _
  crossTimer := Nat.zero_le _
  dac := by simp [positionerReset]
  retractRetries := Nat.zero_le _

theorem rangeLaw_low : KeptLow State.rangeLaw where
  permits h := { h with }
  dropSlots h _ := h.dropSlots
  spindle h _ _ _ := h.setSpindles (PerBay.forall_update h.spindles (supplyStopped_inRange (h.spindles _)))
  halted h := { h with }

theorem PerBay.forall_both {α : Type} {Q : α → Prop} {x y : α} (hx : Q x) (hy : Q y) (b : Bay) :
    Q ((⟨x, y⟩ : PerBay α).get b) := by
  cases b <;> assumption

theorem resetDone_rangeLaw {s : State} (h : s.rangeLaw) : s.resetDone.rangeLaw where
  memory := h.memory
  pool := by simpa [State.resetDone] using h.pool
  settings := default_inRange
  generation := PerBay.forall_both (Q := fun c : BayControl => c.generation ≤ 255) (h.generation .bay0)
    (h.generation .bay1)
  spindles := PerBay.forall_both (Q := Spindle.inRange) { reset_spindle_inRange with }
    { reset_spindle_inRange with }
  positioners := PerBay.forall_both (Q := Positioner.inRange) (positionerReset_inRange (h.positioners .bay0))
    (positionerReset_inRange (h.positioners .bay1))
  maps b := by cases b <;> exact ⟨Nat.zero_le _, Nat.zero_le _⟩
  retryCount b := by cases b <;> exact Nat.zero_le _
  searches := ⟨Nat.zero_le _, Nat.zero_le _, Nat.zero_le _⟩
  entries := h.entries

theorem takeBusReset_rangeLaw {s : State} (h : s.rangeLaw) : (takeBusReset s).rangeLaw where
  memory := h.memory
  pool := by simpa [takeBusReset] using h.pool
  settings := default_inRange
  generation b := by cases b <;> exact Nat.zero_le _
  spindles := PerBay.forall_both (Q := Spindle.inRange) { reset_spindle_inRange with }
    { reset_spindle_inRange with }
  positioners := PerBay.forall_both (Q := Positioner.inRange) { reset_positioner_inRange with }
    { reset_positioner_inRange with }
  maps b := by cases b <;> exact ⟨Nat.zero_le _, Nat.zero_le _⟩
  retryCount b := by cases b <;> exact Nat.zero_le _
  searches := ⟨Nat.zero_le _, Nat.zero_le _, Nat.zero_le _⟩
  entries e he := nomatch he

theorem rangeLaw_steps : KeptSteps State.rangeLaw where
  toKeptEvents := rangeLaw_events
  cycle h := { h with }
  instant h := { h with }
  raise {s b f} h hg := { h with
    generation := PerBay.forall_update (Q := fun c : BayControl => c.generation ≤ 255) h.generation
      (hg.trans_le (by unfold generationRaised; split <;> omega)) }
  fieldSlot _ _ _ := .inl rangeLaw_slotsFree
  freeLoose h _ _ := h.freeSlot
  fillLoose h _ _ := rangeLaw_slotsFree.modSlot h
  dropSlots h _ := h.dropSlots
  beginBurst h _ := h.beginBurst
  burstEnd h := h.takeBurstEnd
  started h _ := { h with }
  unstalled h _ := { h with }
  draining h _ _ := { h with }
  lowSupply h ha := rangeLaw_low.takeSupplyLow rangeLaw_events h ha
  resetDone h _ := resetDone_rangeLaw h
  busReset h := takeBusReset_rangeLaw h

/-- Settles O9: the ranges are kept by every elementary change, and so by every command and every cycle. -/
theorem stepKeepsTheRanges : Obligations.StepKeepsTheRanges := by
  unfold Obligations.StepKeepsTheRanges
  exact fun s t h ht => rangeLaw_steps.step (fun h => { h with }) h ht

end Sys2Proof.Machine

/-!
PROOFS. The law of the Remap Tables under every step, and what a Reassign makes of its table: O53.
-/

namespace Sys2Proof.Machine

/-- R105: the law of both Remap Tables. -/
def State.tablesLaw (s : State) : Prop := ∀ b, (s.map b).tableLaw

/-- The tables are what the maps say of them. -/
theorem State.tablesLaw_of_maps {s t : State} (h : s.tablesLaw) (hm : t.maps = s.maps) : t.tablesLaw :=
  fun b => by simpa only [State.map, hm] using h b

theorem tablesLaw_slotsFree : SlotsFree State.tablesLaw where
  slots h _ := h
  channel h _ := h
  marked h := h

theorem tablesLaw_keptBase : KeptBase State.tablesLaw where
  bay h _ := h
  spindle h _ := h
  positioner h _ _ := h
  map {s b f} h step _ := PerBay.forall_update (Q := DefectMap.tableLaw) h (step.table (h b))
  channel h _ := h
  entries h _ := h
  link h _ := h
  waiters h := h
  medium h := h
  dma h := h
  loseChannel h := State.tablesLaw_of_maps h (by simp)
  freeMountSlots h _ := State.tablesLaw_of_maps h (by simp)
  letGo h := State.tablesLaw_of_maps h (by simp)
  takeSlot h _ _ := h
  slots h _ := h

theorem tablesLaw_kept : Kept State.tablesLaw where
  toKeptBase := tablesLaw_keptBase
  requestPermit h _ := State.tablesLaw_of_maps h (by simp)
  leavePending h _ := State.tablesLaw_of_maps h (by simp)
  enterStopping h _ :=
    have k := tablesLaw_keptBase
    k.dropLoad (k.emergencyRetract (k.loseChannel (State.tablesLaw_of_maps h (by simp))))
  activate h _ _ _ := h
  await h _ _ := h
  finish h _ _ := h
  sense h ht := by
    unfold restartSensing at ht
    split_ifs at ht
    cases ht
    exact State.tablesLaw_of_maps h (by simp)
  leave h ht := by
    unfold leaveHalted at ht
    split_ifs at ht
    cases ht
    exact h
  offline h ht := by
    unfold goOfflineNow at ht
    split_ifs at ht
    cases ht
    exact h
  withdraw h ht := by
    unfold withdrawFetch at ht
    split_ifs at ht
    split at ht <;> cases ht <;> exact h
  fetch h ht := by
    unfold beginFetch at ht
    split_ifs at ht <;> cases ht <;> exact h

theorem tablesLaw_events : KeptEvents State.tablesLaw where
  toKept := tablesLaw_kept
  stopped h _ := State.tablesLaw_of_maps h (by simp)
  flies _ _ := .inl fun h _ => h
  pins h := h
  ports h := h
  supply h := h
  reset h := h
  input h _ := h
  head h _ := h
  spun h _ _ := h
  tickLink h _ := h
  mark h := State.tablesLaw_of_maps h (by simp)
  lock h _ := State.tablesLaw_of_maps h (by simp)
  drift h _ := State.tablesLaw_of_maps h (by simp)
  permitMet _ h _ := State.tablesLaw_of_maps h (by simp [State.permitToBay0])
  fill h _ _ _ _ _ := h
  pour h _ _ _ := h

theorem tablesLaw_low : KeptLow State.tablesLaw where
  permits h := h
  dropSlots h _ := State.tablesLaw_of_maps h (by simp)
  spindle h _ _ _ := h
  halted h := h

@[simp] theorem State.endSlotBurst_maps (s : State) (i : Nat) (drop : Bool) (ws : List Word) :
    (s.endSlotBurst i drop ws).maps = s.maps := by
  have hmoved (t : State) (x : Slot) : (t.slotMoved i x).maps = t.maps := by
    unfold State.slotMoved
    split <;> simp
  unfold State.endSlotBurst
  split
  · rfl
  · extract_lets placed moved stored
    split_ifs
    · simp
    · simp [stored]
    · simp [hmoved, stored]

@[simp] theorem State.endBurst_maps (s : State) (w : BurstWork) (drop : Bool) (ws : List Word) :
    (s.endBurst w drop ws).maps = s.maps := by
  unfold State.endBurst
  repeat' split
  all_goals simp

theorem tablesLaw_steps : KeptSteps State.tablesLaw where
  toKeptEvents := tablesLaw_events
  cycle h := h
  instant h := h
  raise h _ := h
  fieldSlot _ _ _ := .inl tablesLaw_slotsFree
  freeLoose h _ _ := h
  fillLoose h _ _ := h
  dropSlots h _ := State.tablesLaw_of_maps h (by simp)
  beginBurst h _ := State.tablesLaw_of_maps h (by simp)
  burstEnd {s ws} h := by
    unfold takeBurstEnd
    split
    · exact h
    · exact State.tablesLaw_of_maps h (by simp)
  started h _ := h
  unstalled h _ := h
  draining h _ _ := h
  lowSupply h ha := tablesLaw_low.takeSupplyLow tablesLaw_events h ha
  resetDone h _ := fun b => by cases b <;> exact DefectMap.tableLaw_empty rfl rfl
  busReset h := fun b => by cases b <;> exact DefectMap.tableLaw_empty rfl rfl

/-- Settles O53: no elementary change of a map but a Reassign, a mount and an emptying touches its table, and
each of these gives a lawful one. -/
theorem stepKeepsTheTableLaw : Obligations.StepKeepsTheTableLaw := by
  unfold Obligations.StepKeepsTheTableLaw
  refine ⟨fun s t h ht => tablesLaw_steps.step (fun h => h) h ht, fun m lsn hm hr => ?_⟩
  obtain ⟨hstatus, -, -⟩ := reassignResult_eq_none hr
  exact ⟨reassigned_tableLaw hm hr, hstatus, rfl, findEntry_remap_same .., fun n hn =>
    findEntry_remap_other _ hn⟩

end Sys2Proof.Machine

/-!
PROOFS. The Spin-Up Permit under every step (R45 to R47): O10.
-/

namespace Sys2Proof.Machine

/-- R45: the phases that hold the permit. -/
def Phase.spinsUp (p : Phase) : Prop := p = .starting ∨ p = .accelerating

namespace State.permitInv

variable {s t : State} {b : Bay}

/-- The law is one of the phases, the holder and the waiting bay. -/
theorem congr (h : s.permitInv) (hp : ∀ c, (t.spindle c).phase = (s.spindle c).phase)
    (hh : t.permitHolder = s.permitHolder) (hw : t.permitWaiting = s.permitWaiting) : t.permitInv where
  permit c := by rw [hp, hh]; exact h.permit c
  waiting c hc := (hp c).trans (h.waiting c (hw ▸ hc))

theorem of_blocks (h : s.permitInv) (hs : t.spindles = s.spindles) (hh : t.permitHolder = s.permitHolder)
    (hw : t.permitWaiting = s.permitWaiting) : t.permitInv :=
  h.congr (fun c => by simp only [State.spindle, hs]) hh hw

theorem not_waiting (h : s.permitInv) (hp : (s.spindle b).phase ≠ .pending) : s.permitWaiting ≠ some b :=
  fun hw => hp (h.waiting b hw)

theorem not_holding (h : s.permitInv) (hp : ¬(s.spindle b).phase.spinsUp) : s.permitHolder ≠ some b :=
  fun hh => hp ((h.permit b).mpr hh)

/-- A change of one spindle that leaves it with or without the permit. -/
theorem update {f : Spindle → Spindle} (h : s.permitInv)
    (hp : (f (s.spindle b)).phase.spinsUp ↔ (s.spindle b).phase.spinsUp)
    (hw : (s.spindle b).phase = .pending → s.permitWaiting = some b → (f (s.spindle b)).phase = .pending) :
    { s with spindles := s.spindles.update b f }.permitInv where
  permit c := by
    by_cases e : c = b
    · subst e
      simpa [State.spindle, PerBay.get_update, Phase.spinsUp] using hp.trans (h.permit c)
    · simpa [State.spindle, PerBay.get_update, e] using h.permit c
  waiting c hc := by
    by_cases e : c = b
    · subst e
      simpa [State.spindle, PerBay.get_update] using hw (h.waiting c hc) hc
    · simpa [State.spindle, PerBay.get_update, e] using h.waiting c hc

theorem modSpindle {f : Spindle → Spindle} (h : s.permitInv)
    (hp : (f (s.spindle b)).phase.spinsUp ↔ (s.spindle b).phase.spinsUp)
    (hw : (s.spindle b).phase = .pending → s.permitWaiting = some b → (f (s.spindle b)).phase = .pending) :
    (s.modSpindle b f).permitInv :=
  (h.update hp hw).of_blocks (by simp) (by simp) (by simp)

/-- R45: a free permit granted to a bay that does not wait any more. -/
theorem grantPermit (h : s.permitInv) (hfree : s.permitHolder = none) (hw : s.permitWaiting ≠ some b) :
    (s.grantPermit b).permitInv where
  permit c := by
    by_cases e : c = b
    · subst e
      simp [State.grantPermit, startingEntered]
    · have hc : ¬((s.spindle c).phase = .starting ∨ (s.spindle c).phase = .accelerating) :=
        fun hp => by simpa [hfree] using (h.permit c).mp hp
      simpa [State.grantPermit, State.spindle, PerBay.get_update, e, Ne.symm e] using hc
  waiting c hc := by
    have hc : s.permitWaiting = some c := by simpa [State.grantPermit] using hc
    have e : c ≠ b := fun e => hw (e ▸ hc)
    simpa [State.grantPermit, State.spindle, PerBay.get_update, e] using h.waiting c hc

/-- R46: a spindle that spins up no longer passes the permit on. -/
theorem leave {f : Spindle → Spindle} (h : s.permitInv) (hp : ¬(f (s.spindle b)).phase.spinsUp)
    (hpending : (s.spindle b).phase ≠ .pending) :
    ((s.modSpindle b f).releasePermit b).permitInv := by
  have hw := h.not_waiting hpending
  unfold State.releasePermit
  split
  next hh =>
    have hh : s.permitHolder = some b := by simpa using hh
    have hfree : { s.modSpindle b f with permitHolder := none, permitWaiting := none }.permitInv := by
      refine ⟨fun c => ?_, nofun⟩
      by_cases e : c = b
      · subst e
        simpa [State.spindle, PerBay.get_update, Phase.spinsUp] using hp
      · have hc : ¬((s.spindle c).phase = .starting ∨ (s.spindle c).phase = .accelerating) :=
          fun hp => e (by simpa [hh, eq_comm] using (h.permit c).mp hp)
        simpa [State.spindle, PerBay.get_update, e] using hc
    split
    · exact hfree.grantPermit rfl nofun
    next hn => exact hfree.congr (fun _ => rfl) rfl hn
  next hh =>
    have hh : s.permitHolder ≠ some b := by simpa using hh
    exact h.modSpindle (iff_of_false hp fun hs => hh ((h.permit b).mp hs)) fun hp _ => absurd hp hpending

end State.permitInv

theorem permitInv_slotsFree : SlotsFree State.permitInv where
  slots h _ := { h with }
  channel h _ := { h with }
  marked h := { h with }

theorem permitInv_keptBase : KeptBase State.permitInv where
  bay h _ := { h with }
  spindle h step := h.update (by rw [step.phase]) fun hp _ => step.phase.trans hp
  positioner h _ _ := { h with }
  map h _ _ := { h with }
  channel h _ := { h with }
  entries h _ := { h with }
  link h _ := { h with }
  waiters h := { h with }
  medium h := { h with }
  dma h := { h with }
  loseChannel h := h.of_blocks (by simp) (by simp) (State.loseChannel_permitWaiting ..)
  freeMountSlots h _ := h.of_blocks (by simp) (by simp) (State.dropSlots_permitWaiting ..)
  letGo h := h.of_blocks (by simp) (by simp) (State.dropSlots_permitWaiting ..)
  takeSlot h _ _ := { h with }
  slots h _ := { h with }

theorem not_spinsUp_stopping (q : Spindle) : ¬(stoppingEntered q).phase.spinsUp := by
  simp [stoppingEntered, Phase.spinsUp]

theorem permitInv_kept : Kept State.permitInv where
  toKeptBase := permitInv_keptBase
  requestPermit {s b} h hp := by
    have hw := h.not_waiting (b := b) (by simp [hp])
    have hasking := h.modSpindle (b := b) (f := fun q => { q with phase := .pending })
      (by simp [hp, Phase.spinsUp]) fun _ _ => rfl
    unfold State.requestPermit
    extract_lets asking
    split
    next hfree => exact hasking.grantPermit (by simpa using hfree) (by simpa using hw)
    · refine ⟨hasking.permit, fun c hc => ?_⟩
      cases hc
      simp [State.spindle, asking]
  leavePending {s b} h hp := by
    have hcleared : (if s.permitWaiting = some b then { s with permitWaiting := none } else s).permitInv := by
      split
      · exact ⟨h.permit, nofun⟩
      · exact h
    refine hcleared.modSpindle ?_ ?_
    · have hnot : ¬(s.spindle b).phase.spinsUp := by simp [hp, Phase.spinsUp]
      split <;> exact iff_of_false (by simp [stoppedEntered, Phase.spinsUp]) hnot
    · split
      · simp
      next hw => exact fun _ hw' => absurd hw' hw
  enterStopping {s b} h hp :=
    have k := permitInv_keptBase
    k.dropLoad (k.emergencyRetract (k.loseChannel (h.leave (not_spinsUp_stopping _) hp)))
  activate h _ _ _ := { h with }
  await h _ _ := { h with }
  finish h _ _ := { h with }
  sense h ht := by
    unfold restartSensing at ht
    split_ifs at ht
    cases ht
    exact h.of_blocks (by simp) (by simp) (by simp)
  leave h ht := by
    unfold leaveHalted at ht
    split_ifs at ht
    cases ht
    exact { h with }
  offline h ht := by
    unfold goOfflineNow at ht
    split_ifs at ht
    cases ht
    exact { h with }
  withdraw h ht := by
    unfold withdrawFetch at ht
    split_ifs at ht
    split at ht <;> cases ht <;> exact { h with }
  fetch h ht := by
    unfold beginFetch at ht
    split_ifs at ht <;> cases ht <;> exact { h with }

theorem mark_spinsUp (n : Nat) (q : Spindle) :
    ((markTimed (markCounted (markRecorded n q))).phase.spinsUp ↔ q.phase.spinsUp) ∧
      (q.phase = .pending → (markTimed (markCounted (markRecorded n q))).phase = .pending) := by
  have hphase : (markCounted (markRecorded n q)).phase = q.phase := by
    unfold markCounted markRecorded
    split <;> rfl
  rw [← hphase]
  unfold markTimed
  split
  next hp =>
    split
    · exact ⟨.rfl, fun h => h⟩
    · exact ⟨by simp [hp, Phase.spinsUp], by simp [hp]⟩
  · exact ⟨.rfl, fun h => h⟩
  · exact ⟨.rfl, fun h => h⟩

theorem permitInv_events : KeptEvents State.permitInv where
  toKept := permitInv_kept
  stopped h hp := h.modSpindle (by simp [hp, stoppedEntered, Phase.spinsUp]) (by simp [hp])
  flies _ _ := .inl fun h _ => { h with }
  pins h := { h with }
  ports h := { h with }
  supply h := { h with }
  reset h := { h with }
  input h _ := { h with }
  head h _ := { h with }
  spun h hp _ := h.update (by rw [hp]) fun hq _ => hp.trans hq
  tickLink h _ := { h with }
  mark h := h.modSpindle (mark_spinsUp ..).1 fun hp _ => (mark_spinsUp ..).2 hp
  lock h hp := h.leave (by simp [lockedEntered, Phase.spinsUp]) (by rcases hp with hp | hp <;> simp [hp])
  drift h hp := h.modSpindle (by simp [hp, driftingEntered, Phase.spinsUp]) (by simp [hp])
  permitMet {start s} _ h hm := by
    have hphase (b : Bay) : ((State.permitToBay0 start s).spindle b).phase =
        if b = .bay0 then .starting else .pending := by
      obtain ⟨-, -, h0, h1, -⟩ := State.permitToBay0_spec start s
      cases b <;> assumption
    obtain ⟨hholder, hwaiting, -⟩ := State.permitToBay0_spec start s
    refine ⟨fun b => ?_, fun b hb => ?_⟩
    · rw [hphase, hholder]
      cases b <;> simp
    · rw [hphase]
      cases b
      · simp [hwaiting] at hb
      · rfl
  fill h _ _ _ _ _ := { h with }
  pour h _ _ _ := { h with }

/-! ### The acceptance of Supply Low and the bus -/

theorem State.shutDown_spindles (s : State) (b : Bay) :
    ∃ a, (s.shutDown b).spindles = s.spindles.update b (supplyStopped a) := by
  unfold State.shutDown
  extract_lets retracted
  exact ⟨(retracted.positioner b).state, by simp [retracted]⟩

/-- R44: what the acceptance of Supply Low makes of the spindles. -/
theorem takeSupplyLow_spindle {s : State} (ha : s.supply.accepted = false) (b : Bay) :
    ∃ a, (takeSupplyLow s).spindle b = supplyStopped a (s.spindle b) := by
  rw [takeSupplyLow_eq ha]
  obtain ⟨a0, h0⟩ := s.supplyLost.shutDown_spindles .bay0
  obtain ⟨a1, h1⟩ := (s.supplyLost.shutDown .bay0).shutDown_spindles .bay1
  have hlost : s.supplyLost.spindles = s.spindles := by simp [State.supplyLost]
  rw [h0, hlost] at h1
  generalize (s.supplyLost.shutDown .bay0).shutDown .bay1 = down at h1
  cases b
  · exact ⟨a0, congrArg PerBay.bay0 h1⟩
  · exact ⟨a1, congrArg PerBay.bay1 h1⟩

theorem supplyStopped_not_spinsUp (a : Actuator) (q : Spindle) : ¬(supplyStopped a q).phase.spinsUp := by
  unfold supplyStopped
  split
  next hp => simp [hp, Phase.spinsUp]
  · simp [stoppedEntered, Phase.spinsUp]
  next hp => simp [hp, Phase.spinsUp]
  · simp [stoppingEntered, Phase.spinsUp]

theorem takeSupplyLow_permit {s : State} (ha : s.supply.accepted = false) :
    (takeSupplyLow s).permitHolder = none ∧ (takeSupplyLow s).permitWaiting = none := by
  rw [takeSupplyLow_eq ha]
  obtain ⟨hh0, hw0⟩ := s.supplyLost.shutDown_permit .bay0
  obtain ⟨hh1, hw1⟩ := (s.supplyLost.shutDown .bay0).shutDown_permit .bay1
  obtain ⟨hh, hw⟩ := s.supplyLost_permit
  generalize (s.supplyLost.shutDown .bay0).shutDown .bay1 = down at hh1 hw1
  exact ⟨hh1.trans (hh0.trans hh), hw1.trans (hw0.trans hw)⟩

theorem State.permitInv.of_free {t : State} (hh : t.permitHolder = none) (hw : t.permitWaiting = none)
    (hp : ∀ b, ¬(t.spindle b).phase.spinsUp) : t.permitInv where
  permit b := iff_of_false (hp b) (by simp [hh])
  waiting b hb := by simp [hw] at hb

theorem State.beginBurst_permitWaiting (s : State) : s.beginBurst.permitWaiting = s.permitWaiting := by
  unfold State.beginBurst
  repeat' split
  all_goals rfl

theorem State.slotMoved_permitWaiting (s : State) (i : Nat) (x : Slot) :
    (s.slotMoved i x).permitWaiting = s.permitWaiting := by
  unfold State.slotMoved State.takeSettingsRecord
  split
  · simp [State.freeSlot]
  · simp [State.freeSlot]
  · extract_lets taken stored timed
    have htimed : timed.permitWaiting = s.permitWaiting := by
      unfold timed
      split <;> simp [stored, State.restartIdle, State.freeSlot]
    simpa using htimed
  · simp

@[simp] theorem State.endBurst_permitWaiting (s : State) (w : BurstWork) (drop : Bool) (ws : List Word) :
    (s.endBurst w drop ws).permitWaiting = s.permitWaiting := by
  have hslot (i : Nat) : (s.endSlotBurst i drop ws).permitWaiting = s.permitWaiting := by
    unfold State.endSlotBurst
    split
    · rfl
    · extract_lets placed moved stored
      split_ifs
      · simp [State.freeSlot]
      · simp [stored]
      · simp [State.slotMoved_permitWaiting, stored]
  unfold State.endBurst State.endFinish State.endReread State.endPoll State.joinQueue State.endFaultWrite
  repeat' split
  all_goals first | exact hslot _ | rfl

@[simp] theorem State.endBurst_spindles (s : State) (w : BurstWork) (drop : Bool) (ws : List Word) :
    (s.endBurst w drop ws).spindles = s.spindles ∧ (s.endBurst w drop ws).permitHolder = s.permitHolder := by
  have hmoved (t : State) (i : Nat) (x : Slot) :
      (t.slotMoved i x).spindles = t.spindles ∧ (t.slotMoved i x).permitHolder = t.permitHolder := by
    unfold State.slotMoved
    split <;> simp
  have hslot (i : Nat) : (s.endSlotBurst i drop ws).spindles = s.spindles ∧
      (s.endSlotBurst i drop ws).permitHolder = s.permitHolder := by
    unfold State.endSlotBurst
    split
    · simp
    · extract_lets placed moved stored
      split_ifs <;> simp [hmoved, stored]
  unfold State.endBurst
  repeat' split
  all_goals first | exact hslot _ | simp

theorem permitInv_steps : KeptSteps State.permitInv where
  toKeptEvents := permitInv_events
  cycle h := { h with }
  instant h := { h with }
  raise h _ := { h with }
  fieldSlot _ _ _ := .inl permitInv_slotsFree
  freeLoose h _ _ := { h with }
  fillLoose h _ _ := { h with }
  dropSlots h _ := h.of_blocks (by simp) (by simp) (State.dropSlots_permitWaiting ..)
  beginBurst h _ := h.of_blocks (by simp) (by simp) (State.beginBurst_permitWaiting _)
  burstEnd {s ws} h := by
    unfold takeBurstEnd
    split
    · exact h
    · exact h.of_blocks (by simp) (by simp) (by simp [State.storeWords])
  started h _ := { h with }
  unstalled h _ := { h with }
  draining h _ _ := { h with }
  lowSupply {s} h ha := by
    obtain ⟨hh, hw⟩ := takeSupplyLow_permit ha
    refine .of_free hh hw fun b => ?_
    obtain ⟨a, hs⟩ := takeSupplyLow_spindle ha b
    exact hs ▸ supplyStopped_not_spinsUp a _
  resetDone h _ := .of_free rfl rfl fun b => by cases b <;> exact not_or.mpr ⟨nofun, nofun⟩
  busReset h := .of_free rfl rfl fun b => by cases b <;> exact not_or.mpr ⟨nofun, nofun⟩

/-- Settles O10: each change of a phase moves the permit with it. -/
theorem stepKeepsThePermitLaw : Obligations.StepKeepsThePermitLaw := by
  unfold Obligations.StepKeepsThePermitLaw
  exact fun s t h ht => permitInv_steps.step (fun h => { h with }) h ht

end Sys2Proof.Machine

/-!
PROOFS. The heads fly only over a turning platter, under every step (R54): O11.
-/

namespace Sys2Proof.Machine

/-- The law of R54 for the bays of a set, with what the motions and the permit's grant rely on. -/
structure State.flyInvOn (S : Bay → Prop) (s : State) : Prop where
  fly : ∀ b, S b → (s.positioner b).state.loaded = true → (s.spindle b).phase.regulates = true
  motion : ∀ b, (s.positioner b).motionOk
  waiting : s.waitingLaw

theorem flyInv_iff {s : State} : s.flyInv ↔ s.flyInvOn fun _ => True :=
  ⟨fun h => ⟨fun b _ => h.fly b, h.motion, h.waiting⟩, fun h => ⟨fun b => h.fly b trivial, h.motion, h.waiting⟩⟩

namespace State.flyInvOn

variable {S : Bay → Prop} {s t : State} {b : Bay}

theorem of_blocks (h : s.flyInvOn S) (hs : t.spindles = s.spindles) (hp : t.positioners = s.positioners)
    (hw : t.permitWaiting = s.permitWaiting) : t.flyInvOn S where
  fly b := by simpa only [State.positioner, State.spindle, hs, hp] using h.fly b
  motion b := by simpa only [State.positioner, hp] using h.motion b
  waiting b hb := by simpa only [State.spindle, hs] using h.waiting b (hw ▸ hb)

/-- A bay whose spindle does not regulate has its heads off the platter. -/
theorem not_loaded (h : s.flyInvOn S) (hS : S b) (hp : (s.spindle b).phase.regulates = false) :
    (s.positioner b).state.loaded = false :=
  Bool.eq_false_iff.mpr fun hl => by simp [h.fly b hS hl] at hp

theorem not_waiting (h : s.flyInvOn S) (hp : (s.spindle b).phase ≠ .pending) : s.permitWaiting ≠ some b :=
  fun hw => hp (h.waiting b hw)

/-- A change of one spindle: where its heads may be over the platter it regulates, and a bay that waits for the
permit stays PENDING. -/
theorem setSpindle {f : Spindle → Spindle} (h : s.flyInvOn S)
    (hp : S b → (s.positioner b).state.loaded = true → (f (s.spindle b)).phase.regulates = true)
    (hw : s.permitWaiting = some b → (f (s.spindle b)).phase = .pending) :
    { s with spindles := s.spindles.update b f }.flyInvOn S where
  fly c hS hl := by
    by_cases e : c = b
    · subst e
      simpa [State.spindle, PerBay.get_update] using hp hS hl
    · simpa [State.spindle, PerBay.get_update, e] using h.fly c hS hl
  motion := h.motion
  waiting c hc := by
    by_cases e : c = b
    · subst e
      simpa [State.spindle, PerBay.get_update] using hw hc
    · simpa [State.spindle, PerBay.get_update, e] using h.waiting c hc

theorem modSpindle {f : Spindle → Spindle} (h : s.flyInvOn S)
    (hp : S b → (s.positioner b).state.loaded = true → (f (s.spindle b)).phase.regulates = true)
    (hw : s.permitWaiting = some b → (f (s.spindle b)).phase = .pending) : (s.modSpindle b f).flyInvOn S :=
  (h.setSpindle hp hw).of_blocks (by simp) (by simp) (by simp)

/-- A change of one actuator that is over the platter only where its spindle regulates. -/
theorem setPositioner {f : Positioner → Positioner} (h : s.flyInvOn S)
    (hm : (s.positioner b).motionOk → (f (s.positioner b)).motionOk)
    (hl : S b → (f (s.positioner b)).state.loaded = true →
      (s.positioner b).state.loaded = true ∨ (s.spindle b).phase.regulates = true) :
    { s with positioners := s.positioners.update b f }.flyInvOn S where
  fly c hS hl' := by
    by_cases e : c = b
    · subst e
      exact (hl hS (by simpa [State.positioner, PerBay.get_update] using hl')).elim (h.fly c hS) id
    · exact h.fly c hS (by simpa [State.positioner, PerBay.get_update, e] using hl')
  motion c := by
    by_cases e : c = b
    · subst e
      simpa [State.positioner, PerBay.get_update] using hm (h.motion c)
    · simpa [State.positioner, PerBay.get_update, e] using h.motion c
  waiting := h.waiting

theorem grantPermit (h : s.flyInvOn S) (hl : S b → (s.positioner b).state.loaded = false)
    (hw : s.permitWaiting ≠ some b) : (s.grantPermit b).flyInvOn S :=
  modSpindle (s := { s with permitHolder := some b }) { h with } (fun hS hl' => by
    have hl := hl hS
    simp_all [State.positioner]) fun hw' => absurd hw' hw

theorem releasePermit (h : s.flyInvOn S) : (s.releasePermit b).flyInvOn S := by
  unfold State.releasePermit
  split
  · split
    next w hw =>
      refine grantPermit ⟨h.fly, h.motion, nofun⟩ (fun hS => ?_) nofun
      exact h.not_loaded hS (by rw [h.waiting w hw]; rfl)
    next hn => exact ⟨h.fly, h.motion, h.waiting⟩
  · exact h

end State.flyInvOn

theorem flyInvOn_slotsFree (S : Bay → Prop) : SlotsFree (State.flyInvOn S) where
  slots h _ := { h with }
  channel h _ := { h with }
  marked h := { h with }

theorem flyInvOn_keptBase (S : Bay → Prop) : KeptBase (State.flyInvOn S) where
  bay h _ := { h with }
  spindle h step := h.setSpindle (fun hS hl => step.phase ▸ h.fly _ hS hl) fun hw => step.phase.trans (h.waiting _ hw)
  positioner h step fly := h.setPositioner step.motion fun _ => fly
  map h _ _ := { h with }
  channel h _ := { h with }
  entries h _ := { h with }
  link h _ := { h with }
  waiters h := { h with }
  medium h := { h with }
  dma h := { h with }
  loseChannel h := h.of_blocks (by simp) (by simp) (State.loseChannel_permitWaiting ..)
  freeMountSlots h _ := h.of_blocks (by simp) (by simp) (State.dropSlots_permitWaiting ..)
  letGo h := h.of_blocks (by simp) (by simp) (State.dropSlots_permitWaiting ..)
  takeSlot h _ _ := { h with }
  slots h _ := { h with }

/-- The law of R54 for both bays. -/
theorem State.flyInvOn.all {s : State} {b : Bay} (h : s.flyInvOn (· ≠ b))
    (hl : (s.positioner b).state.loaded = false) : s.flyInvOn fun _ => True where
  fly c _ hc := by
    by_cases e : c = b
    · subst e
      simp [hl] at hc
    · exact h.fly c e hc
  motion := h.motion
  waiting := h.waiting

theorem State.emergencyRetract_loaded (s : State) (b : Bay) :
    ((s.emergencyRetract b).positioner b).state.loaded = false := by
  unfold State.emergencyRetract
  split
  · simp [State.beginRetract, retractBegun, Actuator.loaded]
  next hl => simpa using hl

@[simp] theorem State.dropLoad_state (s : State) (b c : Bay) :
    ((s.dropLoad b).positioner c).state = (s.positioner c).state := by
  unfold State.dropLoad
  split
  · simp only [State.dropHeld, State.positioner_modPositioner]
    split <;> simp [State.positioner]
  · rfl

theorem flyInv_kept : Kept (State.flyInvOn fun _ => True) where
  toKeptBase := flyInvOn_keptBase _
  requestPermit {s b} h hp := by
    have hl := h.not_loaded (b := b) trivial (by rw [hp]; rfl)
    have hw := h.not_waiting (b := b) (by simp [hp])
    have hasking := h.modSpindle (b := b) (f := fun q => { q with phase := .pending })
      (fun _ hl' => by simp [hl] at hl') fun _ => rfl
    unfold State.requestPermit
    extract_lets asking
    split
    · exact hasking.grantPermit (fun _ => by simpa [State.positioner] using hl) (by simpa using hw)
    · refine ⟨hasking.fly, hasking.motion, fun c hc => ?_⟩
      cases hc
      simp [State.spindle, asking]
  leavePending {s b} h hp := by
    have hl := h.not_loaded (b := b) trivial (by rw [hp]; rfl)
    unfold State.leavePending
    split
    · exact State.flyInvOn.modSpindle (s := { s with permitWaiting := none }) ⟨h.fly, h.motion, nofun⟩
        (fun _ hl' => by simp_all [State.positioner]) nofun
    next hw => exact h.modSpindle (fun _ hl' => by simp [hl] at hl') fun hw' => absurd hw' hw
  enterStopping {s b} h hp := by
    have k := flyInvOn_keptBase (· ≠ b)
    have hothers : s.flyInvOn (· ≠ b) := ⟨fun c _ => h.fly c trivial, h.motion, h.waiting⟩
    have hstopping := hothers.modSpindle (b := b) (f := stoppingEntered) (fun hS => absurd rfl hS)
      fun hw => absurd hw (h.not_waiting hp)
    refine State.flyInvOn.all (k.dropLoad (k.emergencyRetract (k.loseChannel hstopping.releasePermit))) ?_
    unfold State.enterStopping
    rw [State.dropLoad_state]
    exact State.emergencyRetract_loaded ..
  activate h _ _ _ := { h with }
  await h _ _ := { h with }
  finish h _ _ := { h with }
  sense h ht := by
    unfold restartSensing at ht
    split_ifs at ht
    cases ht
    exact h.of_blocks (by simp) (by simp) (by simp)
  leave h ht := by
    unfold leaveHalted at ht
    split_ifs at ht
    cases ht
    exact { h with }
  offline h ht := by
    unfold goOfflineNow at ht
    split_ifs at ht
    cases ht
    exact { h with }
  withdraw h ht := by
    unfold withdrawFetch at ht
    split_ifs at ht
    split at ht <;> cases ht <;> exact { h with }
  fetch h ht := by
    unfold beginFetch at ht
    split_ifs at ht <;> cases ht <;> exact { h with }

theorem mark_regulates (n : Nat) (q : Spindle) (hq : q.phase.regulates = true) :
    (markTimed (markCounted (markRecorded n q))).phase.regulates = true := by
  have hphase : (markCounted (markRecorded n q)).phase = q.phase := by
    unfold markCounted markRecorded
    split <;> rfl
  rw [← hphase] at hq
  unfold markTimed
  split
  next hp => simp [hp, Phase.regulates] at hq
  next hp => exact hq
  · exact hq

theorem flyInv_events : KeptEvents (State.flyInvOn fun _ => True) where
  toKept := flyInv_kept
  stopped {s b} h hp := by
    have hl := h.not_loaded (b := b) trivial (by rw [hp]; rfl)
    exact h.modSpindle (fun _ hl' => by simp [hl] at hl') fun hw => by simpa [hp] using h.waiting _ hw
  flies {s b} h hl := .inr (h.fly b trivial (hl.elim id (h.motion b)))
  pins h := { h with }
  ports h := { h with }
  supply h := { h with }
  reset h := { h with }
  input h _ := { h with }
  head h step := h.setPositioner step.motion fun _ hl => .inl (step.state ▸ hl)
  spun h hp _ := h.setSpindle (fun hS hl => hp ▸ h.fly _ hS hl) fun hw => hp.trans (h.waiting _ hw)
  tickLink h _ := { h with }
  mark h := h.modSpindle (fun hS hl => mark_regulates _ _ (h.fly _ hS hl)) fun hw =>
    (mark_spinsUp ..).2 (h.waiting _ hw)
  lock h hp := by
    refine State.flyInvOn.releasePermit (h.modSpindle (fun _ _ => rfl) fun hw => ?_)
    rcases hp with hp | hp <;> simpa [hp] using h.waiting _ hw
  drift h hp := h.modSpindle (fun _ _ => rfl) fun hw => by simpa [hp] using h.waiting _ hw
  permitMet {start s} _ h hm := by
    obtain ⟨-, hw, hp⟩ := hm
    obtain ⟨-, hheads, -⟩ := State.permitToBay0_frame start s
    obtain ⟨-, hwaiting, -, hphase, -⟩ := State.permitToBay0_spec start s
    have hoff (b : Bay) : (s.positioner b).state.loaded = false := by
      refine h.not_loaded trivial ?_
      cases b
      · rw [h.waiting .bay0 hw]; rfl
      · rw [hp]; rfl
    refine ⟨fun b _ hl => ?_, fun b => ?_, fun b hb => ?_⟩
    · rw [State.positioner, hheads] at hl
      exact absurd hl (by simpa [State.positioner] using hoff b)
    · rw [State.positioner, hheads]
      exact h.motion b
    · rw [hwaiting] at hb
      cases hb
      exact hphase
  fill h _ _ _ _ _ := { h with }
  pour h _ _ _ := { h with }

theorem flyInv_low : KeptLow (State.flyInvOn fun _ => True) where
  permits h := ⟨h.fly, h.motion, nofun⟩
  dropSlots h _ := h.of_blocks (by simp) (by simp) (State.dropSlots_permitWaiting ..)
  spindle h hw _ hl := h.setSpindle (fun _ hl' => by simp [hl] at hl') fun hw' => by simp [hw] at hw'
  halted h := { h with }

/-- The heads are off the platter, no motion timer runs, and no bay waits for the permit. -/
theorem State.flyInvOn.of_off {S : Bay → Prop} {t : State}
    (hl : ∀ b, (t.positioner b).state.loaded = false ∧ (t.positioner b).motionOk)
    (hw : t.permitWaiting = none) : t.flyInvOn S :=
  ⟨fun b _ h => by simp [hl b] at h, fun b => (hl b).2, fun b h => by simp [hw] at h⟩

@[simp] theorem State.endBurst_positioners (s : State) (w : BurstWork) (drop : Bool) (ws : List Word) :
    (s.endBurst w drop ws).positioners = s.positioners := by
  have hmoved (t : State) (i : Nat) (x : Slot) : (t.slotMoved i x).positioners = t.positioners := by
    unfold State.slotMoved
    split <;> simp
  have hslot (i : Nat) : (s.endSlotBurst i drop ws).positioners = s.positioners := by
    unfold State.endSlotBurst
    split
    · rfl
    · extract_lets placed moved stored
      split_ifs <;> simp [hmoved, stored]
  unfold State.endBurst
  repeat' split
  all_goals first | exact hslot _ | simp

/-- R176: the heads of both bays are off the platter where Reset in Progress ends. -/
theorem State.resetEnds_not_loaded {s : State} (h : s.resetEnds = true) (b : Bay) :
    (s.positioner b).state.loaded = false := by
  simp only [State.resetEnds, State.bayRunDown, Bool.and_eq_true, Bool.or_eq_true, beq_iff_eq] at h
  obtain ⟨⟨⟨⟨⟨-, ⟨⟨h0, -⟩, -⟩⟩, ⟨⟨h1, -⟩, -⟩⟩, -⟩, -⟩, -⟩ := h
  cases b
  · rcases h0 with h0 | h0 <;> rw [h0] <;> rfl
  · rcases h1 with h1 | h1 <;> rw [h1] <;> rfl

theorem positionerReset_motionOk (p : Positioner) : (positionerReset p).motionOk := by
  simp [Positioner.motionOk, positionerReset, motionTimersStopped]

theorem flyInv_steps : KeptSteps (State.flyInvOn fun _ => True) where
  toKeptEvents := flyInv_events
  cycle h := { h with }
  instant h := { h with }
  raise h _ := { h with }
  fieldSlot _ _ _ := .inl (flyInvOn_slotsFree _)
  freeLoose h _ _ := { h with }
  fillLoose h _ _ := { h with }
  dropSlots := flyInv_low.dropSlots
  beginBurst h _ := h.of_blocks (by simp) (by simp) (State.beginBurst_permitWaiting _)
  burstEnd {s ws} h := by
    unfold takeBurstEnd
    split
    · exact h
    · exact h.of_blocks (by simp) (by simp) (by simp [State.storeWords])
  started h _ := { h with }
  unstalled h _ := { h with }
  draining h _ _ := { h with }
  lowSupply h ha := flyInv_low.takeSupplyLow flyInv_events h ha
  resetDone {s} h hends := by
    refine .of_off (fun b => ?_) rfl
    have hl := State.resetEnds_not_loaded hends b
    cases b <;> exact ⟨hl, positionerReset_motionOk _⟩
  busReset h := .of_off (fun b => by cases b <;> exact ⟨rfl, nofun⟩) rfl

/-- Settles O11: a spindle leaves LOCKED and DRIFTING for STOPPING alone, which retracts the heads. -/
theorem stepKeepsTheFlyingLaw : Obligations.StepKeepsTheFlyingLaw := by
  unfold Obligations.StepKeepsTheFlyingLaw
  simp only [flyInv_iff]
  exact fun s t h ht => flyInv_steps.step (fun h => { h with }) h ht

end Sys2Proof.Machine

/-!
PROOFS. The write gate and the Eject solenoids at the end of every step (R98, R13): O13. Every step ends an
instant, and the interlocks at its end drop what does not hold, whatever the state.
-/

namespace Sys2Proof.Machine

variable {s t : State} {b : Bay}

/-! ### What the two laws speak of -/

theorem State.gateHolds_iff : s.gateHolds b = true ↔ ∃ r, s.channelRun b = some r ∧
    s.gateAllowed b r.cylinder = true := by
  simp only [State.gateHolds, Option.any_eq_true]

/-- The blocks that the law of the write gate speaks of. -/
theorem State.gateLaw.congr (h : s.gateLaw) (hc : t.channel = s.channel) (hs : t.supply = s.supply)
    (hb : ∀ c, (t.bay c).state = (s.bay c).state ∧ (t.bay c).writeProtect = (s.bay c).writeProtect)
    (hq : t.spindles = s.spindles) (hp : t.positioners = s.positioners) (hm : t.maps = s.maps)
    (he : t.entries = s.entries) : t.gateLaw := by
  have hrun (c : Bay) : t.channelRun c = s.channelRun c := by
    have hclient : t.client? c = s.client? c := by
      unfold State.client? State.map
      rw [hm, he]
    have hof : t.clientRun? c = s.clientRun? c := by
      funext g
      cases g <;> simp only [State.clientRun?, State.entry?, he]
    simp only [State.channelRun, hclient, hof]
  intro hg
  obtain ⟨hlow, b, hgrant, hstate, hphase, hact, hwp, r, hr, hcyl⟩ := h (hc ▸ hg)
  refine ⟨hs ▸ hlow, b, hc ▸ hgrant, (hb b).1.trans hstate, ?_, ?_, (congrArg _ (hb b).2).trans hwp, r,
    (hrun b).trans hr, ?_⟩
  · simpa only [State.spindle, hq] using hphase
  · simpa only [State.positioner, hp] using hact
  · simpa only [State.positioner, hp] using hcyl

/-- The blocks that the law of an Eject solenoid speaks of. -/
theorem State.ejectAllowed_congr (hc : t.channel = s.channel) (hq : t.spindles = s.spindles)
    (hb : (t.bay b).parkDetect = (s.bay b).parkDetect ∧ (t.bay b).lock = (s.bay b).lock) :
    t.ejectAllowed b = s.ejectAllowed b := by
  simp only [State.ejectAllowed, State.writingTo, State.spindle, hc, hq, hb]

/-! ### The interlocks -/

/-- R98: a gate that its conditions do not hold is dropped. -/
theorem State.gateInterlocked_gateLaw (s : State) : s.gateInterlocked.gateLaw := by
  unfold State.gateInterlocked
  split
  next hg =>
    split
    next b hgrant =>
      split
      next hh =>
        obtain ⟨r, hr, ha⟩ := State.gateHolds_iff.mp hh
        simp only [State.gateAllowed, Bool.and_eq_true, beq_iff_eq, Bool.not_eq_true'] at ha
        obtain ⟨⟨⟨⟨⟨⟨-, hstate⟩, hphase⟩, hact⟩, hcyl⟩, hwp⟩, hlow⟩ := ha
        exact fun _ => ⟨hlow, b, hgrant, hstate, hphase, hact, hwp, r, hr, hcyl⟩
      · rw [State.loseChannel, if_pos hgrant]
        exact nofun
    · exact nofun
  next hg => exact fun hg' => absurd hg' hg

theorem State.ejectInterlocked_bay (s : State) (b c : Bay) :
    ((s.ejectInterlocked b).bay c).state = (s.bay c).state ∧
      ((s.ejectInterlocked b).bay c).writeProtect = (s.bay c).writeProtect ∧
      ((s.ejectInterlocked b).bay c).parkDetect = (s.bay c).parkDetect ∧
      ((s.ejectInterlocked b).bay c).lock = (s.bay c).lock := by
  unfold State.ejectInterlocked
  split
  · simp only [State.bay_modBay]
    split <;> simp [solenoidOff]
  · simp

@[simp] theorem State.ejectInterlocked_frame (s : State) (b : Bay) :
    (s.ejectInterlocked b).channel = s.channel ∧ (s.ejectInterlocked b).supply = s.supply ∧
      (s.ejectInterlocked b).spindles = s.spindles ∧ (s.ejectInterlocked b).positioners = s.positioners ∧
      (s.ejectInterlocked b).maps = s.maps ∧ (s.ejectInterlocked b).entries = s.entries := by
  unfold State.ejectInterlocked
  split <;> simp

theorem State.gateLaw.ejectInterlocked (h : s.gateLaw) : (s.ejectInterlocked b).gateLaw :=
  h.congr (by simp) (by simp) (fun c => ⟨(s.ejectInterlocked_bay b c).1, (s.ejectInterlocked_bay b c).2.1⟩)
    (by simp) (by simp) (by simp) (by simp)

theorem State.ejectInterlocked_ejectAllowed (s : State) (b c : Bay) :
    (s.ejectInterlocked b).ejectAllowed c = s.ejectAllowed c := by
  obtain ⟨-, -, hpark, hlock⟩ := s.ejectInterlocked_bay b c
  exact State.ejectAllowed_congr (by simp) (by simp) ⟨hpark, hlock⟩

/-- R13: a solenoid whose conditions do not hold is de-energized, and none is energized. -/
theorem State.ejectInterlocked_eject (s : State) (b c : Bay)
    (h : ((s.ejectInterlocked b).bay c).eject = true) :
    (s.bay c).eject = true ∧ (c = b → s.ejectAllowed c = true) := by
  unfold State.ejectInterlocked at h
  split at h
  · simp only [State.bay_modBay] at h
    split at h
    · simp [solenoidOff] at h
    next hne => exact ⟨h, fun e => absurd e hne⟩
  next hn =>
    refine ⟨h, ?_⟩
    rintro rfl
    simpa [h] using hn

theorem State.interlocked_laws (s : State) : s.interlocked.gateLaw ∧ s.interlocked.ejectLaw := by
  refine ⟨s.gateInterlocked_gateLaw.ejectInterlocked.ejectInterlocked, fun b hb => ?_⟩
  obtain ⟨hb, h1⟩ := State.ejectInterlocked_eject _ _ _ hb
  obtain ⟨-, h0⟩ := State.ejectInterlocked_eject _ _ _ hb
  simp only [State.interlocked, State.ejectInterlocked_ejectAllowed] at h1 ⊢
  cases b
  · exact h0 rfl
  · exact h1 rfl

/-- The end of an instant, from any state. -/
theorem State.closed_laws (s : State) : s.closed.gateLaw ∧ s.closed.ejectLaw := by
  obtain ⟨hgate, heject⟩ := s.interlocked_laws
  have hbay (b : Bay) : ∃ holds, s.closed.bay b = idleUpdated holds (s.interlocked.bay b) := by
    cases b <;> exact ⟨_, rfl⟩
  refine ⟨hgate.congr rfl rfl (fun b => ?_) rfl rfl rfl rfl, fun b hb => ?_⟩
  · obtain ⟨holds, h⟩ := hbay b
    rw [h]
    exact ⟨rfl, rfl⟩
  · obtain ⟨holds, h⟩ := hbay b
    rw [h] at hb
    have hallowed : s.closed.ejectAllowed b = s.interlocked.ejectAllowed b :=
      State.ejectAllowed_congr rfl rfl (by rw [h]; exact ⟨rfl, rfl⟩)
    exact hallowed.trans (heject b hb)

/-- Every step ends an instant. -/
theorem step_closed (h : step s = .next t) : ∃ u : State, t = u.closed := by
  unfold step at h
  split at h
  · cases h
    exact ⟨_, rfl⟩
  next c rest _ => cases c <;> cases h <;> exact ⟨_, rfl⟩

/-- Settles O13: every step ends with the interlocks. -/
theorem stepKeepsTheGateAndEjectLaws : Obligations.StepKeepsTheGateAndEjectLaws := by
  unfold Obligations.StepKeepsTheGateAndEjectLaws
  intro s t h
  obtain ⟨u, rfl⟩ := step_closed h
  exact u.closed_laws

end Sys2Proof.Machine

/-!
PROOFS. The counts, the names and the turns of the Task Queue under every step (R135, R138, R161 to R163): O12.
-/

namespace Sys2Proof.Machine

/-- R138: two tasks that name one bay, or of which one is part-wide. -/
def Entry.conflicts (o e : Entry) : Prop :=
  o.partWide = true ∨ e.partWide = true ∨ ∃ b, o.names b = true ∧ e.names b = true

/-- What of an entry the law of the Task Queue speaks of. -/
def Entry.place (e : Entry) : Nat × TaskBlock × EntryState := (e.id, e.block, e.state)

theorem Entry.conflicts_of_blocks {o e o' e' : Entry} (ho : o'.block = o.block) (he : e'.block = e.block) :
    o'.conflicts e' ↔ o.conflicts e := by
  simp only [Entry.conflicts, Entry.partWide, Entry.kind, Entry.names, ho, he]

theorem mem_unique {s : State} (hn : (s.entries.map Entry.id).Nodup) {e f : Entry} (he : e ∈ s.entries)
    (hf : f ∈ s.entries) (hid : e.id = f.id) : e = f :=
  List.inj_on_of_nodup_map hn he hf hid

/-- An entry with a name of its own parts the queue into the older and the younger tasks. -/
theorem entries_split {l : List Entry} {e : Entry} (hn : (l.map Entry.id).Nodup) (he : e ∈ l) :
    ∃ l₁ l₂, l = l₁ ++ e :: l₂ ∧ (∀ o ∈ l₁, o.id ≠ e.id) ∧ ∀ o ∈ l₂, o.id ≠ e.id := by
  obtain ⟨l₁, l₂, rfl⟩ := List.append_of_mem he
  rw [List.map_append, List.map_cons, List.nodup_append, List.nodup_cons] at hn
  obtain ⟨-, ⟨hnot₂, -⟩, hnot₁⟩ := hn
  exact ⟨l₁, l₂, rfl, fun o ho hi => hnot₁ _ (List.mem_map_of_mem ho) _ (by simp) hi,
    fun o ho hi => hnot₂ (hi ▸ List.mem_map_of_mem ho)⟩

/-- One entry fewer where the entry of a name leaves. -/
theorem length_without {l : List Entry} {e : Entry} (hn : (l.map Entry.id).Nodup) (he : e ∈ l) :
    (l.filter fun x => x.id != e.id).length + 1 = l.length := by
  obtain ⟨l₁, l₂, rfl, h₁, h₂⟩ := entries_split hn he
  rw [List.filter_append, List.filter_cons_of_neg (by simp),
    List.filter_eq_self.mpr (by simpa using h₁), List.filter_eq_self.mpr (by simpa using h₂)]
  simp
  omega

namespace State.queueLaw

variable {s t : State} {b : Bay}

/-- The blocks that the law speaks of: the burst by its work. -/
theorem of_blocks (h : s.queueLaw) (he : t.entries = s.entries) (hf : t.finishing = s.finishing)
    (hn : t.nextId = s.nextId) (hc : t.counts = s.counts)
    (hl : t.link.state = s.link.state ∧ t.link.haltedFrom = s.link.haltedFrom ∧ t.link.fetch = s.link.fetch)
    (hb : t.burst.map Burst.work = s.burst.map Burst.work) : t.queueLaw := by
  obtain ⟨hstate, hfrom, hfetch⟩ := hl
  obtain ⟨count, names, finishing, taking, burst, offline, halted, turns⟩ := h
  refine ⟨?_, ?_, ?_, ?_, fun x hx f hf' => ?_, ?_, ?_, ?_⟩
  · simpa only [State.countLaw, hc, he] using count
  · simpa only [he, hn] using names
  · simpa only [he, hf] using finishing
  · simpa only [he, hfetch] using taking
  · obtain ⟨y, hy, hwork⟩ := Option.map_eq_some_iff.mp (hb ▸ (by simp [hx]) : s.burst.map Burst.work = some x.work)
    exact hfetch.trans (burst y hy f (hwork ▸ hf'))
  · simpa only [he, hstate, hfetch] using offline
  · simpa only [hstate, hfrom] using halted
  · simpa only [he] using turns

/-- A change of the entries that leaves their names, blocks and states. -/
theorem setEntries {f : Entry → Entry} (h : s.queueLaw) (hf : ∀ e, (f e).place = e.place) :
    { s with entries := s.entries.map f }.queueLaw := by
  have hid (e : Entry) : (f e).id = e.id := congrArg Prod.fst (hf e)
  have hblock (e : Entry) : (f e).block = e.block := congrArg (·.2.1) (hf e)
  have hstate (e : Entry) : (f e).state = e.state := congrArg (·.2.2) (hf e)
  obtain ⟨count, names, finishing, taking, burst, offline, halted, turns⟩ := h
  refine ⟨?_, ⟨?_, ?_⟩, ⟨finishing.1, fun id hm => ?_⟩, ?_, burst, ?_, halted, ?_⟩
  · simpa [State.countLaw] using count
  · simpa [Function.comp_def, hid] using names.1
  · simpa [hid] using names.2
  · obtain ⟨e, he, hi, hs⟩ := finishing.2 id hm
    exact ⟨f e, List.mem_map_of_mem he, (hid e).trans hi, (hstate e).trans hs⟩
  · simpa using taking
  · simpa using offline
  · refine List.pairwise_map.mpr (turns.imp fun {o e} hoe ha hc => ?_)
    rw [hstate] at ha ⊢
    exact hoe ha ((Entry.conflicts_of_blocks (hblock o) (hblock e)).mp hc)

/-- An entry that has not been handed over takes another state: where it becomes ACTIVE, the older tasks that it
conflicts with have been handed over. -/
theorem moveEntry {e : Entry} {x : EntryState} (h : s.queueLaw) (he : e ∈ s.entries)
    (hs : e.state ≠ .finishing)
    (hturn : x = .active → ∀ o ∈ s.olderThan e.id, o.conflicts e → o.state = .finishing) :
    (s.modEntry e.id fun f => { f with state := x }).queueLaw := by
  obtain ⟨count, names, finishing, taking, burst, offline, halted, turns⟩ := h
  obtain ⟨l₁, l₂, hl, hid₁, hid₂⟩ := entries_split names.1 he
  have holder : s.olderThan e.id = l₁ := by
    rw [State.olderThan, hl, List.takeWhile_append_of_pos (by simpa using hid₁)]
    simp
  have hmap : (s.modEntry e.id fun f => { f with state := x }).entries = l₁ ++ { e with state := x } :: l₂ := by
    rw [State.modEntry_entries, hl, List.map_append, List.map_cons]
    congr 1
    · exact (List.map_congr_left fun o ho => if_neg (hid₁ o ho)).trans (List.map_id _)
    · refine congrArg₂ _ (if_pos rfl) ?_
      exact (List.map_congr_left fun o ho => if_neg (hid₂ o ho)).trans (List.map_id _)
  have hlen : (s.modEntry e.id fun f => { f with state := x }).entries.length = s.entries.length := by simp
  refine ⟨?_, ⟨?_, ?_⟩, ⟨finishing.1, fun id hm => ?_⟩, ?_, burst, ?_, halted, ?_⟩
  · simpa [State.countLaw] using count
  · have hids : (s.modEntry e.id fun f => { f with state := x }).entries.map Entry.id = s.entries.map Entry.id := by
      rw [hmap, hl]
      simp
    exact hids ▸ names.1
  · intro f hf
    rw [hmap] at hf
    have hall := names.2
    rw [hl] at hall
    simp only [List.mem_append, List.mem_cons] at hf hall
    rcases hf with hf | rfl | hf
    · exact hall f (.inl hf)
    · exact hall e (.inr (.inl rfl))
    · exact hall f (.inr (.inr hf))
  · obtain ⟨f, hf, hi, hfin⟩ := finishing.2 id hm
    have hne : f.id ≠ e.id := fun hid => hs (mem_unique names.1 hf he hid ▸ hfin)
    refine ⟨f, ?_, hi, hfin⟩
    rw [State.modEntry_entries]
    exact List.mem_map.mpr ⟨f, hf, if_neg hne⟩
  · exact fun ht => hlen ▸ taking ht
  · intro ho
    obtain ⟨hempty, -⟩ := offline ho
    rw [hempty] at he
    cases he
  · rw [hmap]
    rw [hl] at turns
    obtain ⟨h₁, h₂, hcross⟩ := List.pairwise_append.mp turns
    obtain ⟨he₂, hrest⟩ := List.pairwise_cons.mp h₂
    refine List.pairwise_append.mpr ⟨h₁, List.pairwise_cons.mpr ⟨fun f hf ha hc => ?_, hrest⟩, ?_⟩
    · exact absurd (he₂ f hf ha hc) hs
    · intro o ho f hf
      rcases List.mem_cons.mp hf with rfl | hf
      · exact fun ha hc => hturn ha o (holder ▸ ho) hc
      · exact hcross o ho f (List.mem_cons_of_mem _ hf)

end State.queueLaw

theorem State.dropSlots_burstWork (s : State) (p : Nat → Slot → Bool) :
    (s.dropSlots p).burst.map Burst.work = s.burst.map Burst.work := by
  refine State.foldl_field (fun s => s.burst.map Burst.work) _ (fun s i => ?_) _ _
  unfold State.dropSlot
  split
  · cases s.burst <;> rfl
  · simp

/-- What the drop of a set of slots leaves of the queue and the Link Port. -/
theorem State.dropSlots_queue (s : State) (p : Nat → Slot → Bool) :
    (s.dropSlots p).finishing = s.finishing ∧ (s.dropSlots p).nextId = s.nextId ∧
      (s.dropSlots p).counts = s.counts ∧ (s.dropSlots p).link = s.link := by
  have hdrop (s : State) (i : Nat) : (s.dropSlot i).finishing = s.finishing ∧
      (s.dropSlot i).nextId = s.nextId ∧ (s.dropSlot i).counts = s.counts ∧ (s.dropSlot i).link = s.link := by
    unfold State.dropSlot
    split <;> simp [State.freeSlot]
  exact ⟨State.foldl_field (fun s => s.finishing) _ (fun s i => (hdrop s i).1) _ _,
    State.foldl_field (fun s => s.nextId) _ (fun s i => (hdrop s i).2.1) _ _,
    State.foldl_field (fun s => s.counts) _ (fun s i => (hdrop s i).2.2.1) _ _,
    State.foldl_field (fun s => s.link) _ (fun s i => (hdrop s i).2.2.2) _ _⟩

theorem State.queueLaw.dropSlots {s : State} (h : s.queueLaw) (p : Nat → Slot → Bool) :
    (s.dropSlots p).queueLaw := by
  obtain ⟨hf, hn, hc, hl⟩ := s.dropSlots_queue p
  exact h.of_blocks (by simp) hf hn hc (by simp [hl]) (s.dropSlots_burstWork p)

theorem queueLaw_slotsFree : SlotsFree State.queueLaw where
  slots h _ := { h with }
  channel h _ := { h with }
  marked {s} h := h.of_blocks rfl rfl rfl rfl ⟨rfl, rfl, rfl⟩ (by cases s.burst <;> rfl)

theorem queueLaw_keptBase : KeptBase State.queueLaw where
  bay h _ := { h with }
  spindle h _ := { h with }
  positioner h _ _ := { h with }
  map h _ _ := { h with }
  channel h _ := { h with }
  entries h step := h.setEntries fun e => by simp [Entry.place, (step e).id, (step e).block, (step e).state]
  link h step := h.of_blocks rfl rfl rfl rfl ⟨step.state, step.haltedFrom, step.fetch⟩ rfl
  waiters h := { h with }
  medium h := { h with }
  dma h := { h with }
  loseChannel h := queueLaw_slotsFree.loseChannel (fun h => { h with }) h
  freeMountSlots h _ := h.dropSlots _
  letGo h := h.dropSlots _
  takeSlot h _ _ := { h with }
  slots h _ := { h with }

/-! ### The waits of the Task Queue and the Link Port -/

/-- R138: the older tasks that a task whose turn has come conflicts with have been handed over. -/
theorem State.turnCome_finishing {s : State} {e o : Entry} (h : s.turnCome e = true)
    (ho : o ∈ s.olderThan e.id) (hc : o.conflicts e) : o.state = .finishing := by
  by_contra hs
  have hun : o.unfinished = true := by simpa [Entry.unfinished] using hs
  simp only [State.turnCome, Bool.and_eq_true] at h
  obtain ⟨⟨hbay, -⟩, hwide⟩ := h
  have hbay := List.all_eq_true.mp hbay o ho
  have hwide := List.all_eq_true.mp hwide o ho
  simp only [hun, Bool.not_true, Bool.false_or, Bool.and_eq_true, Bool.not_eq_true'] at hwide
  simp only [hun, Bool.not_true, Bool.false_or, List.all_eq_true, Bool.not_eq_true'] at hbay
  rcases hc with hc | hc | ⟨b, hob, heb⟩
  · simp [hc] at hwide
  · simp [hc] at hwide
  · simpa [hob] using hbay b (by simpa [Entry.names] using heb)

/-- The chain walk at rest, with no burst of a take in progress. -/
theorem State.queueLaw.fetchIdle {s : State} (h : s.queueLaw) (hstands : s.takeStands = false) (x : Burst)
    (hx : s.burst = some x) (f : Fetch) (hf : x.work.takeStep = some f) : False := by
  have hfetch := h.burst x hx f hf
  unfold State.takeStands at hstands
  rw [hfetch, hx] at hstands
  cases hw : x.work with
  | readBlock a =>
    rw [hw] at hf
    cases hf
    simp [hw] at hstands
  | stamp a t =>
    rw [hw] at hf
    cases hf
    simp at hstands
  | writeCursor =>
    rw [hw] at hf
    cases hf
    simp at hstands
  | _ => simp [hw, BurstWork.takeStep] at hf

theorem queueLaw_leave {s t : State} (h : s.queueLaw) (ht : leaveHalted s = some t) : t.queueLaw := by
  unfold leaveHalted at ht
  split_ifs at ht with hs
  cases ht
  have hfrom := h.halted hs.1
  have hback : (if s.link.offlineHeld then LinkState.draining else s.link.haltedFrom) ≠ .offline := by
    split
    · nofun
    · exact hfrom
  exact { h with
    offline := fun ho => absurd ho hback
    halted := fun _ => hfrom }

theorem queueLaw_offline {s t : State} (h : s.queueLaw) (ht : goOfflineNow s = some t) : t.queueLaw := by
  unfold goOfflineNow at ht
  split_ifs at ht with hs
  obtain ⟨-, hempty, hstands⟩ := hs
  cases ht
  exact { h with
    taking := nofun
    burst := fun x hx f hf => (h.fetchIdle (by simpa using hstands) x hx f hf).elim
    offline := fun _ => ⟨hempty, rfl⟩
    halted := nofun }

theorem queueLaw_withdraw {s t : State} (h : s.queueLaw) (ht : withdrawFetch s = some t) : t.queueLaw := by
  unfold withdrawFetch at ht
  split_ifs at ht with hs
  have hstands : s.takeStands = false := by simpa using (not_or.mp hs).2
  have hkept : (s.modLink fun l => { l with fetch := .idle }).queueLaw := { h with
    taking := nofun
    burst := fun x hx f hf => (h.fetchIdle hstands x hx f hf).elim
    offline := fun ho => ⟨(h.offline ho).1, rfl⟩ }
  split at ht <;> cases ht <;> exact hkept

theorem queueLaw_fetch {s t : State} (h : s.queueLaw) (ht : beginFetch s = some t) : t.queueLaw := by
  unfold beginFetch at ht
  split_ifs at ht with hfree hskew hroom
  all_goals
    cases ht
    simp only [State.fetcherFree, State.mayFetch, Bool.and_eq_true, beq_iff_eq, Bool.not_eq_true'] at hfree
    obtain ⟨⟨⟨⟨⟨⟨hrun, -⟩, hidle⟩, -⟩, -⟩, -⟩, hbusy⟩ := hfree
    have hoff : s.link.state ≠ .offline := by simp [hrun]
    have hburst (x : Burst) (hx : s.burst = some x) (f : Fetch) (hf : x.work.takeStep = some f) : False := by
      simp only [State.fetcherBusy, hx, Option.any_some] at hbusy
      split at hbusy <;> simp_all [BurstWork.takeStep]
  · exact { h with
      taking := nofun
      burst := fun x hx f hf => (hburst x hx f hf).elim
      offline := fun ho => absurd ho hoff }
  · exact { h with
      taking := fun _ => hroom.2.2
      burst := fun x hx f hf => (hburst x hx f hf).elim
      offline := fun ho => absurd ho hoff }

/-- R136: a hand-over of an entry to the finisher. -/
theorem queueLaw_finish {s : State} {e : Entry} (h : s.queueLaw) (he : e ∈ s.entries)
    (hs : e.state ≠ .finishing) :
    { s.modEntry e.id fun f => { f with state := .finishing } with
      finishing := s.finishing ++ [e.id] }.queueLaw := by
  have hmoved := h.moveEntry (x := .finishing) he hs nofun
  have hnew : e.id ∉ s.finishing := fun hm => by
    obtain ⟨f, hf, hid, hfin⟩ := h.finishing.2 e.id hm
    exact hs (mem_unique h.names.1 hf he hid ▸ hfin)
  refine { hmoved with finishing := ⟨?_, fun id hm => ?_⟩ }
  · exact List.nodup_append.mpr ⟨h.finishing.1, by simp, fun x hx y hy => by
      rintro rfl
      exact hnew (List.mem_singleton.mp hy ▸ hx)⟩
  · rcases List.mem_append.mp hm with hm | hm
    · exact hmoved.finishing.2 id hm
    · refine ⟨{ e with state := .finishing }, ?_, (List.mem_singleton.mp hm).symm, rfl⟩
      exact List.mem_map.mpr ⟨e, he, if_pos rfl⟩

namespace State.queueLaw

variable {s : State} {b : Bay}

theorem modSpindle {f : Spindle → Spindle} (h : s.queueLaw) : (s.modSpindle b f).queueLaw :=
  queueLaw_keptBase.report (s := { s with spindles := s.spindles.update b f }) { h with }

theorem modBay {f : BayControl → BayControl} (h : s.queueLaw) : (s.modBay b f).queueLaw :=
  queueLaw_keptBase.report (s := { s with bays := s.bays.update b f }) { h with }

theorem grantPermit (h : s.queueLaw) : (s.grantPermit b).queueLaw :=
  modSpindle (s := { s with permitHolder := some b }) { h with }

theorem releasePermit (h : s.queueLaw) : (s.releasePermit b).queueLaw := by
  unfold State.releasePermit
  repeat' split
  · exact grantPermit (s := { s with permitHolder := none, permitWaiting := none }) { h with }
  · exact { h with }
  · exact h

end State.queueLaw

theorem queueLaw_kept : Kept State.queueLaw where
  toKeptBase := queueLaw_keptBase
  requestPermit {s b} h _ := by
    unfold State.requestPermit
    split
    · exact h.modSpindle.grantPermit
    · exact { h.modSpindle (b := b) (f := fun q => { q with phase := .pending }) with }
  leavePending {s b} h _ := by
    unfold State.leavePending
    split
    · exact State.queueLaw.modSpindle (s := { s with permitWaiting := none }) { h with }
    · exact h.modSpindle
  enterStopping {s b} h _ :=
    have k := queueLaw_keptBase
    k.dropLoad (k.emergencyRetract (k.loseChannel h.modSpindle.releasePermit))
  activate h he hs hturn := h.moveEntry he (by rcases hs with hs | hs <;> simp [hs]) fun _ o ho hc =>
    State.turnCome_finishing hturn ho hc
  await h he hs := h.moveEntry he (by simp [hs]) nofun
  finish h he hs := queueLaw_finish h he hs
  sense h ht := by
    unfold restartSensing at ht
    split_ifs at ht
    cases ht
    exact h.modBay
  leave := queueLaw_leave
  offline := queueLaw_offline
  withdraw := queueLaw_withdraw
  fetch := queueLaw_fetch

theorem queueLaw_events : KeptEvents State.queueLaw where
  toKept := queueLaw_kept
  stopped h _ := h.modSpindle
  flies _ _ := .inl fun h _ => { h with }
  pins h := { h with }
  ports h := { h with }
  supply h := { h with }
  reset h := { h with }
  input h _ := { h with }
  head h _ := { h with }
  spun h _ _ := { h with }
  tickLink h hl := h.of_blocks rfl rfl rfl rfl hl rfl
  mark h := h.modSpindle
  lock h _ := h.modSpindle.releasePermit
  drift h _ := h.modSpindle
  permitMet {_ s} _ h _ := State.queueLaw.grantPermit (State.queueLaw.modSpindle
    (s := { s with permitWaiting := some .bay1 }) { h with })
  fill h _ _ _ _ _ := { h with }
  pour h _ _ _ := { h with }

/-! ### The bus -/

namespace State.queueLaw

variable {s : State}

/-- R131: a burst that a grant begins for the fetcher is the access that the chain walk shows. -/
theorem fetchWork_takeStep {w : BurstWork} {f : Fetch} (hw : s.fetchWork = some w)
    (hf : w.takeStep = some f) : s.link.fetch = f := by
  unfold State.fetchWork at hw
  split at hw
  · cases hw; cases hf
  · split at hw
    · cases hw; cases hf
    · split at hw
      next hfetch => cases hw; cases hf
      next a hfetch => cases hw; cases hf; exact hfetch
      next a t hfetch => cases hw; cases hf; exact hfetch
      next hfetch => cases hw; cases hf; exact hfetch
      next hfetch => cases hw; cases hf
      next f' hfetch => cases hw; cases hf
      next hfetch =>
        split at hw
        · cases hw; cases hf
        · split at hw <;> cases hw
          cases hf

theorem beginBurst (h : s.queueLaw) : s.beginBurst.queueLaw := by
  unfold State.beginBurst
  split
  · split
    · exact { h with burst := fun x hx f hf => by cases hx; cases hf }
    · exact h
  · split
    · exact { h with burst := fun x hx f hf => by cases hx; cases hf }
    · split
      · exact { h with burst := fun x hx f hf => by cases hx; cases hf }
      · split
        next w hw =>
          refine { h with burst := fun x hx f hf => ?_ }
          cases hx
          have hwork : (s.fetchBurst w).work = w := by
            unfold State.fetchBurst
            split <;> rfl
          exact fetchWork_takeStep (s := s) hw (hwork ▸ hf)
        · exact h

theorem freeSlot {i : Nat} (h : s.queueLaw) : (s.freeSlot i).queueLaw := queueLaw_slotsFree.modSlot h

theorem modEntry {id : Nat} {f : Entry → Entry} (h : s.queueLaw) (hf : ∀ e, (f e).place = e.place) :
    (s.modEntry id f).queueLaw :=
  h.setEntries fun e => by
    split
    · exact hf e
    · rfl

theorem decided_place (r : Result) (n : Nat) (e : Entry) : (decided r n e).place = e.place := by
  obtain ⟨hid, hblock, hstate, -⟩ := decided_step r n e
  simp [Entry.place, hid, hblock, hstate]

theorem takeSettingsRecord {id : Nat} {data : List Byte} (h : s.queueLaw) :
    (s.takeSettingsRecord id data).queueLaw := by
  unfold State.takeSettingsRecord
  extract_lets taken stored timed
  have hstored : stored.queueLaw := { h with }
  have htimed : timed.queueLaw := by
    unfold timed
    split
    · exact hstored
    · exact queueLaw_kept.restartIdle (queueLaw_kept.restartIdle hstored)
  exact htimed.modEntry (decided_place _ _)

theorem slotMoved {i : Nat} {x : Slot} (h : s.queueLaw) : (s.slotMoved i x).queueLaw := by
  unfold State.slotMoved
  split
  · exact h.freeSlot.modEntry fun _ => rfl
  · exact h.freeSlot.modEntry (decided_place _ _)
  · exact h.freeSlot.takeSettingsRecord
  · exact queueLaw_slotsFree.modSlot h

theorem endSlotBurst {i : Nat} {drop : Bool} {ws : List Word} (h : s.queueLaw) :
    (s.endSlotBurst i drop ws).queueLaw := by
  unfold State.endSlotBurst
  split
  · exact h
  · extract_lets placed moved stored
    have hstored : stored.queueLaw := queueLaw_slotsFree.modSlot h
    split_ifs
    · exact h.freeSlot
    · exact hstored
    · exact hstored.slotMoved

/-- R163: the third write of a finish takes its entry out of the queue. -/
theorem endFinish {step : Nat} (h : s.queueLaw) (hb : s.burst = none) : (s.endFinish step).queueLaw := by
  unfold State.endFinish
  split
  · exact { h with }
  · split
    · exact h
    next id rest hfin =>
      obtain ⟨count, names, finishing, taking, burst, offline, halted, turns⟩ := h
      rw [hfin] at finishing
      obtain ⟨hnodup, hwait⟩ := finishing
      obtain ⟨hnot, hrest⟩ := List.nodup_cons.mp hnodup
      obtain ⟨e, he, hid, -⟩ := hwait id (by simp)
      obtain ⟨hcount, hsize⟩ := count
      have hlen := length_without names.1 he
      rw [hid] at hlen
      have hsub : (s.entries.filter fun e => e.id != id).Sublist s.entries := List.filter_sublist
      refine ⟨⟨?_, ?_⟩, ⟨(hsub.map _).nodup names.1, fun f hf => names.2 f (hsub.subset hf)⟩,
        ⟨hrest, fun i hi => ?_⟩, fun ht => ?_, fun x hx => ?_, fun ho => ?_, halted, turns.sublist hsub⟩
      · simp only
        simp only [Config.queueSize] at hsize
        bv_omega
      · exact (hsub.length_le).trans hsize
      · obtain ⟨f, hf, hfid, hst⟩ := hwait i (List.mem_cons_of_mem _ hi)
        refine ⟨f, List.mem_filter.mpr ⟨hf, ?_⟩, hfid, hst⟩
        simp only [hfid, bne_iff_ne]
        rintro rfl
        exact hnot hi
      · exact (hsub.length_le).trans_lt (taking ht)
      · simp [hb] at hx
      · obtain ⟨hempty, hidle⟩ := offline ho
        exact ⟨by simp [hempty], hidle⟩

/-- R162: the block joins the queue, which has a place for it. -/
theorem joinQueue {a : Nat} {t : TaskBlock} (h : s.queueLaw) (hb : s.burst = none)
    (hfetch : s.link.fetch = .stamp a t) : (s.joinQueue a t).queueLaw := by
  obtain ⟨count, names, finishing, taking, burst, offline, halted, turns⟩ := h
  have hroom := taking (by simp [hfetch, Fetch.taking])
  obtain ⟨hcount, hsize⟩ := count
  simp only [Config.queueSize] at hroom
  have hfresh : s.nextId ∉ s.entries.map Entry.id := fun hm => by
    obtain ⟨e, he, hid⟩ := List.mem_map.mp hm
    exact absurd (names.2 e he) (by omega)
  refine ⟨⟨?_, ?_⟩, ⟨?_, ?_⟩, ⟨finishing.1, fun i hi => ?_⟩, nofun, fun x hx => ?_, fun ho => ?_, halted, ?_⟩
  · simp only [State.joinQueue, List.length_append, List.length_singleton]
    bv_omega
  · simp only [State.joinQueue, List.length_append, List.length_singleton, Config.queueSize]
    omega
  · simp only [State.joinQueue, List.map_append, List.map_cons, List.map_nil]
    exact List.nodup_append.mpr ⟨names.1, by simp, fun x hx y hy => by
      rintro rfl
      exact hfresh ((List.mem_singleton.mp hy : x = s.nextId) ▸ hx)⟩
  · intro e he
    rcases List.mem_append.mp he with he | he
    · exact (names.2 e he).trans (Nat.lt_succ_self _)
    · rw [List.mem_singleton.mp he]
      exact Nat.lt_succ_self _
  · obtain ⟨e, he, hid, hst⟩ := finishing.2 i hi
    exact ⟨e, List.mem_append_left _ he, hid, hst⟩
  · exact absurd hx (by simp [State.joinQueue, hb])
  · obtain ⟨-, hidle⟩ := offline ho
    simp [hidle] at hfetch
  · refine List.pairwise_append.mpr ⟨turns, by simp, fun o _ e he ha => ?_⟩
    rw [List.mem_singleton.mp he] at ha
    cases ha

/-- The chain walk goes on with no burst in progress. -/
theorem setFetch {f : Fetch} (h : s.queueLaw) (hb : s.burst = none) (hwalk : s.link.fetch ≠ .idle)
    (hroom : f.taking = true → s.link.fetch.taking = true) :
    (s.modLink fun l => { l with fetch := f }).queueLaw := { h with
  taking := fun ht => h.taking (hroom ht)
  burst := fun x hx => by simp [hb] at hx
  offline := fun ho => absurd (h.offline ho).2 hwalk }

theorem endBurst {w : BurstWork} {drop : Bool} {ws : List Word} (h : s.queueLaw) (hb : s.burst = none)
    (hw : ∀ f, w.takeStep = some f → s.link.fetch = f) : (s.endBurst w drop ws).queueLaw := by
  unfold State.endBurst
  split
  · exact h.endSlotBurst
  · exact h.endFinish hb
  · split
    · exact { h with }
    · exact h
  · exact h
  · exact h
  · unfold State.endReread
    split
    · exact h
    · exact h.of_blocks rfl rfl rfl rfl ⟨rfl, rfl, rfl⟩ rfl
  · unfold State.endPoll
    split
    · exact h
    · exact { h with }
  · unfold State.modLink
    beta_reduce
    split
    next hfetch => exact h.setFetch hb (by simp [hfetch]) fun _ => by simp [hfetch, Fetch.taking]
    · exact h
  · have hfetch := hw _ rfl
    exact h.setFetch hb (by simp [hfetch]) fun _ => by simp [hfetch, Fetch.taking]
  · exact h.joinQueue hb (hw _ rfl)
  · have hfetch := hw _ rfl
    exact h.setFetch hb (by simp [hfetch]) nofun
  · exact { h with
      taking := nofun
      burst := fun x hx => by simp [hb] at hx
      offline := fun ho => ⟨(h.offline ho).1, rfl⟩ }
  · have hstate (ho : (if s.link.state = .running then .stalled else s.link.state) = .offline) :
        s.link.state = .offline := by split_ifs at ho; exact ho
    exact { h with
      taking := nofun
      burst := fun x hx => by simp [State.endFaultWrite, hb] at hx
      offline := fun ho => ⟨(h.offline (hstate ho)).1, rfl⟩
      halted := fun ho => h.halted (by
        simp only [State.endFaultWrite] at ho
        split_ifs at ho
        exact ho) }

theorem takeBurstEnd {ws : Vector Word 16} (h : s.queueLaw) : (takeBurstEnd ws s).queueLaw := by
  unfold Machine.takeBurstEnd
  split
  · exact h
  next x hx =>
    have hended : ({ s with burst := none }.storeWords x).queueLaw := { h with burst := nofun }
    exact hended.endBurst rfl (h.burst x hx)

/-- A link set to another state that is neither OFFLINE nor HALTED. -/
theorem setLink {l : Link} {c : Counts} (h : s.queueLaw) (hf : l.fetch = s.link.fetch) (ho : l.state ≠ .offline)
    (hh : l.state = .halted → l.haltedFrom ≠ .offline)
    (hc : c.taken - c.finished = s.counts.taken - s.counts.finished) :
    { s with link := l, counts := c }.queueLaw := { h with
  count := ⟨(congrArg BitVec.toNat hc).trans h.count.1, h.count.2⟩
  taking := fun ht => h.taking (hf ▸ ht)
  burst := fun x hx f hw => hf.trans (h.burst x hx f hw)
  offline := fun hs => absurd hs ho
  halted := hh }

end State.queueLaw

theorem queueLaw_low : KeptLow State.queueLaw where
  permits h := { h with }
  dropSlots h _ := h.dropSlots _
  spindle h _ _ _ := { h with }
  halted {s} h := by
    unfold linkHalted
    split
    next hr =>
      refine h.setLink (c := s.counts) rfl nofun (fun _ hf => ?_) rfl
      rw [show s.link.state = .offline from hf] at hr
      cases hr
    · exact h

/-- A machine with no task, its counts and its link at their reset values. -/
theorem State.queueLaw_of_empty {t : State} (he : t.entries = []) (hf : t.finishing = [])
    (hc : t.counts = .reset) (hl : t.link = .reset) (hb : t.burst = none) : t.queueLaw := by
  refine ⟨?_, ?_, ?_, ?_, ?_, ?_, ?_, ?_⟩ <;>
    simp [State.countLaw, he, hf, hc, hl, hb, Counts.reset, Link.reset, Config.queueSize]

theorem queueLaw_steps : KeptSteps State.queueLaw where
  toKeptEvents := queueLaw_events
  cycle h := { h with }
  instant h := { h with }
  raise h _ := { h with }
  fieldSlot _ _ _ := .inl queueLaw_slotsFree
  freeLoose h _ _ := h.freeSlot
  fillLoose h _ _ := queueLaw_slotsFree.modSlot h
  dropSlots := queueLaw_low.dropSlots
  beginBurst h _ := h.beginBurst
  burstEnd h := h.takeBurstEnd
  started {s} h ho := by
    have hempty := (h.offline ho).1
    have hcount := h.count.1
    rw [hempty] at hcount
    have hlink := h.setLink (l := s.started.link) (c := s.started.counts) rfl nofun nofun
      (BitVec.eq_of_toNat_eq (by simpa [State.started, State.raiseBoth] using hcount.symm))
    exact { hlink with }
  unstalled h _ := h.setLink rfl nofun nofun rfl
  draining {s} h _ _ := h.setLink (c := s.counts) rfl nofun nofun rfl
  lowSupply h ha := queueLaw_low.takeSupplyLow queueLaw_events h ha
  resetDone {s} _ hends := by
    simp only [State.resetEnds, Bool.and_eq_true] at hends
    obtain ⟨⟨⟨⟨⟨⟨-, hempty⟩, -⟩, -⟩, hburst⟩, -⟩, -⟩ := hends
    exact State.queueLaw_of_empty (List.isEmpty_iff.mp hempty) rfl rfl rfl (Option.isNone_iff_eq_none.mp hburst)
  busReset _ := State.queueLaw_of_empty rfl rfl rfl rfl rfl

/-- Settles O12: an entry is raised to ACTIVE at its turn alone, and joins and leaves with its count. -/
theorem stepKeepsTheQueueLaw : Obligations.StepKeepsTheQueueLaw := by
  unfold Obligations.StepKeepsTheQueueLaw
  exact fun s t h ht => queueLaw_steps.step (fun h => { h with }) h ht

end Sys2Proof.Machine

/-!
PROOFS. The Sector Buffer Pool, the channel's slot and the burst's slot under every step (R119, R120, R129): O14.
-/

namespace Sys2Proof.Machine

/-! ### The slots and the burst -/

theorem countP_modify_le {α : Type} {p : α → Bool} {f : α → α} {l : List α} {i : Nat}
    (hf : ∀ x, l[i]? = some x → p (f x) = true → p x = true) : (l.modify i f).countP p ≤ l.countP p := by
  induction l generalizing i with
  | nil => simp
  | cons x xs ih =>
    cases i with
    | zero =>
      have hx := hf x rfl
      simp only [List.modify_zero_cons, List.countP_cons]
      split_ifs <;> simp_all
    | succ i =>
      have hle := ih (i := i) fun y hy => hf y (by simpa using hy)
      simp only [List.modify_succ_cons, List.countP_cons]
      omega

theorem countP_modify_le_succ {α : Type} {p : α → Bool} {f : α → α} {l : List α} {i : Nat} :
    (l.modify i f).countP p ≤ l.countP p + 1 := by
  induction l generalizing i with
  | nil => simp
  | cons x xs ih =>
    cases i with
    | zero =>
      simp only [List.modify_zero_cons, List.countP_cons]
      split_ifs <;> omega
    | succ i =>
      simp only [List.modify_succ_cons, List.countP_cons]
      have := ih (i := i)
      omega

theorem mem_modify {α : Type} {f : α → α} {l : List α} {i : Nat} {x : α} (h : x ∈ l.modify i f) :
    x ∈ l ∨ ∃ y, l[i]? = some y ∧ x = f y := by
  obtain ⟨j, hj⟩ := List.mem_iff_getElem?.mp h
  rw [List.getElem?_modify] at hj
  split at hj
  next hij =>
    obtain ⟨y, hy, rfl⟩ := Option.map_eq_some_iff.mp hj
    exact .inr ⟨y, hij ▸ hy, rfl⟩
  · exact .inl (List.mem_iff_getElem?.mpr ⟨j, by simpa using hj⟩)

/-- The part of the law that the pool and the burst meet by themselves. -/
def State.poolLaw (s : State) : Prop :=
  s.slotLaw ∧ ∀ y i, s.burst = some y → y.work = .slot i →
    ∃ x, s.slots[i]? = some x ∧ slotRequests x = true

theorem State.burstOn_iff {s : State} {i : Nat} : s.burstOn i = true ↔ ∃ y, s.burst = some y ∧ y.work = .slot i := by
  simp [State.burstOn, Option.any_eq_true]

theorem slotRequests_eq_of_key {x y : Slot} (h : x.key = y.key) : slotRequests x = slotRequests y := by
  simp only [Slot.key, Prod.mk.injEq] at h
  obtain ⟨hstate, -, hpurpose⟩ := h
  unfold slotRequests
  rw [hstate, hpurpose]

theorem slotRequests_not_free {x : Slot} (h : slotRequests x = true) : x.state ≠ .free := by
  intro hf
  unfold slotRequests at h
  split at h <;> simp [hf] at h

/-- R129: a change of one slot under which it is FREE exactly without an owner, belongs to nobody new, and
requests its burst where one is in progress. -/
theorem State.poolLaw.modSlot {s : State} {i : Nat} {f : Slot → Slot} (h : s.poolLaw)
    (hfree : ∀ x, s.slots[i]? = some x → ((f x).state = .free ↔ (f x).owner = none))
    (hquota : ∀ x id, s.slots[i]? = some x → (f x).owner = some (.task id) →
      x.owner = some (.task id) ∨ s.slotsOf id < Config.slotQuota)
    (hburst : s.burstOn i = true → ∀ x, s.slots[i]? = some x → slotRequests x = true →
      slotRequests (f x) = true) : (s.modSlot i f).poolLaw := by
  obtain ⟨⟨hlen, hown, hcount⟩, hreq⟩ := h
  refine ⟨⟨by simpa using hlen, fun x hx => ?_, fun id => ?_⟩, fun y j hy hw => ?_⟩
  · rcases mem_modify hx with hx | ⟨y, hy, rfl⟩
    · exact hown x hx
    · exact hfree y hy
  · by_cases hroom : s.slotsOf id < Config.slotQuota
    · exact countP_modify_le_succ.trans hroom
    · refine (countP_modify_le fun x hx hp => ?_).trans (hcount id)
      rcases hquota x id hx (by simpa using hp) with ho | hlt
      · simp [ho]
      · exact absurd hlt hroom
  · obtain ⟨x, hx, hr⟩ := hreq y j hy hw
    simp only [State.modSlot_slots, List.getElem?_modify, hx]
    split
    next hij =>
      subst hij
      exact ⟨f x, rfl, hburst (State.burstOn_iff.mpr ⟨y, hy, hw⟩) x hx hr⟩
    · exact ⟨x, rfl, hr⟩

theorem State.poolLaw.freeSlot {s : State} {i : Nat} (h : s.poolLaw) (hb : s.burstOn i = false) :
    (s.freeSlot i).poolLaw :=
  h.modSlot (fun _ _ => by simp [Slot.freed]) (fun _ _ _ ho => by cases ho) (by simp [hb])

namespace State.slotInv

variable {s t : State} {b : Bay} {i : Nat}

theorem pool (h : s.slotInv) : s.poolLaw := ⟨h.slots, h.burst⟩

theorem of_noSlot (h : s.poolLaw) (hc : s.channel.slot = none) : s.slotInv :=
  ⟨h.1, fun i hi => by simp [hc] at hi, fun i x b hi => by simp [hc] at hi, h.2⟩

/-- The slot of the field in progress, and what is on its way there or from there. -/
theorem channelSlot (h : s.slotInv) (hi : s.channel.slot = some i) :
    ∃ x, s.slots[i]? = some x ∧ x.state ≠ .free ∧ x.state ≠ .full ∧ slotRequests x = false ∧ x.owner ≠ none ∧
      (s.channel.search = .reading ∨ s.channel.search = .writing) := by
  obtain ⟨-, x, hx, hwork⟩ := h.channel i hi
  have hown := h.slots.2.1 x (List.mem_of_getElem? hx)
  have hstate : x.state ≠ .free := by
    rcases hwork with ⟨-, hst, -⟩ | ⟨-, hst, -⟩ <;> simp [hst]
  refine ⟨x, hx, hstate, ?_, ?_, fun ho => hstate (hown.mpr ho), ?_⟩
  · rcases hwork with ⟨-, hst, -⟩ | ⟨-, hst, -⟩ <;> simp [hst]
  · rcases hwork with ⟨-, hst, hp⟩ | ⟨-, hst, hp⟩ <;> simp only [List.mem_cons, List.not_mem_nil, or_false] at hp
    · rcases hp with hp | hp | hp | hp <;> simp [slotRequests, hst, hp]
    · rcases hp with hp | hp | hp <;> simp [slotRequests, hst, hp]
  · rcases hwork with ⟨hs, -⟩ | ⟨hs, -⟩ <;> simp [hs]

theorem burstOn_channelSlot (h : s.slotInv) (hi : s.channel.slot = some i) : s.burstOn i = false := by
  obtain ⟨x, hx, -, -, hreq, -⟩ := h.channelSlot hi
  rw [Bool.eq_false_iff]
  intro hb
  obtain ⟨y, hy, hw⟩ := State.burstOn_iff.mp hb
  obtain ⟨x', hx', hr⟩ := h.burst y i hy hw
  simp_all

theorem noSlot_of_searching (h : s.slotInv) (hs : s.channel.search = .searching) : s.channel.slot = none := by
  cases hc : s.channel.slot with
  | none => rfl
  | some i =>
    obtain ⟨-, -, -, -, -, -, hr⟩ := h.channelSlot hc
    simp [hs] at hr

/-- A change of a slot that is not the channel's. -/
theorem modAside {f : Slot → Slot} (h : s.slotInv) (hc : s.channel.slot ≠ some i)
    (hp : (s.modSlot i f).poolLaw) : (s.modSlot i f).slotInv := by
  have hget (j : Nat) (hj : s.channel.slot = some j) : (s.modSlot i f).slots[j]? = s.slots[j]? := by
    have hij : i ≠ j := fun hij => hc (hij ▸ hj)
    simp [hij]
  refine ⟨hp.1, fun j hj => ?_, fun j x b hj hx ho => h.mount j x b hj (hget j hj ▸ hx) ho, hp.2⟩
  rw [hget j hj]
  exact h.channel j hj

theorem freeLoose (h : s.slotInv) (hc : s.channel.slot ≠ some i) (hb : s.burstOn i = false) :
    (s.freeSlot i).slotInv :=
  h.modAside hc (h.pool.freeSlot hb)

theorem dropSlot (h : s.slotInv) (hc : s.channel.slot ≠ some i) : (s.dropSlot i).slotInv := by
  unfold State.dropSlot
  split
  next hb =>
    refine { h with burst := fun y j hy hw => ?_ }
    obtain ⟨x, hx, rfl⟩ := Option.map_eq_some_iff.mp hy
    exact h.burst x j hx hw
  next hb => exact h.freeLoose hc (by simpa using hb)

theorem dropSlots {p : Nat → Slot → Bool} (h : s.slotInv)
    (hp : ∀ i x, s.channel.slot = some i → s.slots[i]? = some x → p i x = false) : (s.dropSlots p).slotInv := by
  have hlist : ∀ l : List Nat, (∀ i ∈ l, s.channel.slot ≠ some i) → ∀ t : State, t.slotInv →
      t.channel = s.channel → (l.foldl State.dropSlot t).slotInv := by
    intro l
    induction l with
    | nil => exact fun _ t ht _ => ht
    | cons i l ih =>
      intro hl t ht hc
      refine ih (fun j hj => hl j (List.mem_cons_of_mem _ hj)) _ (ht.dropSlot (hc ▸ hl i (by simp))) ?_
      rw [← hc]
      unfold State.dropSlot
      split <;> simp [State.freeSlot]
  refine hlist _ (fun i hi hc => ?_) s h rfl
  simp only [State.slotsWhere, List.mem_filter, Option.any_eq_true] at hi
  obtain ⟨-, x, hx, hpx⟩ := hi
  simp [hp i x hc hx] at hpx

theorem loseChannel (h : s.slotInv) : (s.loseChannel b).slotInv := by
  unfold State.loseChannel
  split
  · refine of_noSlot ?_ rfl
    show (s.cutField b).poolLaw
    unfold State.cutField
    split
    next i _ hi => exact h.pool.freeSlot (h.burstOn_channelSlot hi)
    next i _ hi =>
      obtain ⟨x, hx, -, -, -, hown, -⟩ := h.channelSlot hi
      show (s.modSlot i fun x => { x with state := .full }).poolLaw
      refine h.pool.modSlot (fun y hy => ?_) (fun y _ _ ho => .inl ho) (by simp [h.burstOn_channelSlot hi])
      obtain rfl : x = y := by simpa [hx] using hy
      simp [hown]
    · split
      · exact h.pool
      · exact h.pool
    · exact h.pool
  · exact h

/-- Slots with the states, the owners and the purposes of the old ones. -/
theorem setSlots {l : List Slot} (h : s.slotInv) (hl : l.map Slot.key = s.slots.map Slot.key) :
    { s with slots := l }.slotInv := by
  have hkey (i : Nat) : (l[i]?).map Slot.key = (s.slots[i]?).map Slot.key := by
    simpa using congrArg (·[i]?) hl
  have hback {i : Nat} {x : Slot} (hx : s.slots[i]? = some x) : ∃ y, l[i]? = some y ∧ y.key = x.key := by
    have := hkey i
    rw [hx] at this
    exact Option.map_eq_some_iff.mp this
  have hforth {i : Nat} {y : Slot} (hy : l[i]? = some y) : ∃ x, s.slots[i]? = some x ∧ x.key = y.key := by
    have := hkey i
    rw [hy] at this
    exact Option.map_eq_some_iff.mp this.symm
  obtain ⟨⟨hlen, hown, hcount⟩, channel, mount, burst⟩ := h
  refine ⟨⟨?_, fun y hy => ?_, fun id => ?_⟩, fun i hi => ?_, fun i y b hi hy ho => ?_, fun y i hy hw => ?_⟩
  · have hlen' := congrArg List.length hl
    simp only [List.length_map] at hlen'
    exact hlen'.trans hlen
  · obtain ⟨i, hi⟩ := List.mem_iff_getElem?.mp hy
    obtain ⟨x, hx, hk⟩ := hforth hi
    have := hown x (List.mem_of_getElem? hx)
    simp only [Slot.key, Prod.mk.injEq] at hk
    obtain ⟨hst, ho, -⟩ := hk
    rwa [← hst, ← ho]
  · have hcomp (m : List Slot) : m.countP (fun x => x.owner == some (Owner.task id)) =
        (m.map Slot.key).countP fun k => k.2.1 == some (Owner.task id) := by
      rw [List.countP_map]
      rfl
    have := hcount id
    unfold State.slotsOf at this ⊢
    rwa [hcomp, hl, ← hcomp]
  · obtain ⟨hg, x, hx, hwork⟩ := channel i hi
    obtain ⟨y, hy, hk⟩ := hback hx
    simp only [Slot.key, Prod.mk.injEq] at hk
    obtain ⟨hst, -, hp⟩ := hk
    exact ⟨hg, y, hy, by rwa [hst, hp]⟩
  · obtain ⟨x, hx, hk⟩ := hforth hy
    simp only [Slot.key, Prod.mk.injEq] at hk
    obtain ⟨-, hxo, -⟩ := hk
    exact mount i x b hi hx (hxo.trans ho)
  · obtain ⟨x, hx, hr⟩ := burst y i hy hw
    obtain ⟨z, hz, hk⟩ := hback hx
    exact ⟨z, hz, (slotRequests_eq_of_key hk).trans hr⟩

/-- R120: a slot that a user may take is FREE, and a task that takes it is below its quota. -/
theorem slotForTake_free {o : Owner} (hi : s.slotForTake o = some i) :
    (∃ x, s.slots[i]? = some x ∧ x.state = .free) ∧ ∀ id, o = .task id → s.slotsOf id < Config.slotQuota := by
  have hget (hi : s.freeSlot? = some i) : ∃ x, s.slots[i]? = some x ∧ x.state = .free := by
    obtain ⟨hlt, hx, -⟩ := List.findIdx?_eq_some_iff_getElem.mp hi
    exact ⟨s.slots[i], List.getElem?_eq_getElem hlt, by simpa using hx⟩
  cases o with
  | mount b => exact ⟨hget hi, nofun⟩
  | task id =>
    simp only [State.slotForTake] at hi
    split at hi
    next hq => exact ⟨hget hi, fun id' h => by cases h; exact hq⟩
    · cases hi

theorem takeSlot {st : SlotState} {o : Owner} {p : Purpose} {sector : SlotSector} {host : Option Nat}
    (h : s.slotInv) (hi : s.slotForTake o = some i) (hst : st ≠ .free) :
    (s.takeSlot i st o p b sector host).slotInv := by
  obtain ⟨⟨x, hx, hfree⟩, hquota⟩ := slotForTake_free hi
  refine h.modAside (fun hc => ?_) (h.pool.modSlot (fun _ _ => by simp [hst]) (fun y id hy ho => ?_) fun hb => ?_)
  · obtain ⟨y, hy, hne, -⟩ := h.channelSlot hc
    simp_all
  · exact .inr (hquota id (by simpa using ho))
  · intro y hy hr
    obtain rfl : x = y := by simpa [hx] using hy
    exact absurd hfree (slotRequests_not_free hr)

/-- The channel at a slot with a field on its way. -/
theorem setChannel {c : Channel} {x : Slot} (h : s.slotInv) (hslot : c.slot = some i) (hg : c.grant ≠ none)
    (hx : s.slots[i]? = some x)
    (hwork : (c.search = .reading ∧ x.state = .filling ∧
        x.purpose ∈ [some Purpose.read, some .verify, some .copy, some .recordRead]) ∨
      (c.search = .writing ∧ x.state = .draining ∧
        x.purpose ∈ [some Purpose.write, some .copy, some .recordWrite]))
    (hmount : ∀ b, x.owner = some (.mount b) → c.grant = some b ∧ (s.map b).mountStage = .atChannel) :
    { s with channel := c }.slotInv := by
  refine ⟨h.slots, fun j hj => ?_, fun j y b hj hy ho => ?_, h.burst⟩
  · obtain rfl : i = j := by simpa [hslot] using hj
    exact ⟨hg, x, hx, hwork⟩
  · obtain rfl : i = j := by simpa [hslot] using hj
    obtain rfl : x = y := by simpa [hx] using hy
    exact hmount b ho

/-- The channel keeps its slot, its work and its bay, or has no slot. -/
theorem keepChannel {c : Channel} (h : s.slotInv)
    (hc : c.slot = none ∨ (c.slot = s.channel.slot ∧
      (s.channel.grant = none ∨ (c.search = s.channel.search ∧ c.grant = s.channel.grant)))) :
    { s with channel := c }.slotInv := by
  rcases hc with hn | ⟨hsame, hrest⟩
  · exact of_noSlot h.pool hn
  · cases hs : s.channel.slot with
    | none => exact of_noSlot h.pool (hsame.trans hs)
    | some i =>
      obtain ⟨hg, x, hx, hwork⟩ := h.channel i hs
      rcases hrest with hn | ⟨hsearch, hgrant⟩
      · exact absurd hn hg
      · refine h.setChannel (hsame.trans hs) (hgrant ▸ hg) hx (hsearch ▸ hwork) fun b ho => ?_
        rw [hgrant]
        exact h.mount i x b hs hx ho

/-- A map whose mount does not use the channel's slot, or keeps its stage. -/
theorem setMap {f : DefectMap → DefectMap} (h : s.slotInv)
    (hm : s.mountOff b ∨ (f (s.map b)).mountStage = (s.map b).mountStage) :
    { s with maps := s.maps.update b f }.slotInv := by
  refine { h with mount := fun i x c hi hx ho => ?_ }
  obtain ⟨hg, hst⟩ := h.mount i x c hi hx ho
  refine ⟨hg, ?_⟩
  simp only [State.map, PerBay.get_update]
  split
  next hcb =>
    subst hcb
    rcases hm with hoff | hsame
    · obtain ⟨-, -, -, -, -, -, hwork⟩ := h.channelSlot hi
      rcases hoff with hn | hn | hn | hn
      · exact absurd hi (by simp [hn])
      · simp [hn] at hwork
      · exact absurd hg hn
      · exact absurd hst hn
    · exact hsame.trans hst
  · exact hst

end State.slotInv

/-! ### The framework's fields -/

theorem slotInv_keptBase : KeptBase State.slotInv where
  bay h _ := { h with }
  spindle h _ := { h with }
  positioner h _ _ := { h with }
  map h _ hm := h.setMap hm
  channel h step := h.keepChannel step.slot
  entries h _ := { h with }
  link h _ := { h with }
  waiters h := { h with }
  medium h := { h with }
  dma h := { h with }
  loseChannel h := h.loseChannel
  freeMountSlots {s b} h hoff := h.dropSlots fun i x hi hx => by
    rw [beq_eq_false_iff_ne]
    intro ho
    obtain ⟨hg, hst⟩ := h.mount i x b hi hx ho
    obtain ⟨-, -, -, -, -, -, hwork⟩ := h.channelSlot hi
    rcases hoff with hn | hn | hn | hn
    · simp [hi] at hn
    · simp [hn] at hwork
    · exact hn hg
    · exact hn hst
  letGo {s id} h := h.dropSlots fun i x hi hx => by
    obtain ⟨-, y, hy, hwork⟩ := h.channel i hi
    obtain rfl : x = y := by simpa [hx] using hy
    have hkept : s.keepsSlot i x = true := by
      unfold State.keepsSlot
      split <;> simp [hi]
    simp [State.letsGo, hkept]
  takeSlot h hi hst := h.takeSlot hi hst
  slots h hl := h.setSlots hl

/-- The blocks that the law speaks of. -/
theorem State.slotInv.of_blocks {s t : State} (h : s.slotInv) (hs : t.slots = s.slots)
    (hc : t.channel = s.channel) (hm : t.maps = s.maps) (hb : t.burst = s.burst) : t.slotInv := by
  obtain ⟨slots, channel, mount, burst⟩ := h
  refine ⟨?_, ?_, ?_, ?_⟩
  · simpa only [State.slotLaw, State.slotsOf, hs] using slots
  · simpa only [hs, hc] using channel
  · simpa only [hs, hc, State.map, hm] using mount
  · simpa only [hs, hb] using burst

theorem slotInv_kept : Kept State.slotInv where
  toKeptBase := slotInv_keptBase
  requestPermit h _ := h.of_blocks (by simp) (by simp) (by simp) (by simp)
  leavePending h _ := h.of_blocks (by simp) (by simp) (by simp) (by simp)
  enterStopping {s b} h _ :=
    have k := slotInv_keptBase
    k.dropLoad (k.emergencyRetract (k.loseChannel (h.of_blocks (by simp) (by simp) (by simp) (by simp))))
  activate h _ _ _ := { h with }
  await h _ _ := { h with }
  finish h _ _ := { h with }
  sense h ht := by
    unfold restartSensing at ht
    split_ifs at ht
    cases ht
    exact h.of_blocks (by simp) (by simp) (by simp) (by simp)
  leave h ht := by
    unfold leaveHalted at ht
    split_ifs at ht
    cases ht
    exact { h with }
  offline h ht := by
    unfold goOfflineNow at ht
    split_ifs at ht
    cases ht
    exact { h with }
  withdraw h ht := by
    unfold withdrawFetch at ht
    split_ifs at ht
    split at ht <;> cases ht <;> exact { h with }
  fetch h ht := by
    unfold beginFetch at ht
    split_ifs at ht <;> cases ht <;> exact { h with }

theorem slotInv_events : KeptEvents State.slotInv where
  toKept := slotInv_kept
  stopped h _ := h.of_blocks (by simp) (by simp) (by simp) (by simp)
  flies _ _ := .inl fun h _ => { h with }
  pins h := { h with }
  ports h := { h with }
  supply h := { h with }
  reset h := { h with }
  input h _ := { h with }
  head h _ := { h with }
  spun h _ _ := { h with }
  tickLink h _ := { h with }
  mark h := h.of_blocks (by simp) (by simp) (by simp) (by simp)
  lock h _ := h.of_blocks (by simp) (by simp) (by simp) (by simp)
  drift h _ := h.of_blocks (by simp) (by simp) (by simp) (by simp)
  permitMet _ h _ := h.of_blocks (by simp [State.permitToBay0]) (by simp [State.permitToBay0])
    (by simp [State.permitToBay0]) (by simp [State.permitToBay0])
  fill {s b i o p sector host} h hg hs hi hp hmount := by
    obtain ⟨⟨x, hx, -⟩, -⟩ := State.slotInv.slotForTake_free hi
    have hx' : (s.takeSlot i .filling o p b sector host).slots[i]? = some { x with
        state := .filling, owner := some o, purpose := some p, bay := b, sector := sector
        hostAddress := host, wordsMoved := 0, age := s.instant } := by
      simp [State.takeSlot, hx]
    have htaken : (s.takeSlot i .filling o p b sector host).slotInv := h.takeSlot hi (by simp)
    refine htaken.setChannel (i := i) rfl (by simp [hg]) hx' (.inl ⟨rfl, rfl, by simpa using hp⟩) fun c ho => ?_
    obtain ⟨rfl, hst⟩ := hmount c (by simpa using ho)
    exact ⟨by simpa using hg, hst⟩
  pour {s b i id sector} h hg hi hfull := by
    obtain ⟨hlt, hslot, -⟩ := List.findIdx?_eq_some_iff_getElem.mp hi
    have hx := List.getElem?_eq_getElem hlt
    generalize s.slots[i] = x at hslot hx
    simp only [Bool.and_eq_true, beq_iff_eq] at hslot
    obtain ⟨⟨howner, -⟩, hmedium⟩ := hslot
    have hstate : x.state = .full := by simpa [hx] using hfull
    have hpurpose : x.purpose ∈ [some Purpose.write, some .copy, some .recordWrite] := by
      unfold toMedium at hmedium
      split at hmedium <;> simp_all
    have hrequests : slotRequests x = false := by
      simp only [List.mem_cons, List.not_mem_nil, or_false] at hpurpose
      rcases hpurpose with hp | hp | hp <;> simp [slotRequests, hp, hstate]
    have haside : s.channel.slot ≠ some i := fun hc => by
      obtain ⟨y, hy, -, hne, -⟩ := h.channelSlot hc
      simp_all
    have hmod : (s.modSlot i fun x => { x with state := .draining }).slotInv := by
      refine h.modAside haside (h.pool.modSlot (fun y hy => ?_) (fun y _ _ ho => .inl ho) fun _ y hy hr => ?_)
      · obtain rfl : x = y := by simpa [hx] using hy
        simp [howner]
      · obtain rfl : x = y := by simpa [hx] using hy
        simp [hrequests] at hr
    have hx' : (s.modSlot i fun x => { x with state := .draining }).slots[i]? =
        some { x with state := .draining } := by simp [hx]
    refine hmod.setChannel rfl (by simp [hg]) hx' (.inr ⟨rfl, rfl, hpurpose⟩) fun c ho => ?_
    simp [howner] at ho

/-! ### The bus -/

/-- R132: a slot that the Bus Master serves requests it. -/
theorem State.oldestRequest_requests {s : State} {i : Nat} (h : s.oldestRequest = some i) :
    ∃ x, s.slots[i]? = some x ∧ slotRequests x = true := by
  unfold State.oldestRequest at h
  obtain ⟨⟨j, a⟩, hj, rfl⟩ := Option.map_eq_some_iff.mp h
  have hmem : ∀ (l : List (Nat × Nat)) (best : Option (Nat × Nat)) (y : Nat × Nat),
      l.foldl olderSlot best = some y → y ∈ l ∨ best = some y := by
    intro l
    induction l with
    | nil => exact fun best y hy => .inr hy
    | cons x l ih =>
      intro best y hy
      rcases ih _ y hy with hm | hb
      · exact .inl (List.mem_cons_of_mem _ hm)
      · unfold olderSlot at hb
        split at hb
        · exact .inl (by simp_all)
        · split at hb
          · exact .inl (by simp_all)
          · exact .inr hb
  rcases hmem _ _ _ hj with hm | hm
  · obtain ⟨⟨k, x⟩, hk, he⟩ := List.mem_map.mp hm
    obtain ⟨hz, hr⟩ := List.mem_filter.mp hk
    obtain ⟨n, hn⟩ := List.mem_iff_getElem?.mp hz
    obtain ⟨hn₁, hn₂⟩ := List.getElem?_zip_eq_some.mp hn
    obtain ⟨rfl, rfl⟩ := Prod.mk.inj he
    obtain ⟨_, hkn⟩ := List.getElem?_eq_some_iff.mp hn₁
    rw [List.getElem_range] at hkn
    subst hkn
    exact ⟨x, by simpa using hn₂, hr⟩
  · cases hm

theorem State.slotInv.beginBurst {s : State} (h : s.slotInv) (hb : s.burst = none) : s.beginBurst.slotInv := by
  unfold State.beginBurst
  split
  next i hi =>
    obtain ⟨x, hx, hr⟩ := State.oldestRequest_requests hi
    have hnot : s.burstOn i = false := by simp [State.burstOn, hb]
    have haside : s.channel.slot ≠ some i := fun hc => by
      obtain ⟨y, hy, -, -, hne, -⟩ := h.channelSlot hc
      simp_all
    split
    next y hy =>
      obtain rfl : x = y := by simpa [hx] using hy
      have hmod : (s.modSlot i fun y => { y with state := if y.state = .full then .draining else y.state }).slotInv := by
        refine h.modAside haside (h.pool.modSlot (fun y hy => ?_) (fun y _ _ ho => .inl ho) (by simp [hnot]))
        have := h.slots.2.1 y (List.mem_of_getElem? hy)
        dsimp only
        split
        next hf => simp_all
        · exact this
      refine { hmod with burst := fun z j hz hw => ?_ }
      cases hz
      cases hw
      refine ⟨{ x with state := if x.state = .full then .draining else x.state }, by simp [hx], ?_⟩
      unfold slotRequests at hr ⊢
      cases hst : x.state <;> split at hr <;> simp_all
    · exact h
  · split
    · exact { h with burst := fun y i hy hw => by cases hy; cases hw }
    · split
      · exact { h with burst := fun y i hy hw => by cases hy; cases hw }
      · split
        next w hw =>
          refine { h with burst := fun y i hy hwork => ?_ }
          cases hy
          exfalso
          have hslot : (s.fetchBurst w).work = w := by
            unfold State.fetchBurst
            split <;> rfl
          rw [hslot] at hwork
          subst hwork
          unfold State.fetchWork at hw
          repeat' split at hw
          all_goals cases hw
        · exact h

theorem State.slotInv.fillLoose {s : State} {i : Nat} {g : Nat → Nat} (h : s.slotInv)
    (hc : s.channel.slot ≠ some i) (hl : s.loose i) :
    (s.modSlot i fun x => { x with state := .full, age := g x.age }).slotInv := by
  obtain ⟨hb, x, hx, ho⟩ := hl
  refine h.modAside hc (h.pool.modSlot (fun y hy => ?_) (fun y _ _ ho => .inl ho) (by simp [hb]))
  obtain rfl : x = y := by simpa [hx] using hy
  simp [ho]

/-- What the end of a burst leaves of the pool where no slot's burst ends. -/
theorem State.endBurst_noSlot {s : State} {w : BurstWork} {drop : Bool} {ws : List Word} (h : s.slotInv)
    (hw : ∀ i, w ≠ .slot i) : (s.endBurst w drop ws).slotInv := by
  unfold State.endBurst
  split
  next i => exact absurd rfl (hw i)
  · unfold State.endFinish
    repeat' split
    all_goals exact { h with }
  · split
    · exact { h with }
    · exact h
  · exact h
  · exact h
  · unfold State.endReread
    split
    · exact h
    · exact { h with }
  · unfold State.endPoll
    split
    · exact h
    · exact { h with }
  all_goals exact { h with }

namespace State.slotInv

variable {s : State} {i : Nat}

theorem slotMoved {x : Slot} (h : s.slotInv) (hc : s.channel.slot ≠ some i) (hl : s.loose i) :
    (s.slotMoved i x).slotInv := by
  have hfreed : (s.freeSlot i).slotInv := h.freeLoose hc hl.1
  unfold State.slotMoved
  split
  · exact { hfreed with }
  · exact { hfreed with }
  · refine hfreed.of_blocks ?_ ?_ ?_ ?_ <;> simp
  · exact h.fillLoose (g := fun a => a) hc hl

theorem endSlotBurst {drop : Bool} {ws : List Word} (h : s.slotInv) (hc : s.channel.slot ≠ some i)
    (hl : s.loose i) : (s.endSlotBurst i drop ws).slotInv := by
  unfold State.endSlotBurst
  split
  · exact h
  next x hx =>
    extract_lets placed moved stored
    have hkey : moved.key = x.key := by
      simp only [moved, placed]
      split <;> rfl
    have hown : moved.owner ≠ none := by
      obtain ⟨-, y, hy, ho⟩ := hl
      obtain rfl : x = y := by simpa [hx] using hy
      simp only [Slot.key, Prod.mk.injEq] at hkey
      obtain ⟨-, hko, -⟩ := hkey
      exact hko ▸ ho
    have hstored : stored.slotInv := by
      refine h.setSlots (List.ext_getElem? fun j => ?_)
      simp only [List.getElem?_map, List.getElem?_modify]
      split
      next hij =>
        subst hij
        simp [hx, hkey]
      · simp
    have hloose : stored.loose i := ⟨hl.1, moved, by simp [stored, hx], hown⟩
    split_ifs
    · exact h.freeLoose hc hl.1
    · exact hstored
    · exact hstored.slotMoved hc hloose

theorem takeBurstEnd {ws : Vector Word 16} (h : s.slotInv) : (takeBurstEnd ws s).slotInv := by
  unfold Machine.takeBurstEnd
  split
  · exact h
  next y hy =>
    have hended : ({ s with burst := none }.storeWords y).slotInv := { h with burst := nofun }
    by_cases hw : ∃ i, y.work = .slot i
    · obtain ⟨i, hw⟩ := hw
      obtain ⟨x, hx, hr⟩ := h.burst y i hy hw
      have hown : x.owner ≠ none := fun ho =>
        slotRequests_not_free hr ((h.slots.2.1 x (List.mem_of_getElem? hx)).mpr ho)
      have haside : s.channel.slot ≠ some i := fun hc => by
        obtain ⟨z, hz, -, -, hne, -⟩ := h.channelSlot hc
        simp_all
      rw [hw]
      exact hended.endSlotBurst haside ⟨rfl, x, hx, hown⟩
    · exact State.endBurst_noSlot hended fun i hi => hw ⟨i, hi⟩

end State.slotInv

theorem slotInv_low : KeptLow State.slotInv where
  permits h := { h with }
  dropSlots h hc := h.dropSlots fun i x hi => by simp [hc] at hi
  spindle h _ _ _ := { h with }
  halted h := { h with }

/-- A pool whose slots are all FREE, with the channel and the bus at rest. -/
theorem State.slotInv_of_freed {s t : State} (h : s.slotLaw)
    (hs : t.slots = s.slots.map fun x => Slot.freed x.data) (hc : t.channel.slot = none)
    (hb : t.burst = none) : t.slotInv := by
  refine State.slotInv.of_noSlot ⟨⟨by simpa [hs] using h.1, fun x hx => ?_, fun id => ?_⟩, by simp [hb]⟩ hc
  · rw [hs] at hx
    obtain ⟨y, -, rfl⟩ := List.mem_map.mp hx
    simp [Slot.freed]
  · simp [State.slotsOf, hs, List.countP_map, Function.comp_def, Slot.freed]

theorem slotInv_steps : KeptSteps State.slotInv where
  toKeptEvents := slotInv_events
  cycle h := { h with }
  instant h := { h with }
  raise h _ := { h with }
  fieldSlot h hi _ := by
    obtain ⟨x, hx, -, -, -, ho, -⟩ := h.channelSlot hi
    exact .inr ⟨h.burstOn_channelSlot hi, x, hx, ho⟩
  freeLoose h hc hb := h.freeLoose hc hb
  fillLoose h hc hl := h.fillLoose hc hl
  dropSlots := slotInv_low.dropSlots
  beginBurst h hb := h.beginBurst hb
  burstEnd h := h.takeBurstEnd
  started h _ := { h with }
  unstalled h _ := { h with }
  draining h _ _ := { h with }
  lowSupply h ha := slotInv_low.takeSupplyLow slotInv_events h ha
  resetDone {s} h hends := by
    simp only [State.resetEnds, Bool.and_eq_true] at hends
    obtain ⟨⟨⟨-, hburst⟩, -⟩, -⟩ := hends
    exact State.slotInv_of_freed h.slots rfl rfl (Option.isNone_iff_eq_none.mp hburst)
  busReset h := State.slotInv_of_freed h.slots rfl rfl rfl

/-- Settles O14: the channel's slot is on its way to or from the medium, so that it requests no burst. -/
theorem stepKeepsTheSlotLaw : Obligations.StepKeepsTheSlotLaw := by
  unfold Obligations.StepKeepsTheSlotLaw
  exact fun s t h ht => slotInv_steps.step (fun h => { h with }) h ht

end Sys2Proof.Machine

/-!
PROOFS. What the blocks compute: host memory (spec/00 section 4.4), the translation of LSNs and the runs (R88, R104,
R105), the Seek Profile and the velocity loop (R65 to R67).
-/

namespace Sys2Proof.Machine

/-! ### Host memory -/

namespace Memory

theorem read_write_same (m : Memory) (a : Nat) (v : Byte) : Memory.read (Memory.write m a v) a = some v := by
  induction m with
  | nil => simp [Memory.write, Memory.read]
  | cons c rest ih =>
    unfold Memory.write
    split_ifs with he hlt
    · simp [Memory.read]
    · simp [Memory.read]
    · rw [Memory.read, if_neg he, ih]

theorem read_write_other (m : Memory) {a x : Nat} (v : Byte) (h : x ≠ a) :
    Memory.read (Memory.write m a v) x = Memory.read m x := by
  induction m with
  | nil => simp [Memory.write, Memory.read, h.symm]
  | cons c rest ih =>
    unfold Memory.write
    split_ifs with he hlt
    · simp [Memory.read, h.symm, he]
    · simp [Memory.read, h.symm]
    · simp only [Memory.read, ih]

theorem read_writeBytes_other (m : Memory) (a : Nat) (bs : List Byte) {x : Nat}
    (h : ∀ i < bs.length, x ≠ (a + i) % 2 ^ 24) : Memory.read (Memory.writeBytes m a bs) x = Memory.read m x := by
  induction bs generalizing m a with
  | nil => rfl
  | cons v bs ih =>
    have hrest : ∀ i < bs.length, x ≠ (a + 1 + i) % 2 ^ 24 := fun i hi => by
      have := h (i + 1) (by simpa using hi)
      rwa [Nat.add_assoc, Nat.add_comm 1 i]
    rw [Memory.writeBytes, ih _ _ hrest]
    exact read_write_other m v (h 0 (by simp))

/-- No byte of at most 2^24 is written over by a later one. -/
theorem read_writeBytes (m : Memory) (a : Nat) (bs : List Byte) {i : Nat} {v : Byte} (hlen : bs.length ≤ 2 ^ 24)
    (hi : bs[i]? = some v) : Memory.read (Memory.writeBytes m a bs) ((a + i) % 2 ^ 24) = some v := by
  induction bs generalizing m a i with
  | nil => simp at hi
  | cons w bs ih =>
    simp only [List.length_cons] at hlen
    rw [Memory.writeBytes]
    cases i with
    | zero =>
      obtain rfl : w = v := by simpa using hi
      rw [read_writeBytes_other _ _ _ fun j hj => by omega]
      exact read_write_same m _ w
    | succ i =>
      rw [Nat.add_comm i 1, ← Nat.add_assoc]
      exact ih _ (a + 1) (by omega) (by simpa using hi)

end Memory

theorem wordsBytes_length (ws : List Word) : (wordsBytes ws).length = 2 * ws.length := by
  induction ws with
  | nil => rfl
  | cons w ws ih =>
    rw [wordsBytes, List.flatMap_cons, List.length_append, ← wordsBytes, ih]
    simp only [wordBytes, List.length_cons, List.length_nil]
    omega

theorem wordsBytes_getElem? {ws : List Word} {i : Nat} {w : Word} (h : ws[i]? = some w) :
    (wordsBytes ws)[2 * i]? = some (w.extractLsb' 0 8) ∧
      (wordsBytes ws)[2 * i + 1]? = some (w.extractLsb' 8 8) := by
  induction ws generalizing i with
  | nil => simp at h
  | cons x ws ih =>
    have hcons : wordsBytes (x :: ws) = x.extractLsb' 0 8 :: x.extractLsb' 8 8 :: wordsBytes ws := rfl
    cases i with
    | zero =>
      obtain rfl : x = w := by simpa using h
      simp [hcons]
    | succ i => simpa [hcons, Nat.mul_add] using ih (by simpa using h)

/-- Settles O60: each byte lies at its own address modulo 2^24, which no other byte of the burst has. -/
theorem hostMemoryReadsWhatWasWritten : Obligations.HostMemoryReadsWhatWasWritten := by
  unfold Obligations.HostMemoryReadsWhatWasWritten
  intro m address words hwf hlen
  have hbytes : (wordsBytes words).length ≤ 2 ^ 24 := by
    rw [wordsBytes_length]
    omega
  refine ⟨fun i w hi => ?_, fun a ha => ?_, Memory.wf_writeBytes m address _ hwf⟩
  · obtain ⟨hlow, hhigh⟩ := wordsBytes_getElem? hi
    exact ⟨Memory.read_writeBytes m address _ hbytes hlow, Memory.read_writeBytes m address _ hbytes hhigh⟩
  · exact Memory.read_writeBytes_other m address _ fun i hi => ha i (wordsBytes_length words ▸ hi)

/-! ### The translation of LSNs (R104, R105) -/

theorem findEntry_some {l : List RemapEntry} {n : Nat} {e : RemapEntry} (h : findEntry l n = some e) :
    e ∈ l ∧ e.lsn = n :=
  ⟨List.mem_of_find?_eq_some h, by simpa using List.find?_some h⟩

theorem findEntry_none_iff {l : List RemapEntry} {n : Nat} : findEntry l n = none ↔ ∀ e ∈ l, e.lsn ≠ n := by
  simp [findEntry, List.find?_eq_none]

theorem DefectMap.tableLaw.findEntry_of_mem {m : DefectMap} (h : m.tableLaw) {e : RemapEntry} (he : e ∈ m.table) :
    findEntry m.table e.lsn = some e := by
  obtain ⟨-, hsorted, -⟩ := h
  cases hf : findEntry m.table e.lsn with
  | none => exact absurd rfl (findEntry_none_iff.mp hf e he)
  | some x =>
    obtain ⟨hx, hlsn⟩ := findEntry_some hf
    have hinj := List.pairwise_iff_getElem.mp hsorted
    obtain ⟨i, hi, rfl⟩ := List.mem_iff_getElem.mp hx
    obtain ⟨j, hj, rfl⟩ := List.mem_iff_getElem.mp he
    rcases Nat.lt_trichotomy i j with hij | rfl | hij
    · have := hinj i j hi hj hij
      omega
    · rfl
    · have := hinj j i hj hi hij
      omega

theorem spareSector_injective {i j : Nat} (h : spareSector i = spareSector j) : i = j := by
  simp only [spareSector, Sector.mk.injEq] at h
  omega

theorem homeSector_injective {m n : Nat} (h : homeSector m = homeSector n) : m = n := by
  simp only [homeSector, Sector.mk.injEq] at h
  omega

/-- The spare cylinders begin where the home sectors end. -/
theorem spareSector_ne_homeSector {i n : Nat} (hn : n < 40448) : spareSector i ≠ homeSector n := by
  intro h
  simp only [spareSector, homeSector, Sector.mk.injEq] at h
  omega

/-- The two places of an LSN: its home sector, or the spare sector of its entry. -/
theorem translate_cases (l : List RemapEntry) (n : Nat) :
    (findEntry l n = none ∧ translate l n = homeSector n) ∨
      ∃ e ∈ l, e.lsn = n ∧ translate l n = spareSector e.spare := by
  unfold translate
  split
  next e he =>
    obtain ⟨hm, hlsn⟩ := findEntry_some he
    exact .inr ⟨e, hm, hlsn, rfl⟩
  next hn => exact .inl ⟨hn, rfl⟩

theorem DefectMap.tableLaw.spare_injective {m : DefectMap} (h : m.tableLaw) {x y : RemapEntry}
    (hx : x ∈ m.table) (hy : y ∈ m.table) (hs : x.spare = y.spare) : x = y :=
  have ⟨_, _, hnodup, _⟩ := h
  List.inj_on_of_nodup_map hnodup hx hy hs

theorem translate_injective {m : DefectMap} (h : m.tableLaw) {k n : Nat} (hk : k < 40448) (hn : n < 40448)
    (he : translate m.table k = translate m.table n) : k = n := by
  rcases translate_cases m.table k with ⟨-, hk'⟩ | ⟨x, hx, rfl, hk'⟩ <;>
    rcases translate_cases m.table n with ⟨-, hn'⟩ | ⟨y, hy, rfl, hn'⟩ <;> rw [hk', hn'] at he
  · exact homeSector_injective he
  · exact absurd he.symm (spareSector_ne_homeSector hk)
  · exact absurd he (spareSector_ne_homeSector hn)
  · exact congrArg RemapEntry.lsn (h.spare_injective hx hy (spareSector_injective he))

/-- Settles O51: the entries of a lawful table have LSNs and spare sectors of their own. -/
theorem translationIsOneToOne : Obligations.TranslationIsOneToOne := by
  unfold Obligations.TranslationIsOneToOne
  intro m h n hn
  have hplace : (translate m.table n).cylinder < 638 ∧ (translate m.table n).head ≤ 1 ∧
      (translate m.table n).sector ≤ 31 := by
    rcases translate_cases m.table n with ⟨-, he⟩ | ⟨e, hm, -, he⟩ <;> rw [he]
    · simp only [homeSector]
      omega
    · obtain ⟨-, -, -, hbelow, hspares, -⟩ := h
      have := hbelow e hm
      simp only [spareSector, Config.spareSectors] at hspares ⊢
      omega
  obtain ⟨hcylinder, hhead, hsector⟩ := hplace
  refine ⟨fun e he hlsn => ?_, fun hnone => ?_, hcylinder, hhead, hsector, fun k hk => translate_injective h hk hn⟩
  · subst hlsn
    rw [translate, h.findEntry_of_mem he]
    rfl
  · rw [translate, findEntry_none_iff.mpr hnone]
    rfl

/-! ### Runs (R88) -/

/-- What the longest sequence on one track takes, and where it ends. -/
theorem sameTrack_spec (table : List RemapEntry) (first left lsn : Nat) :
    sameTrack table first left lsn ≤ left ∧
    (∀ i < sameTrack table first left lsn, findEntry table (lsn + i) = none ∧ (lsn + i) / 32 = first / 32) ∧
    (sameTrack table first left lsn < left →
      findEntry table (lsn + sameTrack table first left lsn) ≠ none ∨
        (lsn + sameTrack table first left lsn) / 32 ≠ first / 32) := by
  induction left generalizing lsn with
  | zero => exact ⟨Nat.le_refl 0, fun i hi => absurd hi (Nat.not_lt_zero i), fun h => absurd h (Nat.lt_irrefl 0)⟩
  | succ left ih =>
    unfold sameTrack
    split_ifs with hgo
    · obtain ⟨hle, htaken, hend⟩ := ih (lsn + 1)
      refine ⟨by omega, fun i hi => ?_, fun h => ?_⟩
      · cases i with
        | zero => exact ⟨Option.isNone_iff_eq_none.mp hgo.1, hgo.2⟩
        | succ i => simpa [Nat.add_assoc, Nat.add_comm 1] using htaken i (by omega)
      · simpa [Nat.add_assoc, Nat.add_comm 1] using hend (by omega)
    · refine ⟨Nat.zero_le _, fun i hi => absurd hi (Nat.not_lt_zero i), fun _ => ?_⟩
      rcases not_and_or.mp hgo with h | h
      · exact .inl fun hn => h (Option.isNone_iff_eq_none.mpr hn)
      · exact .inr h

theorem sameTrack_pos {table : List RemapEntry} {lsn left : Nat} (hl : 1 ≤ left) (h : findEntry table lsn = none) :
    1 ≤ sameTrack table lsn left lsn := by
  obtain ⟨left, rfl⟩ := Nat.exists_eq_add_of_le' hl
  unfold sameTrack
  rw [if_pos ⟨Option.isNone_iff_eq_none.mpr h, rfl⟩]
  omega

/-- Settles O57: a run takes LSNs until one is redirected or lies on another track, and no further. -/
theorem runsAreTheLongest : Obligations.RunsAreTheLongest := by
  unfold Obligations.RunsAreTheLongest
  intro b table lsn left most hleft hmost r first n
  obtain ⟨hle, htaken, hend⟩ := sameTrack_spec table lsn (min left most) lsn
  have hn : n = if (findEntry table lsn).isSome then 1 else sameTrack table lsn (min left most) lsn := by
    simp [n, r, formRun]
  have hsectors : ∀ i, i < n → r.sectors[i]? =
      some { lsn := some (lsn + i), sector := (translate table (lsn + i)).sector } := fun i hi => by
    have hi' : i < (formRun b table lsn left most).sectors.length := hi
    simp only [formRun, List.length_map, List.length_range] at hi'
    simp [r, formRun, List.getElem?_range hi']
  by_cases hf : (findEntry table lsn).isSome = true
  · rw [if_pos hf] at hn
    refine ⟨rfl, rfl, rfl, by omega, by omega, by omega, hsectors, fun _ => hn, fun h => ?_⟩
    rw [hf] at h
    cases h
  · rw [if_neg hf] at hn
    have hnone : findEntry table lsn = none := by simpa using hf
    have hpos := sameTrack_pos (left := min left most) (by omega) hnone
    rw [← hn] at hle htaken hend hpos
    exact ⟨rfl, rfl, rfl, hpos, by omega, by omega, hsectors, fun h => absurd h hf,
      fun _ => ⟨htaken, fun hl hm => hend (by omega)⟩⟩

/-! ### The Seek Profile and the velocity loop (R65 to R67) -/

/-- R66: the order of the breakpoints of an acceptable profile. -/
def profileRises (p : List Breakpoint) : Prop :=
  p.Pairwise fun x y => x.distance < y.distance ∧ x.velocity ≤ y.velocity

theorem profileRises_of_acceptable {p : List Breakpoint} (h : profileAcceptable p = true) : profileRises p := by
  simp only [profileAcceptable, Bool.and_eq_true, List.all_eq_true, decide_eq_true_eq] at h
  exact pairwise_of_zip_tail (fun hxy hyz => ⟨hxy.1.trans hyz.1, hxy.2.trans hyz.2⟩) h.2

section

variable {lo : Breakpoint} {p : List Breakpoint} {d e : Nat}

theorem profileFrom_ge (h : profileRises (lo :: p)) : lo.velocity ≤ profileFrom lo d p := by
  induction p generalizing lo with
  | nil => exact Nat.le_refl _
  | cons hi rest ih =>
    obtain ⟨hlo, hrest⟩ := List.pairwise_cons.mp h
    unfold profileFrom
    split
    · exact Nat.le_add_right _ _
    · exact (hlo hi (by simp)).2.trans (ih hrest)

/-- Between two breakpoints the demand rises to no more than the second velocity. -/
theorem interpolated_le {lo hi : Breakpoint} (hv : lo.velocity ≤ hi.velocity) (hlo : lo.distance ≤ d)
    (hd : d < hi.distance) :
    lo.velocity + (hi.velocity - lo.velocity) * (d - lo.distance) / (hi.distance - lo.distance) ≤ hi.velocity := by
  have hdiv : (hi.velocity - lo.velocity) * (d - lo.distance) / (hi.distance - lo.distance) ≤
      hi.velocity - lo.velocity :=
    Nat.div_le_of_le_mul (by
      rw [Nat.mul_comm (hi.distance - lo.distance)]
      exact Nat.mul_le_mul_left _ (by omega))
  omega

theorem profileFrom_mono (h : profileRises (lo :: p)) (hlo : lo.distance ≤ d) (hde : d ≤ e) :
    profileFrom lo d p ≤ profileFrom lo e p := by
  induction p generalizing lo with
  | nil => exact Nat.le_refl _
  | cons hi rest ih =>
    obtain ⟨hfirst, hrest⟩ := List.pairwise_cons.mp h
    obtain ⟨-, hv⟩ := hfirst hi (by simp)
    unfold profileFrom
    split_ifs with hd he he
    · exact Nat.add_le_add_left (Nat.div_le_div_right (Nat.mul_le_mul_left _ (by omega))) _
    · exact (interpolated_le hv hlo hd).trans (profileFrom_ge hrest)
    · omega
    · exact ih hrest (by omega)

theorem profileFrom_last {last : Breakpoint} (h : profileRises (lo :: p)) (hl : (lo :: p).getLast? = some last)
    (hd : last.distance ≤ d) : profileFrom lo d p = last.velocity := by
  induction p generalizing lo with
  | nil =>
    obtain rfl : lo = last := by simpa using hl
    rfl
  | cons hi rest ih =>
    obtain ⟨-, hrest⟩ := List.pairwise_cons.mp h
    have hl' : (hi :: rest).getLast? = some last := by rwa [List.getLast?_cons_cons] at hl
    have hhi : hi.distance ≤ last.distance := by
      rcases List.mem_cons.mp (List.mem_of_getLast? hl') with rfl | hm
      · exact Nat.le_refl _
      · exact ((List.pairwise_cons.mp hrest).1 last hm).1.le
    unfold profileFrom
    rw [if_neg (by omega)]
    exact ih hrest hl'

theorem profileFrom_between {x y : Breakpoint} {k : Nat} (h : profileRises (lo :: p))
    (hx : (lo :: p)[k]? = some x) (hy : (lo :: p)[k + 1]? = some y) (hlo : x.distance ≤ d) (hd : d < y.distance) :
    profileFrom lo d p =
      x.velocity + (y.velocity - x.velocity) * (d - x.distance) / (y.distance - x.distance) := by
  induction p generalizing lo k with
  | nil => simp at hy
  | cons hi rest ih =>
    obtain ⟨-, hrest⟩ := List.pairwise_cons.mp h
    unfold profileFrom
    cases k with
    | zero =>
      obtain rfl : lo = x := by simpa using hx
      obtain rfl : hi = y := by simpa using hy
      rw [if_pos hd]
    | succ k =>
      have hx' : (hi :: rest)[k]? = some x := by simpa using hx
      have hhi : hi.distance ≤ x.distance := by
        rcases List.mem_cons.mp (List.mem_of_getElem? hx') with rfl | hm
        · exact Nat.le_refl _
        · exact ((List.pairwise_cons.mp hrest).1 x hm).1.le
      rw [if_neg (by omega)]
      exact ih hrest hx' (by simpa using hy)

/-- The breakpoints at or after the first lie at no smaller distance. -/
theorem first_distance_le {x : Breakpoint} (h : profileRises (lo :: p)) (hx : x ∈ lo :: p) :
    lo.distance ≤ x.distance := by
  rcases List.mem_cons.mp hx with rfl | hm
  · exact Nat.le_refl _
  · exact ((List.pairwise_cons.mp h).1 x hm).1.le

theorem profileVelocity_mono (h : profileRises (lo :: p)) (hde : d ≤ e) :
    profileVelocity (lo :: p) d ≤ profileVelocity (lo :: p) e := by
  unfold profileVelocity
  dsimp only
  split_ifs with hd he he
  · exact Nat.div_le_div_right (Nat.mul_le_mul_left _ hde)
  · refine (Nat.div_le_of_le_mul ?_).trans (profileFrom_ge h)
    rw [Nat.mul_comm lo.distance]
    exact Nat.mul_le_mul_left _ hd.le
  · omega
  · exact profileFrom_mono h (by omega) hde

theorem profileVelocity_from (hd : lo.distance ≤ d) : profileVelocity (lo :: p) d = profileFrom lo d p :=
  if_neg (by omega)

end

theorem clampInt_eq (x : Int) {lo hi : Int} (h : lo ≤ hi) : clampInt x lo hi = max lo (min hi x) := by
  unfold clampInt
  split_ifs <;> omega

/-- R67: the current demand with the demand's sign, which the direction of motion gives. -/
theorem loopDac_eq (p : Positioner) (v : Int) (hv : v = motionDemand p) (inward : Bool)
    (hm : motionDirection p = if inward then .inward else .outward) :
    let vt : Int := if inward = (p.lastDirection == .inward) then p.vmeas else -p.vmeas
    let a : Int := max (-127) (min 127 ((p.kv : Int) * (v - vt) / 16))
    loopDac p = if inward then a else -a := by
  intro vt a
  have hvt : signedVelocity p (motionDirection p) = vt := by
    unfold signedVelocity
    simp only [vt, hm]
    cases inward <;> cases p.lastDirection <;> rfl
  have ha : currentDemand p.kv (motionDemand p) (signedVelocity p (motionDirection p)) = a := by
    rw [hvt]
    simp only [currentDemand, a, hv, floorDiv, clampInt_eq _ (by decide : (-127 : Int) ≤ 127),
      Int.fdiv_eq_ediv_of_nonneg _ (by decide : (0 : Int) ≤ 16)]
  unfold loopDac
  dsimp only
  rw [ha, hm]
  cases inward <;> rfl

/-- Settles O50: the demand between two breakpoints stays below the second one's. -/
theorem demandFollowsTheProfile : Obligations.DemandFollowsTheProfile := by
  unfold Obligations.DemandFollowsTheProfile
  refine ⟨fun p hp => ?_, fun p => ?_⟩
  · have hrises := profileRises_of_acceptable hp
    cases p with
    | nil => cases hp
    | cons lo p =>
      refine ⟨fun first hf d hd => ?_, fun last hl d hd => ?_, fun k x y hx hy d hlo hd => ?_,
        fun d e hde => profileVelocity_mono hrises hde⟩
      · obtain rfl : lo = first := by simpa using hf
        exact if_pos hd
      · have := first_distance_le hrises (List.mem_of_getLast? hl)
        rw [profileVelocity_from (by omega), profileFrom_last hrises hl hd]
      · have := first_distance_le hrises (List.mem_of_getElem? hx)
        rw [profileVelocity_from (by omega), profileFrom_between hrises hx hy hlo hd]
  · intro v inward vt a
    have hinward : inward = (motionDirection p == .inward) := by
      simp only [inward, motionDirection]
      cases p.state
      case seeking => by_cases ht : p.counter < p.target <;> simp [ht]
      all_goals rfl
    have hm : motionDirection p = if inward then .inward else .outward := by
      rw [hinward]
      cases motionDirection p <;> rfl
    have hdac := loopDac_eq p v rfl inward hm
    refine ⟨fun h => ?_, fun h => ?_, fun h => ?_, hdac, ?_, ?_⟩
    · simp only [v, motionDemand, h]
    · simp only [v, motionDemand, h]
      rfl
    · simp only [v, motionDemand, h]
      rfl
    all_goals
      rw [hdac]
      have ha : -127 ≤ a ∧ a ≤ 127 := by
        simp only [a]
        omega
      split <;> omega

end Sys2Proof.Machine

/-!
PROOFS. What is recorded and read back: Settings Records (R169, R171), ID fields, data fields and Defect Records
(R86, R87, R97, R106, R107).
-/

namespace Sys2Proof.Machine

/-! ### Bytes of a structure -/

theorem lowFirst_two (n : Nat) : lowFirst 2 n = [BitVec.ofNat 8 n, BitVec.ofNat 8 (n / 256)] := rfl

theorem highFirst_two (n : Nat) : highFirst 2 n = [BitVec.ofNat 8 (n / 256), BitVec.ofNat 8 n] := rfl

theorem highFirst_word (x : BitVec 16) : highFirst 2 x.toNat = [x.extractLsb' 8 8, x.extractLsb' 0 8] := by
  rw [highFirst_two]
  refine congrArg₂ (fun a b => [a, b]) (BitVec.eq_of_toNat_eq ?_) (BitVec.eq_of_toNat_eq ?_)
  · simp [Nat.shiftRight_eq_div_pow]
  · simp

theorem highFirst_check (x : BitVec 32) : highFirst 4 x.toNat =
    [x.extractLsb' 24 8, x.extractLsb' 16 8, x.extractLsb' 8 8, x.extractLsb' 0 8] := by
  have hbyte (k n : Nat) (h : n = x.toNat / 2 ^ k) : BitVec.ofNat 8 n = x.extractLsb' k 8 := by
    refine BitVec.eq_of_toNat_eq ?_
    simp [h, Nat.shiftRight_eq_div_pow]
  have hbytes : highFirst 4 x.toNat = [BitVec.ofNat 8 (x.toNat / 256 / 256 / 256),
      BitVec.ofNat 8 (x.toNat / 256 / 256), BitVec.ofNat 8 (x.toNat / 256), BitVec.ofNat 8 x.toNat] := rfl
  rw [hbytes, hbyte 24 _ (by omega), hbyte 16 _ (by omega), hbyte 8 _ (by omega), hbyte 0 _ (by omega)]

/-! ### Settings Records (R169, R171) -/

theorem list_eight {α : Type} {l : List α} (h : l.length = 8) :
    ∃ a b c d e f g k, l = [a, b, c, d, e, f, g, k] := by
  match l, h with
  | [a, b, c, d, e, f, g, k], _ => exact ⟨a, b, c, d, e, f, g, k, rfl⟩

theorem clampSetting_self {lo hi x : Nat} (h : lo ≤ x ∧ x ≤ hi) : clampSetting lo hi x = (x, 0) := by
  unfold clampSetting
  rw [if_neg (by omega), if_neg (by omega)]

/-- R171: the record of settings whose profile has its eight breakpoints has 64 bytes. -/
theorem settingsBytes_length {t : Settings} (h : t.profile.length = 8) : (settingsBytes t).length = 64 := by
  obtain ⟨a, b, c, d, e, f, g, k, hp⟩ := list_eight h
  simp [settingsBytes, hp, lowFirst_two]

/-- A number below 65,536 from its two bytes. -/
theorem two_bytes {n : Nat} (h : n < 65536) : n % 256 + 256 * (n / 256 % 256) = n := by omega

theorem recordProfile_settingsBytes {t : Settings} (h : profileAcceptable t.profile = true) :
    recordProfile (settingsBytes t) = t.profile := by
  simp only [profileAcceptable, Bool.and_eq_true, beq_iff_eq, List.all_eq_true, decide_eq_true_eq] at h
  obtain ⟨⟨hlen, hrange⟩, -⟩ := h
  obtain ⟨a, b, c, d, e, f, g, k, hp⟩ := list_eight hlen
  rw [hp] at hrange ⊢
  have hback (x : Breakpoint) (hx : x ∈ [a, b, c, d, e, f, g, k]) :
      Breakpoint.mk (x.distance % 256 + 256 * (x.distance / 256 % 256)) (x.velocity % 256) = x := by
    obtain ⟨-, hd, -, hv⟩ := hrange x hx
    rw [two_bytes (by omega), Nat.mod_eq_of_lt (by omega)]
  have hbytes : recordProfile (settingsBytes t) = [a, b, c, d, e, f, g, k].map fun x =>
      Breakpoint.mk (x.distance % 256 + 256 * (x.distance / 256 % 256)) (x.velocity % 256) := by
    simp [recordProfile, List.range, List.range.loop, hostField2, byteAt, settingsBytes, hp, lowFirst_two]
  rw [hbytes]
  exact (List.map_congr_left hback).trans (List.map_id' _)

/-- The scalars of a Settings Record as its fields give them. -/
theorem hostField2_settingsBytes (t : Settings) :
    [0, 2, 4, 6, 8, 10].map (hostField2 (settingsBytes t)) =
      [t.targetSpeed, t.bias, t.startDuty, t.dutyFloor, t.dutyCeiling, t.hysteresis].map
        fun n => n % 256 + 256 * (n / 256 % 256) := by
  simp [hostField2, byteAt, settingsBytes, lowFirst_two]

theorem byteAt_settingsBytes (t : Settings) :
    [12, 13, 14, 15, 16, 17, 18, 19, 20, 21, 22, 23, 24, 25].map (byteAt (settingsBytes t)) =
      [t.kp, t.ki, t.stability, t.spinUpLimit, t.relockLimit, t.idleLimit, t.retryLimit, t.softThreshold,
        t.presenceCount, t.pressCount, t.releaseCount, t.settleTime, t.onTrackCount, t.kv].map fun n => n % 256 := by
  simp [byteAt, settingsBytes, lowFirst_two]

theorem switches_settingsBytes (t : Settings) :
    ((settingsBytes t).getD 26 0#8).getLsbD 0 = t.autoLock ∧
      ((settingsBytes t).getD 26 0#8).getLsbD 1 = t.autoSpin := by
  have hbyte : (settingsBytes t).getD 26 0#8 =
      BitVec.ofNat 8 ((if t.autoLock then 1 else 0) + (if t.autoSpin then 2 else 0)) := by
    simp [settingsBytes, lowFirst_two]
  rw [hbyte]
  cases t.autoLock <;> cases t.autoSpin <;> decide

/-- R169, R171: the record of settings in range is taken back with no adjustment. -/
theorem takeSettings_settingsBytes {t old : Settings} (h : t.inRange) :
    takeSettings old (settingsBytes t) = (t, 0) := by
  obtain ⟨hspeed, hkp, hki, hbias, hstart, hfloor, hceiling, hhyst, hstab, hspin, hrelock, hidle, hretry, hsoft,
    hpresence, hpress, hrelease, hsettle, hcount, hkv, hprofile⟩ := h
  have hwords := hostField2_settingsBytes t
  have hbytes := byteAt_settingsBytes t
  obtain ⟨hlock, hauto⟩ := switches_settingsBytes t
  have hword {n : Nat} (hn : n ≤ 65535) : n % 256 + 256 * (n / 256 % 256) = n := two_bytes (by omega)
  have hbyte {n : Nat} (hn : n ≤ 255) : n % 256 = n := Nat.mod_eq_of_lt (by omega)
  simp only [List.map_cons, List.map_nil, List.cons.injEq, and_true] at hwords hbytes
  obtain ⟨w0, w2, w4, w6, w8, w10⟩ := hwords
  obtain ⟨b12, b13, b14, b15, b16, b17, b18, b19, b20, b21, b22, b23, b24, b25⟩ := hbytes
  rw [hword (by omega)] at w0 w2 w4 w6 w8 w10
  rw [hbyte (by omega)] at b12 b13 b14 b15 b16 b17 b18 b19 b20 b21 b22 b23 b24 b25
  unfold takeSettings
  simp only [w0, w2, w4, w6, w8, w10, b12, b13, b14, b15, b16, b17, b18, b19, b20, b21, b22, b23, b24, b25, hlock,
    hauto, recordProfile_settingsBytes hprofile, hprofile, if_true, clampSetting_self hspeed,
    clampSetting_self hstart, clampSetting_self hceiling, clampSetting_self hhyst, clampSetting_self hspin,
    clampSetting_self hrelock, clampSetting_self hpresence, clampSetting_self hpress, clampSetting_self hrelease,
    clampSetting_self hsettle, clampSetting_self hcount, clampSetting_self hkv,
    clampSetting_self ⟨Nat.zero_le _, hbias⟩, clampSetting_self ⟨Nat.zero_le _, hfloor⟩,
    clampSetting_self ⟨Nat.zero_le _, hstab⟩, clampSetting_self ⟨Nat.zero_le _, hretry⟩]

/-- Settles O54: every field of the record is read back within its range, where no clamp acts. -/
theorem settingsAreTakenInRange : Obligations.SettingsAreTakenInRange := by
  unfold Obligations.SettingsAreTakenInRange
  refine ⟨fun t old ht _ => ⟨settingsBytes_length ?_, takeSettings_settingsBytes ht⟩,
    fun old data h => takeSettings_inRange data h⟩
  obtain ⟨-, -, -, -, -, -, -, -, -, -, -, -, -, -, -, -, -, -, -, -, hprofile⟩ := ht
  simp only [profileAcceptable, Bool.and_eq_true, beq_iff_eq] at hprofile
  exact hprofile.1.1

/-! ### ID fields and data fields (R86, R87, R97) -/

/-- R86: the ID field that Format Track records. -/
def recordedId (cylinder head sector : Nat) : IdField where
  mark := idMark
  cylinderHigh := BitVec.ofNat 8 (cylinder / 256)
  cylinderLow := BitVec.ofNat 8 cylinder
  head := BitVec.ofNat 8 head
  sector := BitVec.ofNat 8 sector
  flags := 0#8
  check := crc16 [idMark, BitVec.ofNat 8 (cylinder / 256), BitVec.ofNat 8 cylinder, BitVec.ofNat 8 head,
    BitVec.ofNat 8 sector, 0#8]

theorem idFieldBytes_eq (cylinder head sector : Nat) :
    let f := recordedId cylinder head sector
    idFieldBytes cylinder head sector = List.replicate 12 0#8 ++
      [f.mark, f.cylinderHigh, f.cylinderLow, f.head, f.sector, f.flags, f.check.extractLsb' 8 8,
        f.check.extractLsb' 0 8] := by
  unfold idFieldBytes
  dsimp only
  rw [highFirst_word]
  rfl

/-- R97: the data field that the write CRC unit records. -/
def recordedField (data : Vector Byte 512) : DataField := ⟨dataMark, data, crc32 (dataMark :: data.toList)⟩

theorem dataFieldBytes_eq (data : Vector Byte 512) :
    let f := recordedField data
    dataFieldBytes data.toList = List.replicate 12 0#8 ++ f.mark :: data.toList ++
      [f.check.extractLsb' 24 8, f.check.extractLsb' 16 8, f.check.extractLsb' 8 8, f.check.extractLsb' 0 8] := by
  unfold dataFieldBytes
  rw [highFirst_check]
  rfl

/-! ### Defect Records (R106, R107) -/

/-- The bytes after the last of a record read as zeros. -/
theorem byteAt_zeros (l : List Byte) (n k : Nat) : byteAt (l ++ List.replicate k 0#8) n = byteAt l n := by
  unfold byteAt
  congr 1
  simp only [List.getD_eq_getElem?_getD, List.getElem?_append]
  split
  · rfl
  next h =>
    rw [List.getElem?_eq_none (by omega : l.length ≤ n), List.getElem?_replicate]
    split <;> rfl

/-- R106: the four bytes of an entry. -/
def entryBytes (e : RemapEntry) : List Byte := highFirst 2 e.lsn ++ highFirst 2 e.spare

theorem entryBytes_eq (e : RemapEntry) : entryBytes e =
    [BitVec.ofNat 8 (e.lsn / 256), BitVec.ofNat 8 e.lsn, BitVec.ofNat 8 (e.spare / 256), BitVec.ofNat 8 e.spare] :=
  rfl

theorem flatMap_entryBytes_length (l : List RemapEntry) : (l.flatMap entryBytes).length = 4 * l.length := by
  induction l with
  | nil => rfl
  | cons e l ih =>
    rw [List.flatMap_cons, List.length_append, ih, entryBytes_eq]
    simp only [List.length_cons, List.length_nil]
    omega

/-- An entry is read back at its place behind the record's first eight bytes. -/
theorem mediumField2_entries {l : List RemapEntry} {i : Nat} {e : RemapEntry} (h : l[i]? = some e)
    (hlsn : e.lsn < 65536) (hspare : e.spare < 65536) :
    mediumField2 (l.flatMap entryBytes) (4 * i) = e.lsn ∧ mediumField2 (l.flatMap entryBytes) (4 * i + 2) = e.spare := by
  induction l generalizing i with
  | nil => simp at h
  | cons x l ih =>
    rw [List.flatMap_cons, entryBytes_eq]
    cases i with
    | zero =>
      obtain rfl : x = e := by simpa using h
      simp [mediumField2, byteAt]
      omega
    | succ i =>
      have hrest := ih (i := i) (by simpa using h)
      simpa [mediumField2, byteAt, Nat.mul_add, Nat.add_right_comm _ 4] using hrest

/-- R106: the record without the zeros after its last entry. -/
def recordUsed (l : List RemapEntry) (nextSpare : Nat) : List Byte :=
  highFirst 2 recordMark ++ highFirst 2 l.length ++ highFirst 2 nextSpare ++ highFirst 2 0 ++ l.flatMap entryBytes

theorem recordBytes_eq (l : List RemapEntry) (nextSpare : Nat) : recordBytes l nextSpare =
    recordUsed l nextSpare ++ List.replicate (512 - (recordUsed l nextSpare).length) 0#8 := rfl

theorem recordUsed_length (l : List RemapEntry) (nextSpare : Nat) :
    (recordUsed l nextSpare).length = 8 + 4 * l.length := by
  simp only [recordUsed, List.length_append, flatMap_entryBytes_length, highFirst_two, List.length_cons,
    List.length_nil]

theorem mediumField2_recordBytes (l : List RemapEntry) (nextSpare n : Nat) :
    mediumField2 (recordBytes l nextSpare) n = mediumField2 (recordUsed l nextSpare) n := by
  simp only [mediumField2, recordBytes_eq, byteAt_zeros]

theorem mediumField2_recordUsed (l : List RemapEntry) (nextSpare n : Nat) :
    mediumField2 (recordUsed l nextSpare) (n + 8) = mediumField2 (l.flatMap entryBytes) n := by
  simp [mediumField2, byteAt, recordUsed, highFirst_two]

theorem recordEntries_recordBytes {l : List RemapEntry} {nextSpare : Nat}
    (h : ∀ e ∈ l, e.lsn < 65536 ∧ e.spare < 65536) : recordEntries (recordBytes l nextSpare) l.length = l := by
  refine List.ext_getElem? fun i => ?_
  rcases Nat.lt_or_ge i l.length with hi | hi
  · have he := List.getElem?_eq_getElem hi
    obtain ⟨hlsn, hspare⟩ := h _ (List.getElem_mem hi)
    obtain ⟨hl, hs⟩ := mediumField2_entries he hlsn hspare
    simp only [recordEntries, List.getElem?_map, List.getElem?_range hi, Option.map_some, mediumField2_recordBytes]
    rw [Nat.add_comm 8, mediumField2_recordUsed, hl, Nat.add_comm 10,
      show 4 * i + 10 = 4 * i + 2 + 8 from rfl, mediumField2_recordUsed, hs, he]
  · simp [recordEntries, hi]

/-- R107: the entries of a lawful table pass the checks of a Defect Record. -/
theorem DefectMap.tableLaw.acceptable {m : DefectMap} (h : m.tableLaw) (hl : ∀ e ∈ m.table, e.lsn < 40448) :
    tableAcceptable m.table m.nextSpare = true := by
  obtain ⟨-, hsorted, hnodup, hbelow, -⟩ := h
  simp only [tableAcceptable, Bool.and_eq_true, List.all_eq_true, decide_eq_true_eq]
  refine ⟨⟨fun e he => ⟨hl e he, hbelow e he⟩, fun x hx => ?_⟩, hnodup⟩
  obtain ⟨i, hi⟩ := List.mem_iff_getElem?.mp hx
  obtain ⟨hx₁, hx₂⟩ := List.getElem?_zip_eq_some.mp hi
  rw [List.getElem?_tail] at hx₂
  obtain ⟨hi₁, he₁⟩ := List.getElem?_eq_some_iff.mp hx₁
  obtain ⟨hi₂, he₂⟩ := List.getElem?_eq_some_iff.mp hx₂
  rw [← he₁, ← he₂]
  exact List.pairwise_iff_getElem.mp hsorted i (i + 1) hi₁ hi₂ (Nat.lt_succ_self i)

theorem readRecord_recordBytes {m : DefectMap} (h : m.tableLaw) (hl : ∀ e ∈ m.table, e.lsn < 40448) :
    readRecord (recordBytes m.table m.nextSpare) = some (m.table, m.nextSpare) := by
  have hok := h.acceptable hl
  obtain ⟨hsize, -, -, hbelow, hspares, -⟩ := h
  simp only [Config.tableSize, Config.spareSectors] at hsize hspares
  have hfield (n : Nat) : mediumField2 (recordBytes m.table m.nextSpare) n =
      mediumField2 (recordUsed m.table m.nextSpare) n := mediumField2_recordBytes ..
  have hmark : mediumField2 (recordUsed m.table m.nextSpare) 0 = recordMark := by
    simp [mediumField2, byteAt, recordUsed, highFirst_two, recordMark]
  have hcount : mediumField2 (recordUsed m.table m.nextSpare) 2 = m.table.length := by
    simp [mediumField2, byteAt, recordUsed, highFirst_two]
    omega
  have hnext : mediumField2 (recordUsed m.table m.nextSpare) 4 = m.nextSpare := by
    simp [mediumField2, byteAt, recordUsed, highFirst_two]
    omega
  have hentries : recordEntries (recordBytes m.table m.nextSpare) m.table.length = m.table :=
    recordEntries_recordBytes fun e he => by
      have := hl e he
      have := hbelow e he
      omega
  unfold readRecord
  simp only [hfield, hmark, hcount, hnext, hentries]
  exact if_pos ⟨trivial, hsize, hspares, hok⟩

/-- Settles O55: the checks are recomputed over the bytes they were formed from. -/
theorem whatIsRecordedIsReadBack : Obligations.WhatIsRecordedIsReadBack := by
  unfold Obligations.WhatIsRecordedIsReadBack
  refine ⟨fun cylinder head sector hc hh hs => ?_, fun data => ?_, fun m h hl => ⟨?_, readRecord_recordBytes h hl⟩⟩
  · refine ⟨recordedId cylinder head sector, idFieldBytes_eq cylinder head sector, ?_, ?_, ?_, ?_, rfl⟩
    · simp [idPasses, recordedId]
    all_goals
      simp only [idCylinder, recordedId, BitVec.toNat_ofNat]
      omega
  · exact ⟨recordedField data, rfl, by simp [dataPasses, recordedField], dataFieldBytes_eq data⟩
  · have hsize := h.1
    simp only [Config.tableSize] at hsize
    rw [recordBytes_eq, List.length_append, List.length_replicate, recordUsed_length]
    omega

end Sys2Proof.Machine

/-!
PROOFS. The commands of the ports and the resets: the Command/Status port, the anchor and the status (R155, R156,
R158), Part Reset (R175) and Bus Reset (R177).
-/

namespace Sys2Proof.Machine

/-- Settles O1. -/
theorem stepTakesTheFrontCommand : Obligations.StepTakesTheFrontCommand := by
  unfold Obligations.StepTakesTheFrontCommand
  intro s c rest h
  unfold step
  rw [h]

/-- A command's outcome by the state after it. -/
theorem next_instantEnd {t u : State} (h : t = u) :
    (Host.Outcome.next t.instantEnd : Host.Outcome State Fault Refusal) = .next u.instantEnd := by
  rw [h]

/-! ### A change of one record that reports nothing (R25, R53, R84, R118) -/

section

variable {s : State} {b : Bay}

theorem State.modBay_quiet {f : BayControl → BayControl} (h : bayReported (f (s.bay b)) = bayReported (s.bay b)) :
    s.modBay b f = { s with bays := s.bays.update b f } := by
  simp [State.modBay, State.report, h]

theorem State.modSpindle_quiet {f : Spindle → Spindle} (h : (f (s.spindle b)).phase = (s.spindle b).phase) :
    s.modSpindle b f = { s with spindles := s.spindles.update b f } := by
  simp [State.modSpindle, State.report, h]

theorem State.modPositioner_quiet {f : Positioner → Positioner}
    (h : actuatorNotable (s.positioner b).state (f (s.positioner b)).state = false) :
    s.modPositioner b f = { s with positioners := s.positioners.update b f } := by
  simp [State.modPositioner, State.report, h]

theorem State.modMap_quiet {f : DefectMap → DefectMap} (hs : (f (s.map b)).status = (s.map b).status)
    (hm : (f (s.map b)).marginal = (s.map b).marginal) :
    s.modMap b f = { s with maps := s.maps.update b f } := by
  simp [State.modMap, State.report, hs, hm]

end

@[simp] theorem actuatorNotable_self (a : Actuator) : actuatorNotable a a = false := by
  simp [actuatorNotable]

/-! ### Bus Reset (R177) -/

theorem freed_requests (l : List Slot) : (l.map fun x => Slot.freed x.data).any slotRequests = false := by
  simp [Slot.freed, slotRequests]

/-- A machine right after Bus Reset has nothing to do: no wait has ended. -/
theorem busReset_settled (s : State) : (takeBusReset s).Settled := by
  have hserve : (takeBusReset s).serveWaiter = none := by
    unfold State.serveWaiter
    split
    next hw => cases hw
    · rfl
  refine (firstWait_none _ _).mpr ?_
  simp only [waits, List.forall_mem_cons, List.not_mem_nil, false_imp_iff, implies_true, and_true]
  exact ⟨rfl, rfl, rfl, rfl, rfl, rfl, rfl, rfl, hserve, rfl, rfl, rfl, rfl, rfl, rfl, rfl, rfl, rfl, rfl, rfl, rfl,
    rfl, rfl, rfl, rfl, rfl, rfl, rfl⟩

theorem busReset_closed (s : State) : (takeBusReset s).closed = takeBusReset s := by
  have hreq : (takeBusReset s).interlocked.timersUpdated.requesting = false := by
    have hslots : (takeBusReset s).slots.any slotRequests = false := freed_requests s.slots
    unfold State.requesting
    rw [show (takeBusReset s).interlocked.timersUpdated.slots = (takeBusReset s).slots from rfl, hslots]
    rfl
  have hlines : (takeBusReset s).closed =
      { takeBusReset s with dmaRequest := (takeBusReset s).interlocked.timersUpdated.requesting } := rfl
  rw [hlines, hreq]
  rfl

/-- Settles O18: after Bus Reset no wait has ended, no timer runs by condition and no line is asserted. -/
theorem busResetRestoresEveryBlock : Obligations.BusResetRestoresEveryBlock := by
  unfold Obligations.BusResetRestoresEveryBlock
  intro s
  have hend : (takeBusReset s.nextInstant).instantEnd = takeBusReset s.nextInstant := by
    rw [instantEnd_of_settled _ (busReset_settled _), busReset_closed]
  exact congrArg Host.Outcome.next hend

/-! ### The laws right after Bus Reset -/

theorem reset_rangeLaw : State.reset.rangeLaw where
  memory := rfl
  pool := rfl
  settings := default_inRange
  generation b := by cases b <;> exact Nat.zero_le _
  spindles := PerBay.forall_both (Q := Spindle.inRange) reset_spindle_inRange reset_spindle_inRange
  positioners := PerBay.forall_both (Q := Positioner.inRange) reset_positioner_inRange reset_positioner_inRange
  maps b := by cases b <;> exact ⟨Nat.zero_le _, Nat.zero_le _⟩
  retryCount b := by cases b <;> exact Nat.zero_le _
  searches := ⟨Nat.zero_le _, Nat.zero_le _, Nat.zero_le _⟩
  entries e he := nomatch he

theorem reset_flyInv : State.reset.flyInv :=
  flyInv_iff.mpr (.of_off (fun b => by cases b <;> exact ⟨rfl, nofun⟩) rfl)

theorem reset_slotInv : State.reset.slotInv := by
  refine State.slotInv.of_noSlot ⟨⟨rfl, fun x hx => ?_, fun id => ?_⟩, nofun⟩ rfl
  · rw [List.eq_of_mem_replicate hx]
    simp [Slot.freed]
  · simp [State.slotsOf, State.reset, Slot.freed]

/-- Settles O8. -/
theorem resetMeetsEveryLaw : Obligations.ResetMeetsEveryLaw :=
  ⟨reset_rangeLaw, .of_free rfl rfl fun b => by cases b <;> exact not_or.mpr ⟨nofun, nofun⟩, reset_flyInv,
    State.queueLaw_of_empty rfl rfl rfl rfl rfl, Memory.wf_reset, reset_slotInv, nofun,
    fun b => by cases b <;> nofun, fun b => by cases b <;> exact DefectMap.tableLaw_empty rfl rfl⟩

/-! ### Part Reset (R175) -/

/-- Settles O16: neither bay's change at a Part Reset is notable. -/
theorem partResetBeginsTheRunDown : Obligations.PartResetBeginsTheRunDown := by
  unfold Obligations.PartResetBeginsTheRunDown
  intro s hreset begun
  have htake : s.nextInstant.command takePartReset = takePartReset s.nextInstant := if_neg (by simp [hreset])
  have hquiet (t : State) (b : Bay) : t.modBay b runDownBegun = { t with bays := t.bays.update b runDownBegun } :=
    State.modBay_quiet rfl
  refine next_instantEnd (htake.trans ?_)
  unfold takePartReset
  rw [hquiet, hquiet]
  rfl

/-! ### The anchor and the status (R155) -/

theorem anchorHalves (a : BitVec 32) : a.extractLsb' 16 16 ++ a.extractLsb' 0 16 = a := by
  refine BitVec.eq_of_getLsbD_eq fun i hi => ?_
  simp only [BitVec.getLsbD_append, BitVec.getLsbD_extractLsb', Nat.zero_add]
  split_ifs with h
  · simp [h]
  · simp [show 16 + (i - 16) = i by omega, show i - 16 < 16 by omega]

/-- R155: the bits of the status word, each in its place. -/
theorem statusBits (l : LinkState) (line low bad reset : Bool) :
    let w : Word := BitVec.ofNat 16 (linkStateCode l + statusBit line 8 + statusBit low 16 + statusBit bad 32 +
      statusBit reset 64)
    w.toNat % 8 = linkStateCode l ∧ w.getLsbD 3 = line ∧ w.getLsbD 4 = low ∧ w.getLsbD 5 = bad ∧
      w.getLsbD 6 = reset ∧ ∀ i : Fin 16, 7 ≤ i.val → w.getLsbD i = false := by
  cases l <;> revert line low bad reset <;> decide

/-- Settles O17: each line of the status has a bit of its own above the three of the Link State. -/
theorem portsHoldAnchorAndStatus : Obligations.PortsHoldAnchorAndStatus := by
  unfold Obligations.PortsHoldAnchorAndStatus
  intro s next
  obtain ⟨hstate, hline, hlow, hbad, hreset, hzero⟩ := statusBits s.link.state s.link.interruptLine
    s.supply.accepted s.ports.badCommand s.resetInProgress
  refine ⟨anchorHalves _, fun value hl hr => ⟨next_instantEnd ?_, next_instantEnd ?_⟩, fun half value h => next_instantEnd ?_,
    s.nextInstant.statusWord, rfl, ?_, hline, hlow, hbad, hreset, fun i hi => ?_⟩
  · exact if_pos ⟨hl, by simpa using hr⟩
  · exact if_pos ⟨hl, by simpa using hr⟩
  · refine if_neg fun hboth => ?_
    have hr : s.resetInProgress = false := by simpa using hboth.2
    exact h.elim (fun hl => hl hboth.1) fun ht => by simp [hr] at ht
  · refine hstate.trans ?_
    cases s.link.state <;> rfl
  · rcases Nat.lt_or_ge i 16 with h16 | h16
    · exact hzero ⟨i, h16⟩ hi
    · exact BitVec.getLsbD_of_ge _ _ h16

/-! ### The Command/Status port (R156, R158) -/

/-- R156: while Reset in Progress shows every command sets Bad Command. -/
theorem command_refused {s : State} {f : State → State} (h : s.resetInProgress = true) :
    s.command f = s.badCommand := if_pos h

theorem command_taken {s : State} {f : State → State} (h : s.resetInProgress = false) : s.command f = f s :=
  if_neg (by simp [h])

/-- R156: a code that names no command. -/
theorem takeCode_unknown {code : Word} {s : State} (h : code.toNat = 0 ∨ 5 < code.toNat) :
    takeCode code s = s.badCommand := by
  unfold takeCode commandOfCode
  rw [if_neg (by omega), if_neg (by omega), if_neg (by omega), if_neg (by omega), if_neg (by omega)]

/-- R158, R164: both records of a link that has no pending one become raised, in one order or the other. -/
theorem raiseBoth_eq {s : State} (h : s.link.recordOrder = []) :
    ∃ first : Bay, s.raiseBoth = { s with
      freeCount := s.freeCount + 1
      link := { s.link with pendingRecord := ⟨.raised, .raised⟩, recordOrder := [first, first.other] } } := by
  refine ⟨if Config.recordFirst s.freeCount then .bay0 else .bay1, ?_⟩
  unfold State.raiseBoth raiseRecord
  simp only [h]
  split <;> rfl

/-- R158: what a Start that is taken makes of the link. -/
theorem takeStart_taken {s : State} (hl : s.link.state = .offline) (hsup : s.supply.accepted = false)
    (ha : anchorValid s.ports.anchor = true) : takeStart s = s.started :=
  if_pos ⟨hl, ha, by simp [hsup]⟩

theorem takeStart_refused {s : State} (h : s.link.state ≠ .offline ∨ anchorValid s.ports.anchor = false ∨
    s.supply.accepted = true) : takeStart s = s.badCommand := by
  refine if_neg fun ⟨hl, ha, hsup⟩ => ?_
  rcases h with h | h | h
  · exact h hl
  · simp [h] at ha
  · simp [h] at hsup

section

variable {s : State} (hr : s.resetInProgress = false)

include hr

theorem attention_eq : s.nextInstant.command takeAttention = takeAttention s.nextInstant := command_taken hr
theorem abort_eq : s.nextInstant.command takeAbort = takeAbort s.nextInstant := command_taken hr
theorem goOffline_eq : s.nextInstant.command takeGoOffline = takeGoOffline s.nextInstant := command_taken hr
theorem start_eq : s.nextInstant.command takeStart = takeStart s.nextInstant := command_taken hr

end

theorem State.nextInstant_linkState (s : State) : s.nextInstant.link.state = s.link.state := rfl

theorem anchorValid_iff (a : BitVec 32) :
    anchorValid a = true ↔ a.toNat ≠ 0 ∧ a.toNat % 16 = 0 ∧ a.toNat < 2 ^ 24 := by
  rw [anchorValid, decide_eq_true_eq, show Config.hostSize = 2 ^ 24 from rfl]

/-- Settles O15: the Link State decides what a command does, once Reset in Progress does not show. -/
theorem commandsAreTakenByLinkState : Obligations.CommandsAreTakenByLinkState := by
  unfold Obligations.CommandsAreTakenByLinkState
  intro s next bad
  refine ⟨fun hr c hc => ?_, fun code hcode => next_instantEnd (takeCode_unknown hcode), ?_, fun hr =>
    ⟨fun hl hsup ha0 ha16 hsize horder => ?_, fun hl => ?_, fun hl ha => ?_, fun hl c hc => ?_, fun hl => ?_,
      fun hl => ?_, fun hl => ?_, fun hl => ?_, fun hl => ?_, fun hl => ⟨?_, ?_, ?_⟩⟩⟩
  · simp only [List.mem_cons, List.not_mem_nil, or_false] at hc
    rcases hc with rfl | rfl | rfl | rfl | rfl <;> exact next_instantEnd (command_refused hr)
  · simp only [List.forall_mem_cons, List.not_mem_nil, false_imp_iff, implies_true, and_true]
    exact ⟨⟨rfl, rfl⟩, ⟨rfl, rfl⟩, ⟨rfl, rfl⟩, ⟨rfl, rfl⟩, ⟨rfl, rfl⟩⟩
  · obtain ⟨first, hfirst⟩ := raiseBoth_eq (s := { next with
      counts := { s.counts with taken := 0#16, finished := 0#16, cursor := 0#32, fault := .none }
      link := { s.link with state := .running, attentionHeld := true, startWrite := true } }) horder
    refine ⟨first, next_instantEnd ((start_eq hr).trans ?_)⟩
    rw [takeStart_taken (s := s.nextInstant) hl hsup ((anchorValid_iff _).mpr ⟨ha0, ha16, hsize⟩)]
    exact hfirst
  · exact next_instantEnd ((start_eq hr).trans (takeStart_refused (.inl hl)))
  · refine next_instantEnd ((start_eq hr).trans (takeStart_refused (.inr ?_)))
    have hvalid := anchorValid_iff s.ports.anchor
    by_cases hsup : s.supply.accepted = true
    · exact .inr hsup
    · refine .inl (Bool.eq_false_iff.mpr fun h => ?_)
      obtain ⟨h0, h16, hsize⟩ := hvalid.mp h
      rcases ha with ha | ha | ha | ha
      · exact h0 (by simp [ha])
      · exact ha h16
      · omega
      · exact hsup ha
  · simp only [List.mem_cons, List.not_mem_nil, or_false] at hc
    rcases hc with rfl | rfl | rfl
    · exact next_instantEnd ((attention_eq hr).trans (by rw [takeAttention, s.nextInstant_linkState, hl]; rfl))
    · exact next_instantEnd ((abort_eq hr).trans (by rw [takeAbort, s.nextInstant_linkState, hl]; rfl))
    · exact next_instantEnd ((goOffline_eq hr).trans (by rw [takeGoOffline, s.nextInstant_linkState, hl]; rfl))
  · refine next_instantEnd ((attention_eq hr).trans ?_)
    rcases hl with hl | hl <;> rw [takeAttention, s.nextInstant_linkState, hl] <;> rfl
  · refine next_instantEnd ((attention_eq hr).trans ?_)
    rw [takeAttention, s.nextInstant_linkState, hl]
    rfl
  · refine next_instantEnd ((abort_eq hr).trans ?_)
    rcases hl with hl | hl | hl <;> rw [takeAbort, s.nextInstant_linkState, hl] <;> rfl
  · refine next_instantEnd ((goOffline_eq hr).trans ?_)
    rcases hl with hl | hl <;> rw [takeGoOffline, s.nextInstant_linkState, hl] <;> rfl
  · refine next_instantEnd ((goOffline_eq hr).trans ?_)
    rw [takeGoOffline, s.nextInstant_linkState, hl]
    rfl
  · refine next_instantEnd ((attention_eq hr).trans ?_)
    rw [takeAttention, s.nextInstant_linkState, hl]
    rfl
  · refine next_instantEnd ((abort_eq hr).trans ?_)
    rw [takeAbort, s.nextInstant_linkState, hl]
    rfl
  · refine next_instantEnd ((goOffline_eq hr).trans ?_)
    rw [takeGoOffline, s.nextInstant_linkState, hl]
    rfl

end Sys2Proof.Machine

/-!
PROOFS. One bay's operations leave the blocks of the other bay: a layer over the named updates of the state.
-/

namespace Sys2Proof.Machine

namespace BayKept

variable {s t u : State} {b c : Bay}

theorem refl (s : State) (c : Bay) : BayKept s s c := ⟨rfl, rfl, rfl, rfl⟩

theorem trans (h : BayKept s t c) (k : BayKept t u c) : BayKept s u c :=
  ⟨k.bay.trans h.bay, k.spindle.trans h.spindle, k.positioner.trans h.positioner, k.map.trans h.map⟩

/-- A change of anything but the blocks of the bays. -/
theorem of_blocks (hb : t.bays = s.bays) (hs : t.spindles = s.spindles) (hp : t.positioners = s.positioners)
    (hm : t.maps = s.maps) : BayKept s t c :=
  ⟨congrArg (·.get c) hb, congrArg (·.get c) hs, congrArg (·.get c) hp, congrArg (·.get c) hm⟩

/-- A change of one bay's map. -/
theorem of_map (hb : t.bays = s.bays) (hs : t.spindles = s.spindles) (hp : t.positioners = s.positioners)
    (hm : t.map c = s.map c) : BayKept s t c :=
  ⟨congrArg (·.get c) hb, congrArg (·.get c) hs, congrArg (·.get c) hp, hm⟩

/-- Another start with the same blocks. -/
theorem start (h : BayKept t u c) (hb : t.bays = s.bays) (hs : t.spindles = s.spindles)
    (hp : t.positioners = s.positioners) (hm : t.maps = s.maps) : BayKept s u c :=
  (of_blocks hb hs hp hm).trans h

theorem modBay (f : BayControl → BayControl) : BayKept s (s.modBay b f) b.other :=
  ⟨by simp, by simp, by simp, by simp⟩

theorem modSpindle (f : Spindle → Spindle) : BayKept s (s.modSpindle b f) b.other :=
  ⟨by simp, by simp, by simp, by simp⟩

theorem modPositioner (f : Positioner → Positioner) : BayKept s (s.modPositioner b f) b.other :=
  ⟨by simp, by simp, by simp, by simp⟩

theorem modMap (f : DefectMap → DefectMap) : BayKept s (s.modMap b f) b.other :=
  ⟨by simp, by simp, by simp, by simp⟩

theorem handBack (o : Order) (outcome : OrderState) : BayKept s (s.handBack b o outcome) b.other := by
  unfold State.handBack
  split
  · exact refl _ _
  · exact modMap _
  · exact of_blocks rfl rfl rfl rfl

theorem handBack? (o : Option Order) (outcome : OrderState) : BayKept s (s.handBack? b o outcome) b.other := by
  unfold State.handBack?
  split
  · exact refl _ _
  · exact handBack _ _

theorem endOrder (outcome : OrderState) : BayKept s (s.endOrder b outcome) b.other :=
  (handBack? _ _).trans (modPositioner _)

theorem dropHeld (outcome : OrderState) : BayKept s (s.dropHeld b outcome) b.other :=
  ((handBack? _ _).trans (handBack? _ _)).trans (modPositioner _)

theorem dropLoad : BayKept s (s.dropLoad b) b.other := by
  unfold State.dropLoad
  split
  · exact dropHeld _
  · exact refl _ _

theorem selectHead (h : Nat) : BayKept s (s.selectHead b h) b.other := modPositioner _

theorem endSeekIfThere : BayKept s (s.endSeekIfThere b) b.other := by
  unfold State.endSeekIfThere
  dsimp only
  repeat' split
  · exact endOrder _
  · exact refl _ _
  · exact refl _ _

theorem beginRetract : BayKept s (s.beginRetract b) b.other := modPositioner _

theorem loseChannel (c : Bay) : BayKept s (s.loseChannel b) c :=
  of_blocks (by simp) (by simp) (by simp) (by simp)

theorem endMount : BayKept s (s.endMount b) b.other := by
  unfold State.endMount
  extract_lets cut
  split
  · exact refl _ _
  · have hcut : BayKept s cut b.other := by
      unfold cut
      split
      · exact of_blocks (by simp) (by simp) (by simp) (by simp)
      · exact refl _ _
    exact (hcut.trans (of_blocks (by simp) (by simp) (by simp) (by simp))).trans (modMap _)

theorem clearMount : BayKept s (s.clearMount b) b.other := endMount.trans (modMap _)

theorem emergencyRetract : BayKept s (s.emergencyRetract b) b.other := by
  unfold State.emergencyRetract
  split
  · exact (((loseChannel _).trans (endOrder _)).trans (dropHeld _)).trans beginRetract
  · exact refl _ _

theorem controlledStop : BayKept s (s.controlledStop b) b.other := by
  unfold State.controlledStop
  extract_lets begun
  split
  · exact (modPositioner _).trans (modPositioner _)
  · exact modPositioner _

theorem recordFault (f : FaultClass) : BayKept s (s.recordFault b f) b.other := modBay _

theorem recordSeekFault : BayKept s (s.recordSeekFault b) b.other := (recordFault _).trans (modPositioner _)

theorem countReseek (g : Giver) : BayKept s (s.countReseek b g) b.other := by
  cases g with
  | bay => exact refl _ _
  | mount => exact modMap _
  | task id => exact of_blocks rfl rfl rfl rfl

theorem retryMotion (o : Order) : BayKept s (s.retryMotion b o) b.other := by
  unfold State.retryMotion
  split
  · exact ((endOrder _).trans (modPositioner _)).trans controlledStop
  · exact ((modPositioner _).trans (countReseek _)).trans controlledStop

theorem carryOut (o : Order) : BayKept s (s.carryOut b o) b.other := by
  unfold State.carryOut
  dsimp only
  repeat' split
  · exact (modPositioner _).trans (modPositioner _)
  · exact (modPositioner _).trans (modPositioner _)
  · exact ((modPositioner _).trans (selectHead _)).trans endSeekIfThere
  · exact ((modPositioner _).trans (selectHead _)).trans (modPositioner _)
  · exact ((modPositioner _).trans (selectHead _)).trans (modPositioner _)
  · exact (modPositioner _).trans beginRetract

theorem loadFor (o : Order) : BayKept s (s.loadFor b o) b.other := by
  unfold State.loadFor
  dsimp only
  split
  · exact (modPositioner _).trans (selectHead _)
  · exact modPositioner _

theorem enterFollowing : BayKept s (s.enterFollowing b) b.other := by
  unfold State.enterFollowing
  dsimp only
  repeat' split
  · exact (modPositioner _).trans endSeekIfThere
  · exact (modPositioner _).trans (modPositioner _)
  · exact modPositioner _
  · exact (modPositioner _).trans (endOrder _)
  · exact modPositioner _

theorem holdOrder (o : Order) : BayKept s (s.holdOrder b o) b.other := by
  unfold State.holdOrder
  split
  · exact (handBack? _ _).trans (modPositioner _)
  · exact (handBack? _ _).trans (modPositioner _)

theorem giveOrder (o : Order) : BayKept s (s.giveOrder b o) b.other := by
  unfold State.giveOrder
  repeat' split
  · exact handBack _ _
  · exact handBack _ _
  · exact carryOut _
  · exact holdOrder _
  · exact loadFor _
  · exact holdOrder _
  · exact holdOrder _

theorem holdPark (g : Giver) : BayKept s (s.holdPark b g) b.other := by
  unfold State.holdPark
  split
  · exact modPositioner _
  · exact (handBack? _ _).trans (modPositioner _)

theorem replaceHeld : BayKept s (s.replaceHeld b) b.other := by
  unfold State.replaceHeld
  split
  · exact refl _ _
  · exact (handBack? _ _).trans (modPositioner _)

theorem givePark (g : Giver) : BayKept s (s.givePark b g) b.other := by
  unfold State.givePark
  repeat' split
  · exact (replaceHeld.trans endMount).trans (handBack _ _)
  · exact handBack _ _
  · exact (replaceHeld.trans endMount).trans (modPositioner _)
  · exact (endMount.trans (modPositioner _)).trans beginRetract
  · exact holdPark _

theorem takePark : BayKept s (s.takePark b) b.other :=
  (((endOrder _).trans endMount).trans (modPositioner _)).trans beginRetract

theorem loadFaulted : BayKept s (s.loadFaulted b) b.other :=
  ((recordFault _).trans (endOrder _)).trans beginRetract

theorem enterParked : BayKept s (s.enterParked b) b.other := by
  have hparked := ((modPositioner (s := s) (b := b) parkEnded).trans (modSpindle deferredBrake)).trans
    (endOrder .ended)
  unfold State.enterParked
  extract_lets parked
  split
  · exact ((hparked.trans endMount).trans (handBack _ _)).trans (modPositioner _)
  · exact hparked

theorem failRetract : BayKept s (s.failRetract b) b.other :=
  (((modPositioner _).trans (modSpindle _)).trans (endOrder _)).trans (dropHeld _)

theorem grantPermit : BayKept s (s.grantPermit b) b.other :=
  (modSpindle (s := { s with permitHolder := some b }) _).start rfl rfl rfl rfl

theorem requestPermit : BayKept s (s.requestPermit b) b.other := by
  unfold State.requestPermit
  extract_lets asking
  split
  · exact (modSpindle _).trans grantPermit
  · exact (modSpindle (b := b) _).trans (of_blocks rfl rfl rfl rfl)

theorem enterStopped : BayKept s (s.enterStopped b) b.other := by
  unfold State.enterStopped
  extract_lets stopped
  have hstopped : BayKept s stopped b.other := (modSpindle _).trans dropLoad
  split
  · exact hstopped.trans requestPermit
  · exact hstopped

/-! ### The channel's operations -/

theorem countRetry (g : Giver) : BayKept s (s.countRetry b g) b.other := by
  cases g with
  | bay => exact refl _ _
  | mount => exact modMap _
  | task id => exact of_blocks rfl rfl rfl rfl

theorem mountReadEnd (status : MountStatus) (table : List RemapEntry) (nextSpare : Nat) :
    BayKept s (s.mountReadEnd b status table nextSpare) b.other := by
  exact of_map (by simp) (by simp) (by simp) (by simp [State.mountReadEnd, State.map])

theorem exhausted (g : Giver) (f : FailKind) : BayKept s (s.exhausted b g f) b.other := by
  cases g with
  | bay => exact refl _ _
  | mount => exact mountReadEnd _ _ _
  | task id => exact of_blocks rfl rfl rfl rfl

theorem failAttempt (g : Giver) (f : FailKind) : BayKept s (s.failAttempt b g f) b.other := by
  unfold State.failAttempt
  extract_lets counted
  have hcounted : BayKept s counted b.other :=
    (of_blocks (s := s) (t := s.modChannel _) rfl rfl rfl rfl).trans (countRetry g)
  split
  · exact hcounted
  · exact hcounted.trans (exhausted g f)

theorem interruptChannel : BayKept s (s.interruptChannel b) b.other := by
  unfold State.interruptChannel
  repeat' split
  · exact (loseChannel _).trans (failAttempt _ _)
  · exact loseChannel _
  · exact loseChannel _
  · exact refl _ _

theorem countSoftError : BayKept s (s.countSoftError b) b.other := by
  unfold State.countSoftError
  split
  · exact modMap _
  · exact refl _ _

theorem sectorDone (id : Nat) (f : Entry → Entry) : BayKept s (s.sectorDone b id f) b.other :=
  countSoftError.trans (of_blocks (by simp [State.sectorDone]) (by simp [State.sectorDone])
    (by simp [State.sectorDone]) (by simp [State.sectorDone]))

theorem slip (g : Giver) : BayKept s (s.slip b g) b.other := by
  cases g with
  | bay => exact refl _ _
  | mount => exact (modMap _).trans (of_blocks rfl rfl rfl rfl)
  | task id => exact of_blocks rfl rfl rfl rfl

theorem readInto (g : Giver) (o : Owner) (p : Purpose) (x : SlotSector) (n : Option Nat) :
    BayKept s (s.readInto b g o p x n) b.other := by
  unfold State.readInto
  split
  · exact slip g
  · exact of_blocks rfl rfl rfl rfl

/-! ### A Seek Fault and what it brings -/

theorem seekFault (stops : Bool) : BayKept s (s.seekFault b stops) b.other := by
  unfold State.seekFault
  extract_lets left
  have hleft : BayKept s left b.other := by
    refine BayKept.trans ?_ recordSeekFault
    split
    · exact interruptChannel
    · exact refl _ _
  repeat' split
  · exact hleft.trans (retryMotion _)
  · exact hleft.trans controlledStop
  · exact hleft.trans beginRetract

theorem overrun : BayKept s (s.overrun b) b.other := (modPositioner _).trans (seekFault _)

end BayKept

end Sys2Proof.Machine

/-!
PROOFS. The timers of the Link Port and of the bays (R13, R160, R165), the stop timer (R43), the PWM period and the
index check (R36, R48, R49).
-/

namespace Sys2Proof.Machine

/-! ### The next instant -/

namespace State

variable (s : State) (b : Bay)

@[simp] theorem nextInstant_bay : s.nextInstant.bay b = s.bay b := rfl
@[simp] theorem nextInstant_spindle : s.nextInstant.spindle b = s.spindle b := rfl
@[simp] theorem nextInstant_positioner : s.nextInstant.positioner b = s.positioner b := rfl
@[simp] theorem nextInstant_map : s.nextInstant.map b = s.map b := rfl

end State

theorem State.bay_congr {s t : State} (h : t.bays = s.bays) (c : Bay) : t.bay c = s.bay c := by
  rw [State.bay, State.bay, h]

theorem State.spindle_congr {s t : State} (h : t.spindles = s.spindles) (c : Bay) : t.spindle c = s.spindle c := by
  rw [State.spindle, State.spindle, h]

theorem State.positioner_congr {s t : State} (h : t.positioners = s.positioners) (c : Bay) :
    t.positioner c = s.positioner c := by
  rw [State.positioner, State.positioner, h]

theorem State.map_congr {s t : State} (h : t.maps = s.maps) (c : Bay) : t.map c = s.map c := by
  rw [State.map, State.map, h]

/-! ### One bay's record changed -/

/-- A change is what it makes of the record it is given. -/
theorem PerBay.update_congr {α : Type} {p : PerBay α} {b : Bay} {f g : α → α} (h : f (p.get b) = g (p.get b)) :
    p.update b f = p.update b g := by
  cases b <;> simp only [PerBay.update, PerBay.get] at h ⊢ <;> rw [h]

theorem PerBay.update_same {α : Type} {p : PerBay α} {b : Bay} {f : α → α} (h : f (p.get b) = p.get b) :
    p.update b f = p := by
  cases b <;> simp only [PerBay.update, PerBay.get] at h ⊢ <;> rw [h]

section

variable {s : State} {b : Bay}

/-- A change of a spindle's record that leaves its phase. -/
theorem State.modSpindle_eq {f g : Spindle → Spindle} (h : f (s.spindle b) = g (s.spindle b))
    (hp : (f (s.spindle b)).phase = (s.spindle b).phase) :
    s.modSpindle b f = { s with spindles := s.spindles.update b g } := by
  rw [State.modSpindle_quiet hp, PerBay.update_congr h]

theorem State.modBay_id {f : BayControl → BayControl} (h : f (s.bay b) = s.bay b) : s.modBay b f = s := by
  rw [State.modBay_quiet (by rw [h]), PerBay.update_same h]

theorem State.modSpindle_id {f : Spindle → Spindle} (h : f (s.spindle b) = s.spindle b) : s.modSpindle b f = s := by
  rw [State.modSpindle_quiet (by rw [h]), PerBay.update_same h]

end

/-! ### The timers of the Link Port and of the bays -/

theorem refreshPending_pending {b : Bay} {l : Link} (h : l.pendingRecord.get b ≠ .none) : refreshPending b l = l :=
  if_neg h

theorem refreshPending_none {b : Bay} {l : Link} (h : l.pendingRecord.get b = .none) (hb : b ∉ l.recordOrder) :
    refreshPending b l = { l with
      pendingRecord := l.pendingRecord.update b fun _ => .refresh
      recordOrder := l.recordOrder ++ [b] } := by
  rw [refreshPending, if_pos h, if_neg hb]

/-- Settles O48: each expiry looks at its own timer alone. -/
theorem linkAndEjectTimersExpire : Obligations.LinkAndEjectTimersExpire := by
  unfold Obligations.LinkAndEjectTimersExpire
  intro s b next failed ended timer
  have hended : s.nextInstant.failEject b = ended := rfl
  refine ⟨fun h => ?_, fun h => ?_, fun h => ?_, fun h hp => ?_, fun h hp hb => ?_, fun h => ?_, fun h => ?_,
    fun h => ?_, fun h => ?_, fun h => ?_, fun h => ?_⟩
  · exact next_instantEnd (if_neg (by simp [h]))
  · exact next_instantEnd (if_pos h)
  · exact next_instantEnd (if_neg (by simp [h]))
  · exact next_instantEnd ((if_pos h).trans (congrArg (fun l => ({ next with link := l } : State))
      (refreshPending_pending (l := { s.link with refreshTimer := timer }) hp)))
  · exact next_instantEnd ((if_pos h).trans (congrArg (fun l => ({ next with link := l } : State))
      (refreshPending_none (l := { s.link with refreshTimer := timer }) hp hb)))
  · refine next_instantEnd ((State.modBay_quiet ?_).trans ?_)
    · unfold pulseEnded
      split <;> rfl
    · exact congrArg (fun x => ({ next with bays := x } : State)) (PerBay.update_congr (if_pos h))
  · exact next_instantEnd (State.modBay_id (if_neg (by simp [h])))
  · exact next_instantEnd ((if_pos h).trans hended)
  · exact next_instantEnd (if_neg (by simp [h]))
  · exact next_instantEnd ((if_pos h).trans hended)
  · exact next_instantEnd (if_neg (by simp [h]))

/-! ### The stop timer (R43) -/

/-- R45: what a request for the permit makes of the spindle and of the permit. -/
theorem State.requestPermit_spec (s : State) (b : Bay) :
    (s.permitHolder ≠ none → (s.requestPermit b).spindle b = { s.spindle b with phase := .pending } ∧
      (s.requestPermit b).permitHolder = s.permitHolder ∧ (s.requestPermit b).permitWaiting = some b) ∧
    (s.permitHolder = none →
      (s.requestPermit b).spindle b = startingEntered s.settings { s.spindle b with phase := .pending } ∧
      (s.requestPermit b).permitHolder = some b) := by
  unfold State.requestPermit
  dsimp only
  refine ⟨fun h => ?_, fun h => ?_⟩
  · rw [if_neg h]
    refine ⟨?_, by simp, rfl⟩
    have := State.spindle_modSpindle s b b fun q => { q with phase := .pending }
    exact this.trans (if_pos rfl)
  · rw [if_pos h]
    simp [State.grantPermit, State.spindle]

/-- Settles O37: STOPPED is entered whole, and a Restart Held then asks for the permit. -/
theorem stopTimerEndsTheStop : Obligations.StopTimerEndsTheStop := by
  unfold Obligations.StopTimerEndsTheStop
  intro s b next
  refine ⟨fun h => next_instantEnd (if_neg h), fun h => ⟨s.nextInstant.enterStopped b, next_instantEnd (if_pos h), ?_⟩⟩
  intro q r
  have hkept : BayKept s (s.nextInstant.enterStopped b) b.other := BayKept.enterStopped.start rfl rfl rfl rfl
  let stopped := (s.nextInstant.modSpindle b stoppedEntered).dropLoad b
  have hstopped : stopped.spindle b = stoppedEntered q := by
    simp [State.spindle, q, stopped, State.nextInstant]
  have hfree : stopped.permitHolder = s.permitHolder := by simp [stopped]
  have hsettings : stopped.settings = s.settings := by
    have hstands : stopped.standing = (s.nextInstant.modSpindle b stoppedEntered).standing := standing_dropLoad _ b
    exact (congrArg Standing.settings hstands).trans (by simp [State.standing])
  obtain ⟨hwaits, hgranted⟩ := State.requestPermit_spec stopped b
  rw [hfree, hstopped] at hwaits hgranted
  rw [hsettings] at hgranted
  have hstays (h : ¬q.restartHeld = true) : s.nextInstant.enterStopped b = stopped := if_neg h
  have hasks (h : q.restartHeld = true) : s.nextInstant.enterStopped b = stopped.requestPermit b := if_pos h
  refine ⟨?_, fun hrest => ?_, fun hrest hh => ?_, fun hrest hh => ?_, by simp, by simp, by simp,
    hkept, (standing_enterStopped _ _).trans rfl⟩ <;> simp only [r]
  · by_cases hrest : q.restartHeld = true
    · by_cases hh : s.permitHolder = none
      · rw [hasks hrest, (hgranted hh).1]
        exact ⟨rfl, rfl, rfl, rfl, rfl, rfl, rfl, rfl, rfl⟩
      · rw [hasks hrest, (hwaits hh).1]
        exact ⟨rfl, rfl, rfl, rfl, rfl, rfl, rfl, rfl, rfl⟩
    · rw [hstays hrest, hstopped]
      exact ⟨rfl, rfl, rfl, rfl, rfl, rfl, rfl, rfl, rfl⟩
  · rw [hstays (by simp [hrest]), hstopped]
    exact ⟨rfl, rfl, hfree⟩
  · obtain ⟨hspindle, hholder, hwaiting⟩ := hwaits hh
    rw [hasks hrest, hspindle]
    exact ⟨rfl, rfl, hholder, hwaiting⟩
  · obtain ⟨hspindle, hholder⟩ := hgranted hh
    rw [hasks hrest, hspindle]
    exact ⟨rfl, hholder, rfl, rfl, rfl, rfl⟩

/-! ### The PWM period and the index check (R36, R48, R49) -/

/-- Settles O38: the index check acts on the reference instant and the miss count alone. -/
theorem periodsAndIndexPulses : Obligations.PeriodsAndIndexPulses := by
  unfold Obligations.PeriodsAndIndexPulses
  intro s b elapsed q period half set
  have hset {f g : Spindle → Spindle} (h : f q = g q) (hp : (f q).phase = q.phase) :
      s.nextInstant.modSpindle b f = set g := State.modSpindle_eq (s := s.nextInstant) h hp
  have htake (f : Spindle → Spindle) (h : indexTaken elapsed q = f q) (hp : (f q).phase = q.phase)
      (hf : ¬(s.channel.grant = some b ∧ s.channel.search = .formatting) ∨ indexAccepted q elapsed = false) :
      takeIndex b elapsed s.nextInstant = set f := by
    have hmod : s.nextInstant.modSpindle b (indexTaken elapsed) = set f := hset h (h ▸ hp)
    unfold takeIndex
    rw [hmod]
    dsimp only
    rcases hf with hf | hf
    · have hid : (set f).formatIndex b = set f := if_neg hf
      rw [hid]
      exact ite_self _
    · exact if_neg (by simp [show s.spindle b = q from rfl, hf])
  have hrefused (n : Nat) (hn : q.indexSince = some n) (ha : q.indexArmed = true)
      (hout : n + elapsed < period - half ∨ period + half < n + elapsed) : indexAccepted q elapsed = false := by
    simp only [indexAccepted, ha, hn, Bool.not_true, Bool.false_or]
    refine decide_eq_false fun ⟨hlo, hhi⟩ => ?_
    rcases hout with hout | hout
    · exact absurd hlo (Nat.not_le.mpr hout)
    · exact absurd hhi (Nat.not_le.mpr hout)
  have hmiss (f : Spindle → Spindle) (h : indexMissed q = f q) (hp : (f q).phase = q.phase) :
      takeIndexMissing b s.nextInstant = set f := hset h (h ▸ hp)
  refine ⟨next_instantEnd (hset rfl rfl), fun hf => ⟨fun ha => next_instantEnd (htake id ?_ rfl (.inl hf)),
    fun ha => ⟨fun hn => next_instantEnd (htake _ ?_ rfl (.inl hf)),
      fun n hn hlo hhi => next_instantEnd (htake _ ?_ rfl (.inl hf))⟩⟩,
    fun n hn ha hout => next_instantEnd (htake _ ?_ rfl (.inr ?_)),
    fun n hn ha hlate => next_instantEnd (hmiss _ ?_ rfl), fun h => next_instantEnd (hmiss id ?_ rfl)⟩
  · exact if_neg (by simp [ha])
  · simp [indexTaken, indexAccepted, ha, hn]
  · have hacc : indexAccepted q elapsed = true := by
      simp only [indexAccepted, ha, hn, Bool.not_true, Bool.false_or]
      exact decide_eq_true ⟨hlo, hhi⟩
    simp [indexTaken, ha, hacc]
  · simp [indexTaken, ha, hrefused n hn ha hout, hn]
  · exact hrefused n hn ha hout
  · unfold indexMissed
    rw [ha, hn]
    have hmax : max n (indexPeriod q.activeTarget + indexHalf q.activeTarget) = n := Nat.max_eq_left hlate
    have hraise : raiseTo 255 q.missCount = min 255 (q.missCount + 1) := by
      unfold raiseTo
      split <;> omega
    simp only [hmax, hraise]
    rfl
  · unfold indexMissed
    rcases h with h | h
    · rw [h]
      rfl
    · rw [h]
      cases q.indexArmed <;> rfl

end Sys2Proof.Machine

/-!
PROOFS. What the Positioner's operations make of their own bay: the orders handed back, the controlled stop and the
Seek Fault (R59, R72 to R75).
-/

namespace Sys2Proof.Machine

/-! ### The actuator and the tasks under the operations -/

namespace State

variable {s : State} {b : Bay}

@[simp] theorem positioner_handBack? (o : Option Order) (x : OrderState) (c : Bay) :
    (s.handBack? b o x).positioner c = s.positioner c :=
  State.positioner_congr (by simp) c

@[simp] theorem positioner_handBack (o : Order) (x : OrderState) (c : Bay) :
    (s.handBack b o x).positioner c = s.positioner c :=
  State.positioner_congr (by simp) c

theorem positioner_modPositioner_self (f : Positioner → Positioner) :
    (s.modPositioner b f).positioner b = f (s.positioner b) := by simp

theorem endOrder_positioner (x : OrderState) :
    (s.endOrder b x).positioner b = { s.positioner b with order := none } := by
  simp [State.endOrder]

theorem dropHeld_positioner (x : OrderState) :
    (s.dropHeld b x).positioner b = { s.positioner b with held := none, heldBehind := none } := by
  simp [State.dropHeld]

theorem beginRetract_positioner :
    (s.beginRetract b).positioner b = retractBegun (s.bay b).parkDetect.accepted (s.positioner b) := by
  simp [State.beginRetract]

/-- R75: the actuator after a controlled stop that may end at once. -/
theorem controlledStop_positioner : (s.controlledStop b).positioner b =
    if (s.positioner b).vmeas = 0 then velocityLegEnded s.settings (stopBegun s.settings (s.positioner b))
    else stopBegun s.settings (s.positioner b) := by
  unfold State.controlledStop
  dsimp only
  split <;> simp

theorem controlledStop_bay (c : Bay) : (s.controlledStop b).bay c = s.bay c := State.bay_congr (by simp) c

end State

/-- R59: the outcome of an order handed to the task that waits for it. -/
def toldOrder (x : OrderState) (id : Nat) (e : Entry) : Entry :=
  if e.id = id ∧ e.order = .outstanding then { e with order := x } else e

theorem State.handBack_entries {s : State} {b : Bay} {o : Order} {x : OrderState} {id : Nat}
    (h : o.giver = .task id) : (s.handBack b o x).entries = s.entries.map (toldOrder x id) := by
  unfold State.handBack
  rw [h]
  simp only [State.modEntry_entries]
  refine List.map_congr_left fun e _ => ?_
  unfold toldOrder
  by_cases hid : e.id = id <;> by_cases ho : e.order = .outstanding <;> simp [hid, ho]

theorem State.endOrder_entries {s : State} {b : Bay} {o : Order} {x : OrderState} {id : Nat}
    (ho : (s.positioner b).order = some o) (h : o.giver = .task id) :
    (s.endOrder b x).entries = s.entries.map (toldOrder x id) := by
  simp only [State.endOrder, State.modPositioner_entries, ho, State.handBack?]
  exact State.handBack_entries h

theorem State.endOrder_none_entries {s : State} {b : Bay} {x : OrderState} (ho : (s.positioner b).order = none) :
    (s.endOrder b x).entries = s.entries := by
  simp [State.endOrder, ho, State.handBack?]

theorem State.endOrder_entries_of_giver {s : State} {b : Bay} {o : Order} {x : OrderState}
    (ho : (s.positioner b).order = some o) (h : ∀ id, o.giver ≠ .task id) :
    (s.endOrder b x).entries = s.entries := by
  simp only [State.endOrder, State.modPositioner_entries, ho, State.handBack?, State.handBack]
  split
  · rfl
  · simp
  next id hg => exact absurd hg (h id)

/-! ### The channel lost (R93, R99) -/

theorem State.failAttempt_grant (s : State) (b : Bay) (g : Giver) (f : FailKind) :
    (s.failAttempt b g f).channel.grant = s.channel.grant ∨ (s.failAttempt b g f).channel.grant = none := by
  have hread (t : State) (x : MountStatus) : (t.mountReadEnd b x [] 0).channel.grant = t.channel.grant ∨
      (t.mountReadEnd b x [] 0).channel.grant = none := by
    unfold State.mountReadEnd State.releaseOf
    split
    · exact .inr rfl
    · exact .inl (by simp)
  unfold State.failAttempt
  extract_lets counted
  have hgrant : counted.channel.grant = s.channel.grant := by simp [counted]
  rw [← hgrant]
  split
  · exact .inl rfl
  · unfold State.exhausted
    split
    · exact .inl rfl
    · exact hread _ _
    · exact .inl rfl

theorem State.interruptChannel_grant (s : State) (b : Bay) : (s.interruptChannel b).channel.grant ≠ some b := by
  have hlost := s.loseChannel_grant b
  unfold State.interruptChannel
  repeat' split
  · rcases (s.loseChannel b).failAttempt_grant b _ .interrupted with h | h <;> rw [h]
    · exact hlost
    · exact nofun
  · exact hlost
  · exact hlost
  next h => exact h

@[simp] theorem State.interruptChannel_frame (s : State) (b : Bay) :
    (s.interruptChannel b).bays = s.bays ∧ (s.interruptChannel b).spindles = s.spindles ∧
      (s.interruptChannel b).permitHolder = s.permitHolder ∧
      (s.interruptChannel b).positioners = s.positioners := by
  unfold State.interruptChannel
  repeat' split
  all_goals simp

/-! ### The Seek Fault (R72 to R75) -/

/-- R72: the actuator's record once a Seek Fault is recorded. -/
def seekRecorded (p : Positioner) : Positioner :=
  { p with
    seekTimer := none, settleLimit := none, settleWait := none, recalTimer := none, sampling := false
    onTrackCount := 0 }

/-- R72, R99: a bay whose Seek Fault is recorded, before the order's part. -/
def State.seekLeft (s : State) (b : Bay) : State :=
  (if (s.positioner b).state = .following then s.interruptChannel b else s).recordSeekFault b

theorem State.seekFault_eq (s : State) (b : Bay) (stops : Bool) : s.seekFault b stops =
    match (s.positioner b).order with
    | some o => (s.seekLeft b).retryMotion b o
    | none => if stops then (s.seekLeft b).controlledStop b else (s.seekLeft b).beginRetract b := rfl

section

variable (s : State) (b : Bay)

theorem State.recordSeekFault_positioner :
    (s.recordSeekFault b).positioner b = seekRecorded (s.positioner b) := by
  simp [State.recordSeekFault, State.recordFault, seekRecorded]

theorem State.recordSeekFault_bay :
    (s.recordSeekFault b).bay b = { s.bay b with faultClass := .seekFault } := by
  simp [State.recordSeekFault, State.recordFault]

theorem State.seekLeft_positioner : (s.seekLeft b).positioner b = seekRecorded (s.positioner b) := by
  unfold State.seekLeft
  rw [State.recordSeekFault_positioner]
  split
  · exact congrArg seekRecorded (State.positioner_congr (by simp) b)
  · rfl

theorem State.seekLeft_bay : (s.seekLeft b).bay b = { s.bay b with faultClass := .seekFault } := by
  unfold State.seekLeft
  rw [State.recordSeekFault_bay]
  split
  · have hbay : (s.interruptChannel b).bay b = s.bay b := State.bay_congr (by simp) b
    rw [hbay]
  · rfl

theorem State.seekLeft_spindles : (s.seekLeft b).spindles = s.spindles := by
  unfold State.seekLeft
  split <;> simp

theorem State.seekLeft_grant (h : (s.positioner b).state = .following) :
    (s.seekLeft b).channel.grant ≠ some b := by
  unfold State.seekLeft
  rw [if_pos h]
  simpa using s.interruptChannel_grant b

theorem State.seekLeft_entries (h : (s.positioner b).state ≠ .following) :
    (s.seekLeft b).entries = s.entries ∧ (s.seekLeft b).maps = s.maps ∧ (s.seekLeft b).channel = s.channel ∧
      (s.seekLeft b).slots = s.slots := by
  unfold State.seekLeft
  rw [if_neg h]
  simp

end

/-- R75: where a controlled stop of the actuator leads. -/
theorem stopped_state (t : Settings) (p : Positioner) :
    (if p.vmeas = 0 then velocityLegEnded t (stopBegun t p) else stopBegun t p).state =
      stopState p.vmeas (!(p.recalAfterStop || !p.known)) := by
  unfold stopState velocityLegEnded
  by_cases hv : p.vmeas = 0
  · simp only [hv, if_true]
    cases hr : p.recalAfterStop <;> cases hk : p.known <;>
      simp [stopBegun, demandComputed, motionTimersStopped, recalibrateBegun, settlingEntered, hr, hk]
  · simp [hv, stopBegun, demandComputed]

/-- R75: a controlled stop keeps the order, the automatic retry and Cylinder Known, and has no seek timer. -/
theorem stopped_kept (t : Settings) (p : Positioner) :
    let q := if p.vmeas = 0 then velocityLegEnded t (stopBegun t p) else stopBegun t p
    q.order = p.order ∧ q.reseekUsed = p.reseekUsed ∧ q.seekTimer = none := by
  unfold velocityLegEnded
  by_cases hv : p.vmeas = 0
  · simp only [hv, if_true]
    split <;> exact ⟨rfl, rfl, rfl⟩
  · simp only [hv, if_false]
    exact ⟨rfl, rfl, rfl⟩

/-! ### What a Seek Fault brings -/

theorem State.controlledStop_state (s : State) (b : Bay) : ((s.controlledStop b).positioner b).state =
    stopState (s.positioner b).vmeas (!((s.positioner b).recalAfterStop || !(s.positioner b).known)) := by
  rw [State.controlledStop_positioner]
  exact stopped_state _ _

theorem State.controlledStop_kept (s : State) (b : Bay) :
    ((s.controlledStop b).positioner b).order = (s.positioner b).order ∧
      ((s.controlledStop b).positioner b).reseekUsed = (s.positioner b).reseekUsed ∧
      ((s.controlledStop b).positioner b).seekTimer = none := by
  rw [State.controlledStop_positioner]
  exact stopped_kept _ _

section

variable (s : State) (b : Bay) (o : Order)

/-- R73: the final failure of the order. -/
theorem State.retryMotion_failed (h : (s.positioner b).reseekUsed = true) :
    ((s.retryMotion b o).positioner b).order = none ∧
      ((s.retryMotion b o).positioner b).state = stopState (s.positioner b).vmeas (s.positioner b).known ∧
      ((s.retryMotion b o).positioner b).seekTimer = none ∧
      (s.retryMotion b o).entries = (s.endOrder b .failed).entries ∧
      (s.retryMotion b o).maps = (s.endOrder b .failed).maps := by
  have hp := State.endOrder_positioner (s := s) (b := b) .failed
  unfold State.retryMotion
  rw [if_pos h]
  generalize s.endOrder b .failed = ended at hp
  have hq : (ended.modPositioner b fun p => { p with recalAfterStop := false }).positioner b =
      { s.positioner b with order := none, recalAfterStop := false } := by simp [hp]
  obtain ⟨horder, -, htimer⟩ :=
    State.controlledStop_kept (ended.modPositioner b fun p => { p with recalAfterStop := false }) b
  have hstate := State.controlledStop_state (ended.modPositioner b fun p => { p with recalAfterStop := false }) b
  rw [hq] at horder hstate
  exact ⟨horder, by simpa using hstate, htimer, by simp, by simp⟩

/-- R73: the automatic retry. -/
theorem State.retryMotion_retried (h : (s.positioner b).reseekUsed = false) :
    ((s.retryMotion b o).positioner b).order = (s.positioner b).order ∧
      ((s.retryMotion b o).positioner b).reseekUsed = true ∧
      ((s.retryMotion b o).positioner b).state = stopState (s.positioner b).vmeas false ∧
      ((s.retryMotion b o).positioner b).seekTimer = none ∧
      (s.retryMotion b o).entries = (s.countReseek b o.giver).entries ∧
      (s.retryMotion b o).maps = (s.countReseek b o.giver).maps := by
  unfold State.retryMotion
  rw [if_neg (by simp [h])]
  have hcount (t : State) (f : Positioner → Positioner) (g : Giver) :
      ((t.modPositioner b f).countReseek b g).entries = (t.countReseek b g).entries ∧
        ((t.modPositioner b f).countReseek b g).maps = (t.countReseek b g).maps ∧
        ((t.modPositioner b f).countReseek b g).positioner b = f (t.positioner b) := by
    cases g <;> simp [State.countReseek]
  obtain ⟨hentries, hmaps, hq⟩ :=
    hcount s (fun p => { p with reseekUsed := true, recalAfterStop := true }) o.giver
  generalize (s.modPositioner b fun p => { p with reseekUsed := true, recalAfterStop := true }).countReseek b o.giver
    = counted at hentries hmaps hq
  obtain ⟨horder, hreseek, htimer⟩ := State.controlledStop_kept counted b
  have hstate := State.controlledStop_state counted b
  rw [hq] at horder hreseek hstate
  exact ⟨horder, hreseek, by simpa using hstate, htimer, by simpa using hentries, by simpa using hmaps⟩

end

theorem State.countReseek_task {s : State} {b : Bay} {id : Nat} : (s.countReseek b (.task id)).entries =
    s.entries.map fun e =>
      if e.id = id ∧ e.ending = none then { e with retriesUsed := raiseTo 255 e.retriesUsed } else e := by
  unfold State.countReseek
  simp only [State.modEntry_entries]
  refine List.map_congr_left fun e _ => ?_
  by_cases hid : e.id = id <;> by_cases ho : e.ending = none <;> simp [hid, ho, retryCounted]

theorem State.countReseek_mount {s : State} {b : Bay} (h : (s.map b).mountStage ≠ .idle) :
    ((s.countReseek b .mount).map b).mountRetries = raiseTo 255 (s.map b).mountRetries := by
  simp [State.countReseek, mountRetryCounted, h]

theorem State.endOrder_mount {s : State} {b : Bay} {o : Order} {x : OrderState} (ho : (s.positioner b).order = some o)
    (hg : o.giver = .mount) (h : (s.map b).mountOrder = .outstanding) :
    ((s.endOrder b x).map b).mountOrder = x := by
  simp [State.endOrder, ho, State.handBack?, State.handBack, hg, h]

/-- R72 to R74: a Seek Fault, by its order and by the automatic retry. -/
theorem seekFault_faulted (s : State) (b : Bay) (stops : Bool) : SeekFaulted s (s.seekFault b stops) b stops := by
  have hp := s.seekLeft_positioner b
  have horder : ((s.seekLeft b).positioner b).order = (s.positioner b).order := by rw [hp]; rfl
  have hbay : (s.seekFault b stops).bay b = (s.seekLeft b).bay b := by
    rw [State.seekFault_eq]
    repeat' split
    all_goals exact State.bay_congr (by simp) b
  have hspindles : (s.seekFault b stops).spindles = s.spindles := by
    rw [State.seekFault_eq, ← s.seekLeft_spindles b]
    repeat' split
    all_goals simp
  have hchannel : (s.seekFault b stops).channel = (s.seekLeft b).channel := by
    rw [State.seekFault_eq]
    repeat' split
    all_goals simp
  have hsome {o : Order} (h : (s.positioner b).order = some o) :
      s.seekFault b stops = (s.seekLeft b).retryMotion b o := by
    rw [State.seekFault_eq, h]
  have hnone (h : (s.positioner b).order = none) : s.seekFault b stops =
      if stops then (s.seekLeft b).controlledStop b else (s.seekLeft b).beginRetract b := by
    rw [State.seekFault_eq, h]
  have hkept : BayKept s (s.seekFault b stops) b.other := BayKept.seekFault stops
  constructor
  case faultClass =>
    rw [hbay, s.seekLeft_bay b]
    exact ⟨rfl, rfl⟩
  case seekTimer =>
    cases ho : (s.positioner b).order with
    | none =>
      rw [hnone ho]
      split
      · exact ((s.seekLeft b).controlledStop_kept b).2.2
      · rw [State.beginRetract_positioner]
        rfl
    | some o =>
      rw [hsome ho]
      cases hr : ((s.seekLeft b).positioner b).reseekUsed with
      | false =>
        obtain ⟨-, -, -, htimer, -⟩ := State.retryMotion_retried (s.seekLeft b) b o hr
        exact htimer
      | true =>
        obtain ⟨-, -, htimer, -⟩ := State.retryMotion_failed (s.seekLeft b) b o hr
        exact htimer
  case retried =>
    intro o ho hr
    obtain ⟨hord, hused, hstate, -⟩ := State.retryMotion_retried (s.seekLeft b) b o (by rw [hp]; exact hr)
    rw [hsome ho]
    exact ⟨hord.trans (horder.trans ho), hused, by rw [hstate, hp]; rfl⟩
  case failed =>
    intro o ho hr
    obtain ⟨hord, hstate, -⟩ := State.retryMotion_failed (s.seekLeft b) b o (by rw [hp]; exact hr)
    rw [hsome ho]
    exact ⟨hord, by rw [hstate, hp]; rfl⟩
  case counted =>
    intro o ho hr hf
    obtain ⟨-, -, -, -, hentries, hmaps⟩ := State.retryMotion_retried (s.seekLeft b) b o (by rw [hp]; exact hr)
    obtain ⟨hleft, hleftMaps, -⟩ := s.seekLeft_entries b hf
    rw [hsome ho]
    refine ⟨fun id hg => ?_, fun hg hm => ?_⟩
    · rw [hentries, hg, State.countReseek_task, hleft]
    · have hmap : (s.seekLeft b).map b = s.map b := State.map_congr hleftMaps b
      rw [State.map_congr hmaps b, hg, State.countReseek_mount (by rw [hmap]; exact hm), hmap]
  case told =>
    intro o ho hr hf
    obtain ⟨-, -, -, hentries, hmaps⟩ := State.retryMotion_failed (s.seekLeft b) b o (by rw [hp]; exact hr)
    obtain ⟨hleft, hleftMaps, -⟩ := s.seekLeft_entries b hf
    rw [hsome ho]
    refine ⟨fun id hg => ?_, fun hg hm => ?_⟩
    · rw [hentries, State.endOrder_entries (horder.trans ho) hg, hleft]
      rfl
    · have hmap : (s.seekLeft b).map b = s.map b := State.map_congr hleftMaps b
      rw [State.map_congr hmaps b]
      exact State.endOrder_mount (horder.trans ho) hg (by rw [hmap]; exact hm)
  case parked =>
    intro ho hs
    rw [hnone ho, if_neg (by simp [hs]), State.beginRetract_positioner]
    rfl
  case stopped =>
    intro ho hs hk
    rw [hnone ho, if_pos hs, State.controlledStop_state, hp]
    simp [seekRecorded, hk]
  case channel =>
    intro hf
    rw [hchannel]
    exact s.seekLeft_grant b hf
  case spindles => exact State.spindle_congr hspindles b
  case otherBay => exact ⟨hkept.bay, hkept.spindle, hkept.positioner⟩

/-- A Seek Fault from another start with the same bay. -/
theorem SeekFaulted.start {s s' t : State} {b : Bay} {stops : Bool} (h : SeekFaulted s t b stops)
    (hbays : s'.bays = s.bays) (hspindles : s'.spindles = s.spindles) (hmaps : s'.maps = s.maps)
    (hentries : s'.entries = s.entries) (hother : s'.positioner b.other = s.positioner b.other)
    (horder : (s'.positioner b).order = (s.positioner b).order)
    (hreseek : (s'.positioner b).reseekUsed = (s.positioner b).reseekUsed)
    (hvmeas : (s'.positioner b).vmeas = (s.positioner b).vmeas)
    (hknown : (s'.positioner b).known = (s.positioner b).known)
    (hstate : (s'.positioner b).state = (s.positioner b).state) : SeekFaulted s' t b stops := by
  have hbay (c : Bay) : s'.bay c = s.bay c := State.bay_congr hbays c
  have hspindle (c : Bay) : s'.spindle c = s.spindle c := State.spindle_congr hspindles c
  have hmap : s'.map b = s.map b := State.map_congr hmaps b
  exact
    { faultClass := by rw [hbay]; exact h.faultClass
      seekTimer := h.seekTimer
      retried := by rw [horder, hreseek, hvmeas]; exact h.retried
      failed := by rw [horder, hreseek, hvmeas, hknown]; exact h.failed
      counted := by rw [horder, hreseek, hstate, hmap, hentries]; exact h.counted
      told := by rw [horder, hreseek, hstate, hmap, hentries]; exact h.told
      parked := by rw [horder]; exact h.parked
      stopped := by rw [horder, hvmeas, hknown]; exact h.stopped
      channel := by rw [hstate]; exact h.channel
      spindles := by rw [hspindle]; exact h.spindles
      otherBay := by rw [hbay, hspindle, hother]; exact h.otherBay }

/-- Settles O31: an expiry of a limit that runs is a Seek Fault. -/
theorem motionLimitsAreSeekFaults : Obligations.MotionLimitsAreSeekFaults := by
  unfold Obligations.MotionLimitsAreSeekFaults
  intro s b p next
  have hfault : SeekFaulted s (s.nextInstant.seekFault b false) b false ∧
      (s.nextInstant.seekFault b false).standing = next.standing :=
    ⟨(seekFault_faulted s.nextInstant b false).start rfl rfl rfl rfl rfl rfl rfl rfl rfl rfl,
      (standing_seekFault ..).trans rfl⟩
  exact ⟨fun h => ⟨_, next_instantEnd (if_pos h), hfault⟩, fun h => ⟨_, next_instantEnd (if_pos h), hfault⟩,
    fun h => ⟨_, next_instantEnd (if_pos h), hfault⟩, fun h => ⟨_, next_instantEnd (if_pos h), hfault⟩,
    fun h => next_instantEnd (if_neg (by simp [show (s.positioner b).settleLimit = none from h])),
    fun h => next_instantEnd (if_neg (by simp [show (s.positioner b).seekTimer = none from h])),
    fun h => next_instantEnd (if_neg (by simp [show (s.positioner b).recalTimer = none from h])),
    fun h => next_instantEnd (if_neg (by simp [show (s.positioner b).stopTimer = none from h]))⟩

end Sys2Proof.Machine

/-!
PROOFS. What the events of the Positioner make of its bay: the silence of the crossings (R65, R67), the Crossing
Error (R56), Outer Guard (R57, R63, R71), and the end of the settle (R69).
-/

namespace Sys2Proof.Machine

/-! ### Silence (R65, R67, R75) -/

theorem crossingsSilent_stopping {t : Settings} {p : Positioner} (h : p.state = .stopping) :
    crossingsSilent t p = velocityLegEnded t { p with crossTimer := 2000, vmeas := 0 } := by
  simp [crossingsSilent, h, Config.crossingSilence]

theorem crossingsSilent_moving {t : Settings} {p : Positioner} (h : p.state = .seeking ∨ p.state = .recalibrating) :
    crossingsSilent t p = demandComputed { p with crossTimer := 2000, vmeas := 0 } := by
  rcases h with h | h <;> simp [crossingsSilent, h, Config.crossingSilence]

theorem crossingsSilent_other {t : Settings} {p : Positioner} (h1 : p.state ≠ .stopping) (h2 : p.state ≠ .seeking)
    (h3 : p.state ≠ .recalibrating) : crossingsSilent t p = { p with vmeas := 0, crossTimer := 2000 } := by
  unfold crossingsSilent
  cases h : p.state <;> simp_all [Config.crossingSilence]

theorem velocityLegEnded_recalibrates {t : Settings} {p : Positioner} (h : p.recalAfterStop = true ∨ p.known = false) :
    velocityLegEnded t p = recalibrateBegun t { p with dac := 0 } := by
  rcases h with h | h <;> simp [velocityLegEnded, h]

theorem velocityLegEnded_settles {t : Settings} {p : Positioner} (h1 : p.recalAfterStop = false)
    (h2 : p.known = true) :
    velocityLegEnded t p = settlingEntered t { p with dac := 0, target := p.counter.toNat } := by
  simp [velocityLegEnded, h1, h2]

/-- The end of a velocity leg keeps what the samples and the crossings made. -/
theorem velocityLegEnded_kept (t : Settings) (p : Positioner) :
    (velocityLegEnded t p).vmeas = p.vmeas ∧ (velocityLegEnded t p).crossTimer = p.crossTimer ∧
      (velocityLegEnded t p).counter = p.counter := by
  unfold velocityLegEnded
  split <;> exact ⟨rfl, rfl, rfl⟩

theorem crossingsSilent_kept (t : Settings) (p : Positioner) : (crossingsSilent t p).vmeas = 0 ∧
    (crossingsSilent t p).crossTimer = 2000 ∧ (crossingsSilent t p).counter = p.counter := by
  by_cases h1 : p.state = .stopping
  · rw [crossingsSilent_stopping h1]
    exact velocityLegEnded_kept _ _
  · by_cases h2 : p.state = .seeking ∨ p.state = .recalibrating
    · rw [crossingsSilent_moving h2]
      exact ⟨rfl, rfl, rfl⟩
    · rw [crossingsSilent_other h1 (fun h => h2 (.inl h)) (fun h => h2 (.inr h))]
      exact ⟨rfl, rfl, rfl⟩

theorem actuatorNotable_of_eq {x y : Actuator} (h : y = x) : actuatorNotable x y = false := by
  rw [h]
  exact actuatorNotable_self x

/-- A change of the actuator's record that leaves its state. -/
theorem State.modPositioner_eq {s : State} {b : Bay} {f : Positioner → Positioner}
    (h : (f (s.positioner b)).state = (s.positioner b).state) :
    s.modPositioner b f = { s with positioners := s.positioners.update b f } :=
  State.modPositioner_quiet (actuatorNotable_of_eq h)

theorem State.modPositioner_id {s : State} {b : Bay} {f : Positioner → Positioner}
    (h : f (s.positioner b) = s.positioner b) : s.modPositioner b f = s := by
  rw [State.modPositioner_eq (by rw [h]), PerBay.update_same h]

/-- Settles O29: the velocity leg ends in STOPPING, the loop recomputes in SEEKING and RECALIBRATING. -/
theorem silenceStopsTheVelocity : Obligations.SilenceStopsTheVelocity := by
  unfold Obligations.SilenceStopsTheVelocity
  intro s b p
  refine ⟨⟨s.nextInstant.modPositioner b (crossingsSilent s.settings), rfl, ?_⟩, fun h => ?_, fun h1 h2 h3 => ?_⟩
  · intro q
    have hq : q = crossingsSilent s.settings p := State.positioner_modPositioner_self _
    obtain ⟨hv, ht, hn⟩ := crossingsSilent_kept s.settings p
    rw [hq]
    refine ⟨hv, ht, hn, fun h => ⟨fun hr => ?_, fun hr hk => ?_⟩, fun h => ?_, crossingsSilent_other,
      by simp [State.nextInstant], by simp [State.nextInstant], by simp [State.nextInstant],
      by simp [State.nextInstant], by simp [State.nextInstant], by simp⟩
    · rw [crossingsSilent_stopping h, velocityLegEnded_recalibrates (p := { p with crossTimer := 2000, vmeas := 0 }) hr]
      exact ⟨rfl, rfl, rfl, rfl, rfl⟩
    · rw [crossingsSilent_stopping h, velocityLegEnded_settles (p := { p with crossTimer := 2000, vmeas := 0 }) hr hk]
      exact ⟨rfl, rfl, rfl, rfl, rfl⟩
    · rw [crossingsSilent_moving h]
      exact ⟨rfl, rfl⟩
  · have hloop : p.state.underLoop = true := by rcases h with h | h | h <;> rw [h] <;> rfl
    exact next_instantEnd ((if_pos hloop).trans (State.modPositioner_eq rfl))
  · have hloop : ¬p.state.underLoop = true := by
      unfold Actuator.underLoop
      cases h : p.state <;> simp_all
    exact next_instantEnd (if_neg hloop)

/-! ### Crossing Error (R56) -/

theorem PerBay.update_update {α : Type} (p : PerBay α) (b : Bay) (f g : α → α) :
    (p.update b f).update b g = p.update b fun x => g (f x) := by
  cases b <;> rfl

/-- What a Seek Fault makes of the actuator's record, step by step. -/
structure SeekClosed (P : Positioner → Prop) : Prop where
  recorded : ∀ p, P p → P (seekRecorded p)
  stops : ∀ t p, P p → P (stopBegun t p)
  leg : ∀ t p, P p → P (velocityLegEnded t p)
  retracts : ∀ v p, P p → P (retractBegun v p)
  ended : ∀ p, P p → P { p with order := none }
  failed : ∀ p, P p → P { p with recalAfterStop := false }
  retried : ∀ p, P p → P { p with reseekUsed := true, recalAfterStop := true }

section

variable {P : Positioner → Prop} {s : State} {b : Bay}

theorem SeekClosed.controlledStop (k : SeekClosed P) (h : P (s.positioner b)) :
    P ((s.controlledStop b).positioner b) := by
  rw [State.controlledStop_positioner]
  split
  · exact k.leg _ _ (k.stops _ _ h)
  · exact k.stops _ _ h

theorem SeekClosed.retryMotion (k : SeekClosed P) {o : Order} (h : P (s.positioner b)) :
    P ((s.retryMotion b o).positioner b) := by
  unfold State.retryMotion
  split
  · refine k.controlledStop ?_
    rw [State.positioner_modPositioner_self, State.endOrder_positioner]
    exact k.failed _ (k.ended _ h)
  · refine k.controlledStop ?_
    have hcount (t : State) (g : Giver) : (t.countReseek b g).positioner b = t.positioner b :=
      State.positioner_congr (by simp) b
    rw [hcount, State.positioner_modPositioner_self]
    exact k.retried _ h

theorem SeekClosed.seekFault (k : SeekClosed P) {stops : Bool} (h : P (s.positioner b)) :
    P ((s.seekFault b stops).positioner b) := by
  have hleft : P ((s.seekLeft b).positioner b) := by
    rw [State.seekLeft_positioner]
    exact k.recorded _ h
  rw [State.seekFault_eq]
  repeat' split
  · exact k.retryMotion hleft
  · exact k.controlledStop hleft
  · rw [State.beginRetract_positioner]
    exact k.retracts _ _ hleft

/-- R71, R72: Cylinder Known, once lost, stays so through a Seek Fault. -/
theorem seekClosed_unknown : SeekClosed fun p => p.known = false where
  recorded _ h := h
  stops _ _ h := h
  leg _ p h := by simp [velocityLegEnded, recalibrateBegun, demandComputed, h]
  retracts _ _ _ := rfl
  ended _ h := h
  failed _ h := h
  retried _ h := h

theorem State.seekFault_known {stops : Bool} (h : (s.positioner b).known = false) :
    ((s.seekFault b stops).positioner b).known = false :=
  seekClosed_unknown.seekFault h

end

/-- What the samples and the crossings make of the actuator's record. -/
def sensedPart (p : Positioner) : Debounced × Int × Nat × Nat × Direction :=
  (p.outerGuard, p.counter, p.vmeas, p.crossTimer, p.lastDirection)

theorem seekClosed_sensed (x : Debounced × Int × Nat × Nat × Direction) :
    SeekClosed fun p => sensedPart p = x where
  recorded _ h := h
  stops _ _ h := h
  leg t p h := by
    rw [← h]
    unfold velocityLegEnded
    split <;> rfl
  retracts _ _ h := h
  ended _ h := h
  failed _ h := h
  retried _ h := h

theorem State.seekFault_sensed (s : State) (b : Bay) (stops : Bool) :
    sensedPart ((s.seekFault b stops).positioner b) = sensedPart (s.positioner b) :=
  (seekClosed_sensed _).seekFault rfl

theorem State.crossingLost_seeking {s : State} {b : Bay}
    (h : (s.positioner b).state = .seeking ∨ (s.positioner b).state = .settling) :
    s.crossingLost b = (s.modPositioner b fun p => { p with known := false }).seekFault b false := by
  rcases h with h | h <;> simp [State.crossingLost, h]

theorem State.crossingLost_following {s : State} {b : Bay} (h : (s.positioner b).state = .following) :
    s.crossingLost b = (s.modPositioner b fun p => { p with known := false }).seekFault b true := by
  simp [State.crossingLost, h]

theorem State.crossingLost_stopping {s : State} {b : Bay} (h : (s.positioner b).state = .stopping) :
    s.crossingLost b = s.modPositioner b fun p => { p with known := false } := by
  simp [State.crossingLost, h]

theorem State.crossingLost_other {s : State} {b : Bay} (h1 : (s.positioner b).state ≠ .seeking)
    (h2 : (s.positioner b).state ≠ .settling) (h3 : (s.positioner b).state ≠ .following)
    (h4 : (s.positioner b).state ≠ .stopping) : s.crossingLost b = s := by
  unfold State.crossingLost
  cases h : (s.positioner b).state <;> simp_all

/-- Cylinder Known lost, as one change with the one before it. -/
theorem State.modPositioner_lost {s t : State} {b : Bay} {f : Positioner → Positioner}
    (h : t = { s with positioners := s.positioners.update b f }) :
    (t.modPositioner b fun p => { p with known := false }) =
      { s with positioners := s.positioners.update b fun p => { f p with known := false } } := by
  rw [State.modPositioner_eq rfl, h]
  exact congrArg (fun x => { s with positioners := x }) (PerBay.update_update ..)

/-- Settles O28: both samples turned, and by the Actuator State a Seek Fault with Cylinder Known lost. -/
theorem crossingErrorIsTakenByTheActuator : Obligations.CrossingErrorIsTakenByTheActuator := by
  unfold Obligations.CrossingErrorIsTakenByTheActuator
  intro s b taken lost
  have hid : (s.nextInstant.modPins b (fun x =>
      { x with crossA := !(s.positioner b).crossA, crossB := !(s.positioner b).crossB })).modPositioner b
        (fun p => { p with crossA := !p.crossA, crossB := !p.crossB }) = taken id := State.modPositioner_eq rfl
  have htake : takeCrossingError b s.nextInstant = (taken id).crossingLost b := by
    rw [← hid]
    rfl
  have hstate : ((taken id).positioner b).state = (s.positioner b).state := by simp [taken, State.positioner]
  have hlost : ((taken id).modPositioner b fun p => { p with known := false }) = lost :=
    State.modPositioner_lost (s := { s with
      instant := s.instant + 1
      pins := { s.pins with
        bays := s.pins.bays.update b fun x =>
          { x with crossA := !(s.positioner b).crossA, crossB := !(s.positioner b).crossB } } }) rfl
  have hunknown : (lost.positioner b).known = false := by simp [lost, taken, State.positioner]
  rw [← hstate]
  refine ⟨fun h => ?_, fun h => ?_, fun h => ?_, fun h1 h2 h3 h4 => ?_⟩
  · refine ⟨lost.seekFault b false, next_instantEnd ?_, State.seekFault_known hunknown, seekFault_faulted _ _ _⟩
    rw [htake, State.crossingLost_seeking h, hlost]
  · refine ⟨lost.seekFault b true, next_instantEnd ?_, State.seekFault_known hunknown, seekFault_faulted _ _ _⟩
    rw [htake, State.crossingLost_following h, hlost]
  · refine next_instantEnd ?_
    rw [htake, State.crossingLost_stopping h, hlost]
  · refine next_instantEnd ?_
    rw [htake, State.crossingLost_other h1 h2 h3 h4]

/-! ### Outer Guard (R57, R61, R63, R71) -/

section

variable {s : State} {b : Bay}

theorem State.guardEntered_loading (h : (s.positioner b).state = .loading) :
    s.guardEntered b = s.modPositioner b (recalibrateBegun s.settings) := by
  simp [State.guardEntered, h]

theorem State.guardEntered_recalibrating (h : (s.positioner b).state = .recalibrating) :
    s.guardEntered b = s.modPositioner b fun q => { q with recalLeg := .inward } := by
  simp [State.guardEntered, h]

theorem State.guardEntered_overrun (h : (s.positioner b).state = .seeking ∨ (s.positioner b).state = .settling ∨
    (s.positioner b).state = .following) : s.guardEntered b = s.overrun b := by
  rcases h with h | h | h <;> simp [State.guardEntered, h]

theorem State.guardEntered_stopping (h : (s.positioner b).state = .stopping) :
    s.guardEntered b = s.modPositioner b fun q => { q with known := false } := by
  simp [State.guardEntered, h]

theorem State.guardEntered_other (h : (s.positioner b).state = .parked ∨ (s.positioner b).state = .retracting ∨
    (s.positioner b).state = .fault) : s.guardEntered b = s := by
  rcases h with h | h | h <;> simp [State.guardEntered, h]

end

/-- Settles O26: the acceptance is a value of the actuator, then taken by its state. -/
theorem outerGuardIsTakenByTheActuator : Obligations.OuterGuardIsTakenByTheActuator := by
  unfold Obligations.OuterGuardIsTakenByTheActuator
  intro s b taken
  have hid (v : Bool) : (s.nextInstant.modPins b (fun x => { x with outerGuard := v })).modPositioner b
      (fun p => { p with outerGuard := ⟨v, 0⟩ }) = taken v id := State.modPositioner_eq rfl
  have hp (v : Bool) : (taken v id).positioner b = { s.positioner b with outerGuard := ⟨v, 0⟩ } := by
    simp [taken, State.positioner]
  have hstate (v : Bool) : ((taken v id).positioner b).state = (s.positioner b).state := by rw [hp]
  have hmod (f : Positioner → Positioner) (v : Bool) (hf : ∀ p, (f p).state = p.state) :
      (taken v id).modPositioner b f = taken v f := by
    rw [State.modPositioner_eq (hf _)]
    exact congrArg (fun x => { taken v id with positioners := x }) (PerBay.update_update ..)
  have hinward := hmod (fun p => { p with recalLeg := .inward }) true fun _ => rfl
  have hlost := hmod (fun p => { p with known := false }) true fun _ => rfl
  have hkept (v : Bool) (f : Positioner → Positioner) : BayKept s ((taken v id).modPositioner b f) b.other :=
    BayKept.trans (t := taken v id) ⟨rfl, rfl, by simp [taken, State.positioner], rfl⟩ (BayKept.modPositioner f)
  refine ⟨fun hacc => ?_, fun hacc => ?_⟩
  · have htake : takeOuterGuard b true s.nextInstant = (taken true id).guardEntered b := by
      rw [← hid]
      exact if_pos (by simp [hacc])
    rw [← hstate true]
    refine ⟨fun h => ⟨(taken true id).modPositioner b (recalibrateBegun s.settings), next_instantEnd ?_, ?_⟩,
      fun h => next_instantEnd ?_,
      fun h => ⟨(taken true fun p => { p with known := false }).seekFault b false, next_instantEnd ?_,
        State.seekFault_known (by simp [taken, State.positioner]), ?_, seekFault_faulted _ _ _⟩,
      fun h => next_instantEnd ?_, fun h => next_instantEnd ?_⟩
    · rw [htake, State.guardEntered_loading h]
    · rw [State.positioner_modPositioner_self, hp]
      exact ⟨rfl, rfl, rfl, rfl, rfl, rfl, rfl, rfl, rfl, rfl, rfl, hkept _ _, by simp [taken, State.bay],
        by simp [taken, State.spindle], by simp [taken], by simp [taken]⟩
    · rw [htake, State.guardEntered_recalibrating h, hinward]
    · rw [htake, State.guardEntered_overrun h, State.overrun, hlost]
    · exact (congrArg Prod.fst (State.seekFault_sensed _ b false)).trans
        (by simp [taken, State.positioner, sensedPart])
    · rw [htake, State.guardEntered_stopping h, hlost]
    · rw [htake, State.guardEntered_other h]
  · have htake : takeOuterGuard b false s.nextInstant = (taken false id).guardLeft b := by
      rw [← hid]
      exact if_pos (by simp [hacc])
    refine ⟨fun hs hl => ⟨(taken false id).modPositioner b (edgeFound s.settings), next_instantEnd ?_, ?_⟩,
      fun h => next_instantEnd ?_⟩
    · rw [htake]
      exact if_pos ⟨(hstate false).trans hs, by rw [hp]; exact hl⟩
    · rw [State.positioner_modPositioner_self, hp]
      exact ⟨rfl, rfl, rfl, rfl, rfl, rfl, rfl, rfl, rfl, hkept _ _, by simp [taken, State.bay],
        by simp [taken, State.spindle], by simp [taken], by simp [taken]⟩
    · rw [htake]
      exact if_neg (by rw [hp]; exact h)

end Sys2Proof.Machine

/-!
PROOFS. A track crossing by the Actuator State (R55, R64, R68, R70, R71, R75), and the end of the settle (R69).
-/

namespace Sys2Proof.Machine

/-! ### Crossings -/

section

variable {s : State} {b : Bay} {d : Direction}

@[simp] theorem State.seekFault_spindles (stops : Bool) : (s.seekFault b stops).spindles = s.spindles := by
  rw [State.seekFault_eq, ← s.seekLeft_spindles b]
  repeat' split
  all_goals simp

theorem outOfCylinders_iff {p : Positioner} : outOfCylinders p = true ↔ p.counter < 0 ∨ 638 < p.counter := by
  simp [outOfCylinders]

theorem State.crossed_out (h : (s.positioner b).state = .seeking ∨ (s.positioner b).state = .settling ∨
    (s.positioner b).state = .following) (hout : outOfCylinders (s.positioner b) = true) :
    s.crossed b d = s.overrun b := by
  rcases h with h | h | h <;> simp [State.crossed, h, hout]

theorem State.crossed_seeking (h : (s.positioner b).state = .seeking)
    (hin : outOfCylinders (s.positioner b) = false) : s.crossed b d =
      if (s.positioner b).counter = ((s.positioner b).target : Int) then
        s.modPositioner b (settlingEntered s.settings)
      else s.modPositioner b demandComputed := by
  simp [State.crossed, h, hin]

theorem State.crossed_settling (h : (s.positioner b).state = .settling)
    (hin : outOfCylinders (s.positioner b) = false) :
    s.crossed b d = s.modPositioner b (reseekBegun s.settings) := by
  simp [State.crossed, h, hin]

theorem State.crossed_following (h : (s.positioner b).state = .following)
    (hin : outOfCylinders (s.positioner b) = false) :
    s.crossed b d = (s.interruptChannel b).modPositioner b (reseekBegun s.settings) := by
  simp [State.crossed, h, hin]

theorem State.crossed_recalibrating (h : (s.positioner b).state = .recalibrating) :
    s.crossed b d =
      if 700 ≤ (outwardCounted d (s.positioner b)).outwardCount then
        (s.modPositioner b (outwardCounted d)).seekFault b false
      else (s.modPositioner b (outwardCounted d)).modPositioner b demandComputed := by
  simp [State.crossed, h, Config.outwardLimit]

theorem State.crossed_stopping (h : (s.positioner b).state = .stopping) : s.crossed b d =
    s.modPositioner b fun q => demandComputed { q with known := q.known && !outOfCylinders q } := by
  simp [State.crossed, h]

theorem State.crossed_other (h : (s.positioner b).state = .parked ∨ (s.positioner b).state = .loading ∨
    (s.positioner b).state = .retracting ∨ (s.positioner b).state = .fault) : s.crossed b d = s := by
  rcases h with h | h | h | h <;> simp [State.crossed, h]

theorem outwardCounted_sensed (p : Positioner) : sensedPart (outwardCounted d p) = sensedPart p := by
  unfold outwardCounted
  split <;> rfl

theorem State.overrun_sensed (s : State) (b : Bay) :
    sensedPart ((s.overrun b).positioner b) = sensedPart (s.positioner b) := by
  unfold State.overrun
  rw [State.seekFault_sensed, State.positioner_modPositioner_self]
  rfl

/-- What a crossing brings leaves the count, the interval and the direction that it was counted with. -/
theorem State.crossed_sensed (s : State) (b : Bay) (d : Direction) :
    sensedPart ((s.crossed b d).positioner b) = sensedPart (s.positioner b) := by
  have hmod (f : Positioner → Positioner) (hf : ∀ p, sensedPart (f p) = sensedPart p) (t : State) :
      sensedPart ((t.modPositioner b f).positioner b) = sensedPart (t.positioner b) := by
    rw [State.positioner_modPositioner_self, hf]
  unfold State.crossed
  dsimp only
  repeat' split
  · rw [State.seekFault_sensed, hmod _ outwardCounted_sensed]
  · rw [hmod demandComputed (fun _ => rfl), hmod _ outwardCounted_sensed]
  · exact State.overrun_sensed s b
  · exact hmod _ (by exact fun _ => rfl) s
  · exact hmod _ (by exact fun _ => rfl) s
  · exact State.overrun_sensed s b
  · exact hmod _ (by exact fun _ => rfl) s
  · exact State.overrun_sensed s b
  · rw [hmod (reseekBegun s.settings) fun _ => rfl]
    exact congrArg sensedPart (State.positioner_congr (by simp) b)
  · exact hmod _ (by exact fun _ => rfl) s
  · rfl

theorem State.crossed_spindles (s : State) (b : Bay) (d : Direction) : (s.crossed b d).spindles = s.spindles := by
  unfold State.crossed State.overrun
  dsimp only
  repeat' split
  all_goals simp

theorem BayKept.crossed : BayKept s (s.crossed b d) b.other := by
  unfold State.crossed
  dsimp only
  repeat' split
  · exact (BayKept.modPositioner _).trans (BayKept.seekFault _)
  · exact (BayKept.modPositioner _).trans (BayKept.modPositioner _)
  · exact BayKept.overrun
  · exact BayKept.modPositioner _
  · exact BayKept.modPositioner _
  · exact BayKept.overrun
  · exact BayKept.modPositioner _
  · exact BayKept.overrun
  · exact BayKept.interruptChannel.trans (BayKept.modPositioner _)
  · exact BayKept.modPositioner _
  · exact BayKept.refl _ _

theorem outwardCounted_kept (p : Positioner) : (outwardCounted d p).state = p.state ∧
    (outwardCounted d p).order = p.order ∧ (outwardCounted d p).reseekUsed = p.reseekUsed ∧
    (outwardCounted d p).vmeas = p.vmeas ∧ (outwardCounted d p).known = p.known := by
  unfold outwardCounted
  split <;> exact ⟨rfl, rfl, rfl, rfl, rfl⟩

theorem outwardCounted_count (p : Positioner) : (outwardCounted d p).outwardCount =
    if d = .outward then p.outwardCount + 1 else p.outwardCount := by
  unfold outwardCounted
  split <;> rfl

end

/-- R71: a Seek Fault that a crossing brings, from the state with what the crossing has measured. -/
theorem seekFaulted_counted {s u : State} {b : Bay} {v : Nat} {known : Bool} {stops : Bool}
    (hbays : u.bays = s.bays) (hspindles : u.spindles = s.spindles) (hmaps : u.maps = s.maps)
    (hentries : u.entries = s.entries) (hother : u.positioner b.other = s.positioner b.other)
    (horder : (u.positioner b).order = (s.positioner b).order)
    (hreseek : (u.positioner b).reseekUsed = (s.positioner b).reseekUsed) (hvmeas : (u.positioner b).vmeas = v)
    (hknown : (u.positioner b).known = known) (hstate : (u.positioner b).state = (s.positioner b).state) :
    SeekFaulted { s with positioners := s.positioners.update b fun p => { p with vmeas := v, known := known } }
      (u.seekFault b stops) b stops :=
  (seekFault_faulted u b stops).start hbays.symm hspindles.symm hmaps.symm hentries.symm
    (by simp [State.positioner] at hother ⊢; exact hother.symm)
    (by simp [State.positioner] at horder ⊢; exact horder.symm)
    (by simp [State.positioner] at hreseek ⊢; exact hreseek.symm)
    (by simp [State.positioner] at hvmeas ⊢; exact hvmeas.symm)
    (by simp [State.positioner] at hknown ⊢; exact hknown.symm)
    (by simp [State.positioner] at hstate ⊢; exact hstate.symm)

/-- Settles O27: the crossing is counted first, and then taken by the Actuator State. -/
theorem crossingMovesTheActuator : Obligations.CrossingMovesTheActuator := by
  unfold Obligations.CrossingMovesTheActuator
  intro s b d elapsed p n v out counted
  let u : State := (s.nextInstant.modPins b (fun x =>
    { x with
      crossA := (quadratureNext d (p.crossA, p.crossB)).1
      crossB := (quadratureNext d (p.crossA, p.crossB)).2 })).modPositioner b (crossingCounted d elapsed)
  have hu : u.positioner b = crossingCounted d elapsed p := State.positioner_modPositioner_self _
  have hstate : (u.positioner b).state = p.state := by rw [hu]; rfl
  have hcounter : (u.positioner b).counter = n := by rw [hu]; rfl
  have hout : outOfCylinders (u.positioner b) = true ↔ out := by
    rw [outOfCylinders_iff, hcounter]
  have hin (h : ¬out) : outOfCylinders (u.positioner b) = false := by
    rw [← Bool.not_eq_true, hout]
    exact h
  have hbays : u.bays = s.bays := by simp [u, State.modPins, State.nextInstant]
  have hspindles : u.spindles = s.spindles := by simp [u, State.modPins, State.nextInstant]
  have hmaps : u.maps = s.maps := by simp [u, State.modPins, State.nextInstant]
  have hentries : u.entries = s.entries := by simp [u, State.modPins, State.nextInstant]
  have hchannel : u.channel = s.channel := by simp [u, State.modPins, State.nextInstant]
  have hother : u.positioner b.other = s.positioner b.other := by
    simp [u, State.modPins, State.nextInstant, State.positioner]
  have hsettings : u.settings = s.settings := by simp [u, State.modPins, State.nextInstant]
  have hkept : BayKept u (u.crossed b d) b.other := BayKept.crossed
  have hsensed := (u.crossed_sensed b d).trans (congrArg sensedPart hu)
  have hself (f : Positioner → Positioner) : (u.modPositioner b f).positioner b = f (crossingCounted d elapsed p) := by
    rw [State.positioner_modPositioner_self, hu]
  refine ⟨u.crossed b d, rfl, congrArg (·.2.1) hsensed, congrArg (·.2.2.1) hsensed, congrArg (·.2.2.2.1) hsensed,
    congrArg (·.2.2.2.2) hsensed, fun h ho => ?_, fun h hi => ?_, fun h hi => ?_, fun h hi => ?_, fun h => ?_,
    fun h => ?_, fun h => ?_, (u.crossed_spindles b d).trans hspindles, hkept.positioner.trans hother,
    hkept.bay.trans (State.bay_congr hbays _)⟩
  · rw [State.crossed_out (by rw [hstate]; exact h) (hout.2 ho)]
    have hlost := hself fun p => { p with known := false }
    refine ⟨State.seekFault_known (by rw [hlost]), ?_⟩
    refine seekFaulted_counted (by simp [hbays]) (by simp [hspindles]) (by simp [hmaps]) (by simp [hentries])
      (by simp [hother]) ?_ ?_ ?_ ?_ ?_ <;> rw [hlost] <;> rfl
  · rw [State.crossed_seeking (hstate.trans h) (hin hi)]
    have hif : (u.positioner b).counter = ((u.positioner b).target : Int) ↔ n = (p.target : Int) := by
      rw [hu]
      rfl
    by_cases ht : n = (p.target : Int)
    · rw [if_pos ht, if_pos (hif.2 ht), hself, hsettings]
      exact ⟨rfl, rfl, rfl, rfl, rfl, rfl⟩
    · rw [if_neg ht, if_neg (mt hif.1 ht), hself]
      exact ⟨h, rfl, rfl, rfl⟩
  · rw [State.crossed_settling (hstate.trans h) (hin hi), hself]
    have hnot : ¬(crossingCounted d elapsed p).state = .following := by
      rw [show (crossingCounted d elapsed p).state = p.state from rfl, h]
      decide
    refine ⟨rfl, rfl, rfl, rfl, ?_, rfl, rfl⟩
    exact if_neg hnot
  · rw [State.crossed_following (hstate.trans h) (hin hi)]
    have hq : ((u.interruptChannel b).modPositioner b (reseekBegun u.settings)).positioner b =
        reseekBegun s.settings (crossingCounted d elapsed p) := by
      rw [State.positioner_modPositioner_self, State.positioner_congr (s := u) (by simp) b, hu, hsettings]
    rw [hq]
    refine ⟨rfl, rfl, rfl, rfl, if_pos h, if_pos h, if_pos h, ?_⟩
    rw [State.modPositioner_channel]
    exact u.interruptChannel_grant b
  · rw [State.crossed_recalibrating (hstate.trans h), hu]
    obtain ⟨hst, ho, hr, hv, hk⟩ := outwardCounted_kept (d := d) (crossingCounted d elapsed p)
    have hcount := outwardCounted_count (d := d) (crossingCounted d elapsed p)
    have hq := hself (outwardCounted d)
    refine ⟨fun ⟨hd, hn⟩ => ?_, fun ⟨hd, hn⟩ => ?_, fun ⟨hd, hn⟩ => ?_⟩
    · rw [if_pos (by rw [hcount, if_pos hd]; exact hn)]
      refine seekFaulted_counted (by simp [hbays]) (by simp [hspindles]) (by simp [hmaps]) (by simp [hentries])
        (by simp [hother]) (by rw [hq, ho]; rfl) (by rw [hq, hr]; rfl) (by rw [hq, hv]; rfl) (by rw [hq, hk]; rfl)
        (by rw [hq, hst]; rfl)
    · rw [if_neg (by rw [hcount, if_pos hd]; exact Nat.not_le.2 hn), State.positioner_modPositioner_self, hq]
      exact ⟨hst.trans h, hcount.trans (if_pos hd), rfl⟩
    · rw [if_neg (by rw [hcount, if_neg (by simp [hd])]; exact Nat.not_le.2 hn),
        State.positioner_modPositioner_self, hq]
      exact ⟨hst.trans h, hcount.trans (if_neg (by simp [hd])), rfl⟩
  · rw [State.crossed_stopping (hstate.trans h), hself]
    refine ⟨h, ?_, rfl⟩
    rw [hu] at hout
    rw [← hout]
    simp [demandComputed, crossingCounted]
  · rw [State.crossed_other (by rw [hstate]; exact h), hu]
    exact ⟨rfl, rfl, rfl, hbays, hchannel, hentries⟩

/-! ### The end of the settle (R69) -/

section

variable {s : State} {b : Bay} {o : Order}

/-- R69: the actuator in FOLLOWING, its timers stopped. -/
def State.settled (s : State) (b : Bay) : State :=
  s.modPositioner b fun p => { motionTimersStopped p with state := .following }

theorem State.settled_positioner :
    (s.settled b).positioner b = { motionTimersStopped (s.positioner b) with state := .following } :=
  State.positioner_modPositioner_self _

theorem State.enterFollowing_none (h : (s.positioner b).order = none) : s.enterFollowing b = s.settled b := by
  simp [State.enterFollowing, h, State.settled]

theorem State.enterFollowing_recalibrated (h : (s.positioner b).order = some o)
    (hk : o.kind = .recalibrate ∨ o.kind = .loadRecalibrate) :
    s.enterFollowing b = (s.settled b).endOrder b .ended := by
  obtain ⟨kind, giver⟩ := o
  rcases hk with rfl | rfl <;> simp [State.enterFollowing, h, State.settled]

theorem State.enterFollowing_seek {c hd : Nat} (h : (s.positioner b).order = some o)
    (hk : o.kind = .seek c hd) : s.enterFollowing b =
      if (s.positioner b).counter = (c : Int) then (s.settled b).endSeekIfThere b
      else (s.settled b).modPositioner b (seekBegun s.settings c) := by
  obtain ⟨kind, giver⟩ := o
  obtain rfl : kind = .seek c hd := hk
  simp [State.enterFollowing, h, State.settled]

theorem State.enterFollowing_park (h : (s.positioner b).order = some o) (hk : o.kind = .park) :
    s.enterFollowing b = s.settled b := by
  obtain ⟨kind, giver⟩ := o
  obtain rfl : kind = .park := hk
  simp [State.enterFollowing, h, State.settled]

theorem State.endSeekIfThere_eq {c hd : Nat} (h : (s.positioner b).order = some o) (hk : o.kind = .seek c hd) :
    s.endSeekIfThere b =
      if (s.positioner b).state = .following ∧ (s.positioner b).known = true ∧
          (s.positioner b).counter = (c : Int) ∧ (s.positioner b).headSelect = hd ∧
          (s.positioner b).pendingHead = none
      then s.endOrder b .ended else s := by
  obtain ⟨kind, giver⟩ := o
  obtain rfl : kind = .seek c hd := hk
  simp [State.endSeekIfThere, h]

end

/-- R69: what the entry to FOLLOWING leaves: the actuator settled, its order ended, or the seek it goes on with. -/
theorem State.enterFollowing_shape (s : State) (b : Bay) :
    (s.enterFollowing b).positioner b = (s.settled b).positioner b ∨
      (s.enterFollowing b).positioner b = { (s.settled b).positioner b with order := none } ∨
      ∃ c, (s.enterFollowing b).positioner b = seekBegun s.settings c ((s.settled b).positioner b) := by
  cases ho : (s.positioner b).order with
  | none => exact .inl (by rw [State.enterFollowing_none ho])
  | some o =>
    have horder : ((s.settled b).positioner b).order = some o := by rw [State.settled_positioner]; exact ho
    cases hk : o.kind with
    | recalibrate => exact .inr (.inl (by rw [State.enterFollowing_recalibrated ho (.inl hk), State.endOrder_positioner]))
    | loadRecalibrate =>
      exact .inr (.inl (by rw [State.enterFollowing_recalibrated ho (.inr hk), State.endOrder_positioner]))
    | park => exact .inl (by rw [State.enterFollowing_park ho hk])
    | seek c hd =>
      rw [State.enterFollowing_seek ho hk]
      split
      · rw [State.endSeekIfThere_eq horder hk]
        split
        · exact .inr (.inl (State.endOrder_positioner _))
        · exact .inl rfl
      · exact .inr (.inr ⟨c, State.positioner_modPositioner_self _⟩)

/-- Settles O30: the entry to FOLLOWING, by the order that the settle was made for. -/
theorem settleEndsInFollowing : Obligations.SettleEndsInFollowing := by
  unfold Obligations.SettleEndsInFollowing
  intro s b hsettling p told
  refine ⟨fun h => ?_, fun h => ?_⟩
  · have hbegun : samplingBegun p =
        { p with settleWait := none, sampling := true, sampleTimer := 0, onTrackCount := 0 } :=
      if_pos ⟨hsettling, h⟩
    refine next_instantEnd
      ((State.modPositioner_eq (s := s.nextInstant) ((congrArg Positioner.state hbegun).trans rfl)).trans ?_)
    exact congrArg (fun x => ({ s.nextInstant with positioners := x } : State)) (PerBay.update_congr hbegun)
  · let u : State := s.nextInstant.modPins b fun x => { x with onTrack := true }
    have hp : (u.settled b).positioner b = { motionTimersStopped p with state := .following } :=
      State.settled_positioner
    have hentries : (u.settled b).entries = s.entries := by simp [State.settled, u, State.modPins, State.nextInstant]
    refine ⟨u.enterFollowing b, next_instantEnd (if_pos ⟨hsettling, h⟩), ?_⟩
    intro q
    have hended : ((u.settled b).endOrder b .ended).positioner b =
        { motionTimersStopped p with state := .following, order := none } := by
      rw [State.endOrder_positioner, hp]
    have htold {o : Order} {id : Nat} (ho : p.order = some o) (hg : o.giver = .task id) :
        ((u.settled b).endOrder b .ended).entries = s.entries.map (told id) := by
      rw [State.endOrder_entries (o := o) (by rw [hp]; exact ho) hg, hentries]
      rfl
    have hkept : BayKept u (u.enterFollowing b) b.other := BayKept.enterFollowing
    have hstays : q.settleLimit = none ∧ q.settleWait = none ∧ q.sampling = false ∧ q.recalTimer = none ∧
        q.stopTimer = none ∧ q.counter = p.counter ∧ q.known = p.known := by
      obtain hq | hq | ⟨c, hq⟩ := u.enterFollowing_shape b <;> rw [show q = _ from hq, hp] <;>
        exact ⟨rfl, rfl, rfl, rfl, rfl, rfl, rfl⟩
    obtain ⟨hlimit, hwait, hsampling, hrecal, hstop, hcounter, hknown⟩ := hstays
    refine ⟨hlimit, hwait, hsampling, hrecal, hstop, hcounter, hknown, fun ho => ?_,
      fun o ho => ⟨fun hk => ?_, fun c hd hk => ?_⟩, by simp [u, State.modPins, State.nextInstant],
      by simp [u, State.modPins, State.nextInstant], by simp [u, State.modPins, State.nextInstant],
      by simp [u, State.modPins, State.nextInstant], hkept.positioner⟩
    · have ht : u.enterFollowing b = u.settled b := State.enterFollowing_none ho
      rw [show q = _ from congrArg (·.positioner b) ht, hp]
      exact ⟨rfl, ho, rfl⟩
    · have ht : u.enterFollowing b = (u.settled b).endOrder b .ended := State.enterFollowing_recalibrated ho hk
      rw [show q = _ from congrArg (·.positioner b) ht, hended, ht]
      exact ⟨rfl, rfl, fun id hg => htold ho hg⟩
    · have ht := State.enterFollowing_seek (s := u) ho hk
      have horder : ((u.settled b).positioner b).order = some o := by rw [hp]; exact ho
      have hthere := State.endSeekIfThere_eq horder hk
      rw [hp] at hthere
      by_cases hc : (c : Int) = p.counter
      · rw [if_pos hc]
        replace ht := ht.trans (if_pos hc.symm)
        have hq : q.state = .following ∧ q.seekTimer = none ∧ q.headSelect = p.headSelect ∧
            q.pendingHead = p.pendingHead := by
          rw [show q = _ from congrArg (·.positioner b) ht, hthere]
          split
          · rw [hended]
            exact ⟨rfl, rfl, rfl, rfl⟩
          · rw [hp]
            exact ⟨rfl, rfl, rfl, rfl⟩
        obtain ⟨hfollowing, htimer, hhead, hpending⟩ := hq
        refine ⟨hfollowing, htimer, hhead, hpending, fun h1 h2 h3 => ?_, fun hne => ?_⟩
        · replace ht := ht.trans (hthere.trans (if_pos ⟨rfl, h3, hc.symm, h1, h2⟩))
          rw [show q = _ from congrArg (·.positioner b) ht, hended, ht]
          exact ⟨rfl, fun id hg => htold ho hg⟩
        · replace ht := ht.trans (hthere.trans (if_neg fun ⟨_, _, _, h1, h2⟩ => hne.elim (· h1) (· h2)))
          rw [show q = _ from congrArg (·.positioner b) ht, hp, ht]
          exact ⟨ho, hentries⟩
      · rw [if_neg hc]
        replace ht := ht.trans (if_neg fun h => hc h.symm)
        have hq : q = seekBegun s.settings c { motionTimersStopped p with state := .following } := by
          rw [show q = _ from congrArg (·.positioner b) ht, State.positioner_modPositioner_self, hp]
          rfl
        rw [hq, ht]
        exact ⟨rfl, rfl, rfl, ho, rfl, rfl, by simpa using hentries⟩

end Sys2Proof.Machine

/-!
PROOFS. Park Detect by the Actuator State (R78, R80), and the Park orders of the retry and the idle timer (R17, R21,
R76).
-/

namespace Sys2Proof.Machine

/-! ### Park Detect -/

section

variable {s : State} {b : Bay} {v : Bool}

theorem State.setParkDetect_eq (s : State) (b : Bay) (v : Bool) : s.setParkDetect b v =
    { s with
      pins := { s.pins with bays := s.pins.bays.update b fun x => { x with parkDetect := v } }
      bays := s.bays.update b fun c => { c with parkDetect := ⟨v, 0⟩ } } :=
  State.modBay_quiet rfl

theorem holdBegun_retracting {p : Positioner} (h : p.state = .retracting) :
    holdBegun p = { p with parkHold := p.parkHold.or (some 0), rampRun := 0 } :=
  if_pos h

theorem holdBegun_other {p : Positioner} (h : p.state ≠ .retracting) : holdBegun p = p := if_neg h

theorem State.modPositioner_holdBegun (h : (s.positioner b).state = .retracting) : s.modPositioner b holdBegun =
    { s with
      positioners := s.positioners.update b fun p =>
        { p with parkHold := (s.positioner b).parkHold.or (some 0), rampRun := 0 } } := by
  have hbegun := holdBegun_retracting h
  rw [State.modPositioner_eq (by rw [hbegun])]
  exact congrArg (fun x => { s with positioners := x }) (PerBay.update_congr
    (g := fun p => { p with parkHold := (s.positioner b).parkHold.or (some 0), rampRun := 0 }) hbegun)

theorem State.rampWatched_iff : s.rampWatched b = true ↔
    (s.bay b).sensing = false ∧ (s.positioner b).state = .retracting := by
  simp [State.rampWatched]

theorem takeParkTrue_sensed (hs : (s.bay b).sensing = true) : takeParkTrue b s =
    if (s.bay b).parkDetect.accepted = true then s else (s.setParkDetect b true).modPositioner b holdBegun := by
  unfold takeParkTrue
  rw [if_neg (by simp [State.rampWatched, hs])]
  cases (s.bay b).parkDetect.accepted <;> simp [hs]

theorem takeParkFalse_sensed (hs : (s.bay b).sensing = true) : takeParkFalse b s =
    if (s.bay b).parkDetect.accepted = true then
      if (s.positioner b).state = .retracting then (s.setParkDetect b false).modPositioner b holdAbandoned
      else if (s.positioner b).state = .parked then (s.setParkDetect b false).beginRetract b
      else s.setParkDetect b false
    else s := by
  unfold takeParkFalse
  rw [if_neg (by simp [State.rampWatched, hs])]
  cases (s.bay b).parkDetect.accepted <;> cases (s.positioner b).state <;> simp [hs]

theorem takePark_unsensed (hs : (s.bay b).sensing = false) (hp : (s.positioner b).state ≠ .retracting) :
    takeParkTrue b s = s ∧ takeParkFalse b s = s := by
  have hw : ¬s.rampWatched b = true := by simp [State.rampWatched, hp]
  exact ⟨(if_neg hw).trans (if_neg (by simp [hs])), (if_neg hw).trans (if_neg (by simp [hs]))⟩

end

/-- Settles O25: by whether the bay samples, by the value accepted and by the Actuator State. -/
theorem parkDetectIsTakenByTheActuator : Obligations.ParkDetectIsTakenByTheActuator := by
  unfold Obligations.ParkDetectIsTakenByTheActuator
  intro s b next seen level held p
  have hlevel (v : Bool) : s.nextInstant.setParkDetect b v = level v := State.setParkDetect_eq ..
  have habandon (t : State) : t.modPositioner b holdAbandoned =
      { t with positioners := t.positioners.update b holdAbandoned } := State.modPositioner_eq rfl
  refine ⟨fun hs ha => ⟨fun h => next_instantEnd ?_, fun h => next_instantEnd ?_, next_instantEnd ?_⟩,
    fun hs ha => ⟨fun h => next_instantEnd ?_, fun h => ⟨(level false).beginRetract b, next_instantEnd ?_, ?_⟩,
      fun h1 h2 => next_instantEnd ?_, next_instantEnd ?_⟩,
    fun hs h => ⟨fun hh => ⟨next_instantEnd ?_, next_instantEnd ?_⟩,
      fun hh => ⟨next_instantEnd ?_, next_instantEnd ?_⟩⟩,
    fun hs h => ⟨next_instantEnd (takePark_unsensed (s := s.nextInstant) hs h).1,
      next_instantEnd (takePark_unsensed (s := s.nextInstant) hs h).2⟩⟩
  · rw [takeParkTrue_sensed (by exact hs), if_neg (by simp [ha]), hlevel]
    exact State.modPositioner_holdBegun h
  · rw [takeParkTrue_sensed (by exact hs), if_neg (by simp [ha]), hlevel]
    exact State.modPositioner_id (holdBegun_other h)
  · rw [takeParkFalse_sensed (by exact hs)]
    exact if_neg (by simp [ha])
  · rw [takeParkFalse_sensed (by exact hs), if_pos (by exact ha), if_pos (by exact h), hlevel]
    exact habandon _
  · rw [takeParkFalse_sensed (by exact hs), if_pos (by exact ha),
      if_neg (by simp [show (s.positioner b).state = _ from h]), if_pos (by exact h), hlevel]
  · have hbay : ((level false).bay b).parkDetect.accepted = false := by simp [level, State.bay]
    rw [State.beginRetract_positioner, hbay]
    exact ⟨rfl, rfl, rfl, rfl, rfl, rfl, rfl, rfl, by simp, by simp [level, seen, next],
      (BayKept.beginRetract (s := level false)).positioner,
      by simp [level, seen, next], by simp [level, seen, next], by simp [level, seen, next]⟩
  · rw [takeParkFalse_sensed (by exact hs), if_pos (by exact ha), if_neg (by exact h1), if_neg (by exact h2), hlevel]
  · rw [takeParkTrue_sensed (by exact hs)]
    exact if_pos ha
  · have hw : s.nextInstant.rampWatched b = true := State.rampWatched_iff.2 ⟨hs, h⟩
    refine (if_pos hw).trans ((if_pos hh).trans ?_)
    have hheld : ((s.positioner b).parkHold.or (some 0)) = some 0 := by
      rw [show (s.positioner b).parkHold = none from hh]
      rfl
    refine (State.modPositioner_holdBegun (by exact h)).trans ?_
    exact congrArg (fun x => ({ seen true with positioners := held x } : State)) hheld
  · have hw : s.nextInstant.rampWatched b = true := State.rampWatched_iff.2 ⟨hs, h⟩
    exact (if_pos hw).trans (if_neg (by simp [show (s.positioner b).parkHold = none from hh]))
  · have hw : s.nextInstant.rampWatched b = true := State.rampWatched_iff.2 ⟨hs, h⟩
    exact (if_pos hw).trans ((if_pos hh).trans (habandon _))
  · have hw : s.nextInstant.rampWatched b = true := State.rampWatched_iff.2 ⟨hs, h⟩
    refine (if_pos hw).trans (if_neg fun hn => ?_)
    rw [show p.parkHold = none from hn] at hh
    exact absurd hh (by simp)

/-! ### Park orders (R76) -/

section

variable {s t u : State} {b : Bay}

/-- What an order handed back leaves of the map: all but the outcome that the mount awaits. -/
def mountPart (m : DefectMap) : MountStage × MountStatus × Nat × List RemapEntry :=
  (m.mountStage, m.status, m.mountRetries, m.table)

theorem State.handBack_mountPart (o : Order) (x : OrderState) (c : Bay) :
    mountPart ((s.handBack b o x).map c) = mountPart (s.map c) := by
  unfold State.handBack
  split
  · rfl
  · rw [State.map_modMap]
    split
    next h =>
      rw [h]
      split <;> rfl
    · rfl
  · rfl

/-- R111: the end of a mount sequence, from another start with the same map and burst. -/
theorem MountEnded.start (h : MountEnded u t b) (hmap : mountPart (u.map b) = mountPart (s.map b))
    (hburst : u.burst = s.burst) : MountEnded s t b := by
  have hstage : (u.map b).mountStage = (s.map b).mountStage := congrArg (·.1) hmap
  have hstatus : (u.map b).status = (s.map b).status := congrArg (·.2.1) hmap
  have hretries : (u.map b).mountRetries = (s.map b).mountRetries := congrArg (·.2.2.1) hmap
  have htable : (u.map b).table = (s.map b).table := congrArg (·.2.2.2) hmap
  exact
    { stage := h.stage
      status := by rw [← hstage, ← hstatus]; exact h.status
      kept := by rw [← hretries, ← htable]; exact h.kept
      channel := by rw [← hstage]; exact h.channel
      slots := by
        rw [← hstage]
        intro hs i x hx ho
        rw [← State.burstOn_congr hburst i]
        exact h.slots hs i x hx ho }

/-- R111: the end of a mount sequence, and what comes after it. -/
theorem MountEnded.goOn (h : MountEnded s t b) (hmap : mountPart (u.map b) = mountPart (t.map b))
    (hchannel : u.channel = t.channel) (hslots : u.slots = t.slots) : MountEnded s u b where
  stage := (congrArg (·.1) hmap).trans h.stage
  status := (congrArg (·.2.1) hmap).trans h.status
  kept := ⟨(congrArg (·.2.2.1) hmap).trans h.kept.1, (congrArg (·.2.2.2) hmap).trans h.kept.2⟩
  channel := by rw [hchannel]; exact h.channel
  slots := by rw [hslots]; exact h.slots

theorem State.endMount_idle (h : (s.map b).mountStage = .idle) : s.endMount b = s := if_pos h

theorem State.replaceHeld_quiet (h : ∀ o, (s.positioner b).held = some o → o.kind = .park) : s.replaceHeld b = s := by
  unfold State.replaceHeld
  split
  · rfl
  next hnot =>
    cases ho : (s.positioner b).held with
    | none =>
      simp only [State.handBack?]
      exact State.modPositioner_id (by rw [← ho])
    | some o =>
      obtain ⟨kind, giver⟩ := o
      obtain rfl : kind = .park := h _ ho
      exact absurd ho (hnot giver)

theorem State.replaceHeld_other {o : Order} (h : (s.positioner b).held = some o) (hk : o.kind ≠ .park) :
    s.replaceHeld b = (s.handBack b o .returned).modPositioner b fun p => { p with held := none } := by
  obtain ⟨kind, giver⟩ := o
  unfold State.replaceHeld
  rw [h]
  cases kind <;> simp [State.handBack?] at hk ⊢

theorem State.givePark_parked (g : Giver) (h : (s.positioner b).state = .parked) :
    s.givePark b g = ((s.replaceHeld b).endMount b).handBack b ⟨.park, g⟩ .ended := by
  simp [State.givePark, h]

theorem State.givePark_fault (g : Giver) (h : (s.positioner b).state = .fault) (hs : s.supply.accepted = false) :
    s.givePark b g = ((s.endMount b).modPositioner b fun p => { p with order := some ⟨.park, g⟩ }).beginRetract b := by
  simp [State.givePark, h, hs]

theorem State.givePark_following (g : Giver) (h : (s.positioner b).state = .following)
    (hs : s.supply.accepted = false) : s.givePark b g = s.holdPark b g := by
  simp [State.givePark, h, hs]

theorem State.replaceHeld_mountPart : mountPart ((s.replaceHeld b).map b) = mountPart (s.map b) := by
  unfold State.replaceHeld
  split
  · rfl
  · rw [State.map_congr (State.modPositioner_maps ..)]
    unfold State.handBack?
    split
    · rfl
    · exact State.handBack_mountPart ..

theorem State.replaceHeld_state : ((s.replaceHeld b).positioner b).state = (s.positioner b).state ∧
    ((s.replaceHeld b).positioner b).order = (s.positioner b).order ∧
    ((s.replaceHeld b).positioner b).retractTimer = (s.positioner b).retractTimer ∧
    ((s.replaceHeld b).positioner b).heldBehind = (s.positioner b).heldBehind := by
  unfold State.replaceHeld
  split
  · exact ⟨rfl, rfl, rfl, rfl⟩
  · simp

/-- R76: the order in progress of a retract that a Park order joins. -/
def parkJoined (g : Giver) (p : Positioner) : Positioner :=
  { p with
    order := some ⟨.park, match p.order with
      | some ⟨.park, g0⟩ => joinedGiver g0 g
      | _ => g⟩ }

theorem parkJoined_new {g : Giver} {p : Positioner} (h : ∀ g, p.order ≠ some ⟨.park, g⟩) :
    (parkJoined g p).order = some ⟨.park, g⟩ := by
  unfold parkJoined
  split
  next g0 ho => exact absurd ho (h g0)
  · rfl

theorem State.givePark_retracting (g : Giver) (h : (s.positioner b).state = .retracting)
    (hs : s.supply.accepted = false) :
    s.givePark b g = ((s.replaceHeld b).endMount b).modPositioner b (parkJoined g) := by
  unfold State.givePark
  rw [h]
  exact if_neg (by simp [hs])

theorem State.holdPark_none (g : Giver) (h : (s.positioner b).held = none) : s.holdPark b g =
    { s with positioners := s.positioners.update b fun p => { p with held := some ⟨.park, g⟩ } } := by
  unfold State.holdPark
  rw [h]
  exact State.modPositioner_eq rfl

theorem State.replaceHeld_entries {o : Order} {id : Nat} (h : (s.positioner b).held = some o) (hk : o.kind ≠ .park)
    (hg : o.giver = .task id) : (s.replaceHeld b).entries = s.entries.map (toldOrder .returned id) := by
  rw [State.replaceHeld_other h hk, State.modPositioner_entries]
  exact State.handBack_entries hg

theorem State.replaceHeld_held {o : Order} (h : (s.positioner b).held = some o) (hk : o.kind ≠ .park) :
    ((s.replaceHeld b).positioner b).held = none := by
  rw [State.replaceHeld_other h hk, State.positioner_modPositioner_self]

/-- R111: a Park taken where it arrives ends the mount sequence in progress. -/
theorem State.replaceHeld_endMount_ended (s : State) (b : Bay) : MountEnded s ((s.replaceHeld b).endMount b) b :=
  (State.endMount_ended _ b).start State.replaceHeld_mountPart (by simp)

theorem State.endMount_positioner (c : Bay) : (s.endMount b).positioner c = s.positioner c :=
  State.positioner_congr (by simp) c

end

/-- Settles O49: the timer's own registers first, then the Park order by the Actuator State. -/
theorem retryAndIdleParkTheHeads : Obligations.RetryAndIdleParkTheHeads := by
  unfold Obligations.RetryAndIdleParkTheHeads
  intro s b next quiet idle
  have hquiet : (s.nextInstant.modBay b fun c => { c with retry := none }) = quiet := State.modBay_quiet rfl
  have hidle : (s.nextInstant.modBay b fun c => { c with idle := none, idleStop := true, idleSpent := true }) =
      idle := State.modBay_quiet rfl
  have hretry (h : (s.bay b).retry.isSome = true) : takeRetryExpiry b s.nextInstant =
      if (s.spindle b).phase.regulates then quiet.givePark b .bay else quiet := by
    rw [← hquiet]
    exact if_pos h
  have hgiven (h : (s.bay b).idle.isSome = true) (hl : s.settings.idleLimit ≠ 0) :
      takeIdleExpiry b s.nextInstant = idle.givePark b .bay := by
    rw [← hidle]
    exact if_pos ⟨h, hl⟩
  have hkept : BayKept s (idle.givePark b .bay) b.other :=
    BayKept.trans (t := idle) ⟨by simp [idle, State.bay], rfl, rfl, rfl⟩ (BayKept.givePark _)
  have hended : MountEnded s ((idle.replaceHeld b).endMount b) b :=
    (idle.replaceHeld_endMount_ended b).start rfl rfl
  refine ⟨fun h => next_instantEnd (if_neg (by simp [h])), fun h => ⟨fun hph => next_instantEnd ?_,
    fun hph hst hsup => ⟨quiet.givePark b .bay, next_instantEnd ?_, ?_⟩⟩, fun h => next_instantEnd (if_neg ?_),
    fun h hl => ⟨fun hst hheld hm => next_instantEnd ?_,
      fun hst hheld => ⟨idle.givePark b .bay, next_instantEnd (hgiven h hl), ?_⟩,
      fun hst o ho hk => ⟨idle.givePark b .bay, next_instantEnd (hgiven h hl), ?_⟩,
      fun hst hsup => ⟨idle.givePark b .bay, next_instantEnd (hgiven h hl), ?_⟩,
      fun hst hsup hheld => next_instantEnd ?_⟩⟩
  · rw [hretry h, if_neg]
    intro hr
    revert hph hr
    cases (s.spindle b).phase <;> decide
  · rw [hretry h, if_pos]
    rcases hph with hph | hph <;> rw [hph] <;> rfl
  · have hk : BayKept s (quiet.givePark b .bay) b.other :=
      BayKept.trans (t := quiet) ⟨by simp [quiet, State.bay], rfl, rfl, rfl⟩ (BayKept.givePark _)
    rw [State.givePark_fault .bay (s := quiet) hst hsup] at hk ⊢
    have hp : ((quiet.endMount b).modPositioner b fun p => { p with order := some ⟨.park, .bay⟩ }).positioner b =
        { s.positioner b with order := some ⟨.park, .bay⟩ } := by
      rw [State.positioner_modPositioner_self, State.endMount_positioner]
      rfl
    rw [State.beginRetract_positioner, hp]
    exact ⟨by simp, rfl, rfl, rfl, rfl, by simp [retractBegun, hst], rfl, by simp [quiet, next],
      by simp [quiet, next], hk⟩
  · rcases h with h | h
    · simp [h]
    · simp [State.nextInstant, h]
  · rw [hgiven h hl, State.givePark_parked .bay (s := idle) hst, State.replaceHeld_quiet (by exact hheld),
      State.endMount_idle (by exact hm)]
    rfl
  · rw [State.givePark_parked .bay (s := idle) hst] at hkept ⊢
    rw [State.replaceHeld_quiet (s := idle) (b := b) hheld] at hkept hended ⊢
    exact ⟨by simp [State.handBack], hended, by simp [State.handBack, idle, next], by simp [State.handBack, idle, next],
      by simp [State.handBack, idle, next], hkept⟩
  · rw [State.givePark_parked .bay (s := idle) hst] at hkept ⊢
    obtain ⟨hstate, -, -, hbehind⟩ := State.replaceHeld_state (s := idle) (b := b)
    refine ⟨by simp [State.handBack], ?_, ?_, ?_, fun id hg => ?_, hended, by simp [State.handBack, idle, next], hkept⟩
    · rw [State.positioner_handBack, State.endMount_positioner]
      exact State.replaceHeld_held (by exact ho) hk
    · rw [State.positioner_handBack, State.endMount_positioner]
      exact hstate.trans hst
    · rw [State.positioner_handBack, State.endMount_positioner]
      exact hbehind
    · have hentries := State.replaceHeld_entries (s := idle) (b := b) ho hk hg
      have hsame : (((idle.replaceHeld b).endMount b).handBack b ⟨.park, .bay⟩ .ended).entries =
          (idle.replaceHeld b).entries := by simp [State.handBack]
      exact hsame.trans hentries
  · rw [State.givePark_retracting .bay (s := idle) hst hsup] at hkept ⊢
    obtain ⟨hstate, horder, htimer, -⟩ := State.replaceHeld_state (s := idle) (b := b)
    refine ⟨by simp, ?_, ?_, fun hg => ?_, fun o ho hk => ?_, hended.goOn ?_ ?_ ?_, by simp [idle, next], hkept⟩
    · rw [State.positioner_modPositioner_self, State.endMount_positioner]
      exact hstate.trans hst
    · rw [State.positioner_modPositioner_self, State.endMount_positioner]
      exact htimer
    · rw [State.positioner_modPositioner_self, State.endMount_positioner]
      exact parkJoined_new (by rw [horder]; exact hg)
    · rw [State.positioner_modPositioner_self, State.endMount_positioner]
      exact State.replaceHeld_held (by exact ho) hk
    · exact congrArg mountPart (State.map_congr (by simp) b)
    · simp
    · simp
  · rw [hgiven h hl, State.givePark_following .bay (by exact hst) (by exact hsup)]
    exact State.holdPark_none .bay hheld

end Sys2Proof.Machine

/-!
PROOFS. The ends of a retract: a load that fails (R62), a retract that fails (R16, R79), and the entry to PARKED
(R78, R76).
-/

namespace Sys2Proof.Machine

namespace BayKept

variable {s : State} {b : Bay}

theorem endTasksOn (p : Entry → Bool) (r : Result) (c : Bay) : BayKept s (s.endTasksOn b p r) c :=
  of_blocks rfl rfl rfl rfl

theorem enterBayFault : BayKept s (s.enterBayFault b) b.other :=
  (((modBay _).trans (modPositioner _)).trans clearMount).trans (endTasksOn _ _ _)

theorem failRecovery : BayKept s (s.failRecovery b) b.other :=
  ((modBay _).trans (modPositioner _)).trans (endTasksOn _ _ _)

theorem takeActuatorFault : BayKept s (s.takeActuatorFault b) b.other := by
  unfold State.takeActuatorFault
  repeat' split
  · exact refl _ _
  · exact enterBayFault
  · exact enterBayFault
  · exact failRecovery
  · exact modBay _
  · exact refl _ _
  · exact refl _ _

end BayKept

/-! ### Ends decided (R145) -/

theorem decided_ending {r : Result} {n : Nat} {e : Entry} (h : e.state = .active) :
    (decided r n e).ending ≠ none := by
  unfold decided
  split
  · split <;> exact nofun
  next hn => exact fun he => hn ⟨h, he⟩

section

variable {s : State} {b : Bay}

/-- R145: every started task of the bay has its end decided where all of them are ended. -/
theorem State.endTasksOn_ended (r : Result) :
    ∀ e ∈ (s.endTasksOn b (fun _ => true) r).entries, e.names b = true → e.state = .active → e.ending ≠ none := by
  intro e he hb ha
  obtain ⟨x, -, rfl⟩ := List.mem_map.1 he
  obtain ⟨-, hblock, hstate, -⟩ := decided_step r 0 x
  by_cases hx : x.names b = true
  · simp only [hx, Bool.and_self, if_true] at ha ⊢
    exact decided_ending (hstate.symm.trans ha)
  · simp only [hx, Bool.false_and] at hb
    exact absurd hb (by simp [hx])

/-! ### The bay takes its actuator's FAULT (R16 to R18) -/

theorem State.takeActuatorFault_positioner (c : Bay) :
    (s.takeActuatorFault b).positioner c = s.positioner c ∨
      (s.takeActuatorFault b).positioner c = { s.positioner c with retractRetries := 0 } := by
  have hreset (t : State) (h : t.positioners = (s.modPositioner b fun p => { p with retractRetries := 0 }).positioners) :
      t.positioner c = s.positioner c ∨ t.positioner c = { s.positioner c with retractRetries := 0 } := by
    rw [State.positioner_congr h, State.positioner_modPositioner]
    split
    next hc => exact .inr (by rw [hc])
    · exact .inl rfl
  unfold State.takeActuatorFault
  repeat' split
  · exact .inl rfl
  · exact hreset _ (by simp [State.enterBayFault])
  · exact hreset _ (by simp [State.enterBayFault])
  · exact hreset _ (by simp [State.failRecovery])
  · exact .inl (State.positioner_congr (by simp) c)
  · exact .inl rfl
  · exact .inl rfl

theorem State.takeActuatorFault_held (h : s.resetInProgress = false) (hst : (s.bay b).state = .locked ∨
    (s.bay b).state = .releasing .seated ∨ (s.bay b).state = .releasing .ejecting) :
    s.takeActuatorFault b = s.enterBayFault b := by
  rcases hst with hst | hst | hst <;> simp [State.takeActuatorFault, h, hst]

theorem State.takeActuatorFault_free (hst : (s.bay b).state = .empty ∨ (s.bay b).state = .seated ∨
    (s.bay b).state = .ejecting ∨ s.resetInProgress = true) : s.takeActuatorFault b = s := by
  unfold State.takeActuatorFault
  rcases hst with hst | hst | hst | hst <;> simp [hst]

theorem State.takeActuatorFault_again (h : s.resetInProgress = false) (hst : (s.bay b).state = .fault)
    (hf : (s.bay b).faultClass = .retractFault) : s.takeActuatorFault b =
      if (s.spindle b).phase.regulates = true ∧ (s.positioner b).retractRetries < 3 then
        s.modBay b fun c => { c with retry := some 0 }
      else s := by
  simp [State.takeActuatorFault, h, hst, hf]

theorem State.enterBayFault_bay : (s.enterBayFault b).bay b =
    { s.bay b with
      state := .fault, faultClass := .retractFault, idle := none, idleStop := false, retry := some 0
      ejectRequested := (s.bay b).ejectRequested || (s.bay b).state == .releasing .ejecting } := by
  simp [State.enterBayFault, State.bay]

theorem State.enterBayFault_positioner :
    (s.enterBayFault b).positioner b = { s.positioner b with retractRetries := 0 } := by
  simp [State.enterBayFault, State.positioner]

theorem State.enterBayFault_map : ((s.enterBayFault b).map b).status = .none ∧
    ((s.enterBayFault b).map b).table = [] := by
  simp [State.enterBayFault, State.clearMount, State.map]

theorem State.clearMount_map : ((s.clearMount b).map b).status = .none ∧ ((s.clearMount b).map b).table = [] := by
  simp [State.clearMount]

/-! ### The ends of a motion on the ramp -/

theorem retractFailed_deferredBrake (q : Spindle) : (deferredBrake q).phase = q.phase ∧
    (deferredBrake q).brake = (q.brake || q.brakeDeferred) := by
  unfold deferredBrake
  split
  next h => simp [h]
  next h => simp [h]

theorem standing_failRetract (s : State) (b : Bay) : (s.failRetract b).standing = s.standing := by
  unfold State.failRetract
  rw [standing_dropHeld, standing_endOrder, State.standing_modSpindle _ _ _ (deferredBrake_drive _),
    State.standing_modPositioner _ _ _ rfl]

theorem State.failRetract_positioner : (s.failRetract b).positioner b =
    { retractFailed (s.positioner b) with order := none, held := none, heldBehind := none } := by
  unfold State.failRetract
  rw [State.dropHeld_positioner, State.endOrder_positioner, State.positioner_congr (State.modSpindle_positioners ..),
    State.positioner_modPositioner_self]

theorem State.failRetract_spindle : (s.failRetract b).spindle b = deferredBrake (s.spindle b) := by
  simp [State.failRetract, State.spindle]

theorem State.failRetract_bay (c : Bay) : (s.failRetract b).bay c = s.bay c :=
  State.bay_congr (by simp) c

/-- R78: the actuator PARKED, with the order in progress ended. -/
def State.parkedThere (s : State) (b : Bay) : State :=
  ((s.modPositioner b parkEnded).modSpindle b deferredBrake).endOrder b .ended

theorem State.parkedThere_positioner :
    (s.parkedThere b).positioner b = { parkEnded (s.positioner b) with order := none } := by
  unfold State.parkedThere
  rw [State.endOrder_positioner, State.positioner_congr (State.modSpindle_positioners ..),
    State.positioner_modPositioner_self]

theorem State.parkedThere_spindle : (s.parkedThere b).spindle b = deferredBrake (s.spindle b) := by
  simp [State.parkedThere, State.spindle]

theorem State.endOrder_mountPart (x : OrderState) (c : Bay) :
    mountPart ((s.endOrder b x).map c) = mountPart (s.map c) := by
  unfold State.endOrder
  rw [State.map_congr (State.modPositioner_maps ..)]
  unfold State.handBack?
  split
  · rfl
  · exact State.handBack_mountPart ..

theorem State.parkedThere_mountPart : mountPart ((s.parkedThere b).map b) = mountPart (s.map b) := by
  unfold State.parkedThere
  rw [State.endOrder_mountPart, State.map_congr (s := s) (by simp)]

theorem State.parkedThere_frame : (s.parkedThere b).bays = s.bays ∧ (s.parkedThere b).channel = s.channel ∧
    (s.parkedThere b).slots = s.slots ∧ (s.parkedThere b).burst = s.burst := by
  simp [State.parkedThere]

theorem State.enterParked_free (h : ∀ x, (s.positioner b).held = some x → x.kind ≠ .park) :
    s.enterParked b = s.parkedThere b := by
  unfold State.enterParked
  dsimp only
  split
  next g hg => exact absurd rfl (h _ hg)
  · rfl

theorem State.enterParked_held {x : Order} (h : (s.positioner b).held = some x) (hk : x.kind = .park) :
    s.enterParked b = (((s.parkedThere b).endMount b).handBack b x .ended).modPositioner b fun p =>
      { p with held := p.heldBehind, heldBehind := none } := by
  obtain ⟨kind, giver⟩ := x
  obtain rfl : kind = .park := hk
  unfold State.enterParked
  dsimp only
  rw [h]
  rfl

theorem State.enterParked_held_positioner {x : Order} (h : (s.positioner b).held = some x) (hk : x.kind = .park) :
    (s.enterParked b).positioner b =
      { parkEnded (s.positioner b) with order := none, held := (s.positioner b).heldBehind, heldBehind := none } := by
  rw [State.enterParked_held h hk, State.positioner_modPositioner_self, State.positioner_handBack,
    State.endMount_positioner, State.parkedThere_positioner]
  rfl

end

/-- Settles O32: the three ends of the ramp's motions. -/
theorem retractsEndParkedOrInFault : Obligations.RetractsEndParkedOrInFault := by
  unfold Obligations.RetractsEndParkedOrInFault
  intro s b p told
  refine ⟨fun h => ⟨s.nextInstant.loadFaulted b, next_instantEnd (if_pos h), ?_⟩,
    fun hst hh => ⟨(s.nextInstant.failRetract b).takeActuatorFault b, next_instantEnd (if_pos ⟨hst, hh⟩), ?_⟩,
    fun hst hh => ⟨s.nextInstant.enterParked b, next_instantEnd (if_pos ⟨hst, hh⟩), ?_⟩⟩
  · have hkept : BayKept s (s.nextInstant.loadFaulted b) b.other := BayKept.loadFaulted.start rfl rfl rfl rfl
    have hp : (s.nextInstant.loadFaulted b).positioner b =
        retractBegun (s.bay b).parkDetect.accepted { p with order := none } := by
      unfold State.loadFaulted
      rw [State.beginRetract_positioner, State.endOrder_positioner,
        State.positioner_congr (s := s) (by simp [State.recordFault, State.nextInstant])]
      rw [State.bay_congr (State.endOrder_frame ..).1]
      simp [State.recordFault, p]
    have hbay : (s.nextInstant.loadFaulted b).bay b = { s.bay b with faultClass := .loadFault } := by
      simp [State.loadFaulted, State.recordFault, State.bay, State.nextInstant]
    rw [hp, hbay]
    refine ⟨rfl, rfl, rfl, rfl, rfl, rfl, rfl, rfl, fun o ho id hg => ?_,
      by simp [State.loadFaulted, State.recordFault, State.nextInstant],
      by simp [State.loadFaulted, State.recordFault, State.nextInstant],
      by simp [State.loadFaulted, State.recordFault, State.nextInstant], hkept⟩
    have hentries := State.endOrder_entries (s := s.nextInstant.recordFault b .loadFault) (b := b) (o := o)
      (x := .failed) (id := id) ((congrArg Positioner.order (State.positioner_congr (by simp [State.recordFault]) b)).trans ho) hg
    have hsame : (s.nextInstant.loadFaulted b).entries =
        ((s.nextInstant.recordFault b .loadFault).endOrder b .failed).entries := by
      simp [State.loadFaulted, State.beginRetract]
    have hstart : (s.nextInstant.recordFault b .loadFault).entries = s.entries := by
      simp [State.recordFault, State.nextInstant]
    rw [hsame, hentries, hstart]
    rfl
  · let u := s.nextInstant.failRetract b
    have hkept : BayKept s (u.takeActuatorFault b) b.other :=
      (BayKept.failRetract.trans BayKept.takeActuatorFault).start rfl rfl rfl rfl
    have hp : u.positioner b = { retractFailed p with order := none, held := none, heldBehind := none } :=
      State.failRetract_positioner
    have hbay : u.bay b = s.bay b := State.failRetract_bay b
    have hspindle : (u.takeActuatorFault b).spindle b = deferredBrake (s.spindle b) :=
      (State.spindle_congr (s := u) (by simp) b).trans State.failRetract_spindle
    obtain ⟨hphase, hbrake⟩ := retractFailed_deferredBrake (s.spindle b)
    have hreset : u.resetInProgress = s.resetInProgress :=
      (congrArg Standing.resetInProgress (standing_failRetract s.nextInstant b)).trans rfl
    obtain ⟨hstate, hdac, hretract, hfollow, horder, hheld⟩ :
        ((u.takeActuatorFault b).positioner b).state = .fault ∧ ((u.takeActuatorFault b).positioner b).dac = 0 ∧
        ((u.takeActuatorFault b).positioner b).retract = false ∧
        ((u.takeActuatorFault b).positioner b).followEnable = false ∧
        ((u.takeActuatorFault b).positioner b).order = none ∧
        ((u.takeActuatorFault b).positioner b).held = none := by
      obtain h | h := State.takeActuatorFault_positioner (s := u) (b := b) b <;> rw [h, hp] <;>
        exact ⟨rfl, rfl, rfl, rfl, rfl, rfl⟩
    refine ⟨hstate, hdac, hretract, hfollow, horder, hheld, by rw [hspindle, hphase], by rw [hspindle, hbrake],
      fun hbs hrun => ?_, fun hbs => ?_, fun hbs hf hfrom hrun => ?_, hkept⟩
    · have ht : u.takeActuatorFault b = u.enterBayFault b :=
        State.takeActuatorFault_held (hreset.trans hrun) (by rw [hbay]; exact hbs)
      have htbay : (u.takeActuatorFault b).bay b = _ := (congrArg (·.bay b) ht).trans State.enterBayFault_bay
      rw [htbay, hbay, ht, State.enterBayFault_positioner]
      obtain ⟨hstatus, htable⟩ := State.enterBayFault_map (s := u) (b := b)
      exact ⟨rfl, rfl, rfl, rfl, rfl, rfl, by rw [beq_eq_decide], rfl, hstatus, htable, State.endTasksOn_ended _⟩
    · have ht : u.takeActuatorFault b = u := State.takeActuatorFault_free (by rw [hbay, hreset]; exact hbs)
      rw [ht, hbay]
    · have ht := State.takeActuatorFault_again (s := u) (b := b) (hreset.trans hrun) (by rw [hbay]; exact hbs)
        (by rw [hbay]; exact hf)
      have hretries : (u.positioner b).retractRetries = raiseTo 3 p.retractRetries := by
        rw [hp]
        exact if_pos hfrom
      have hcond : (u.spindle b).phase.regulates = true ∧ (u.positioner b).retractRetries < 3 ↔
          (s.spindle b).phase.regulates = true ∧ p.retractRetries + 1 < 3 := by
        rw [show u.spindle b = deferredBrake (s.spindle b) from State.failRetract_spindle, hphase, hretries]
        have hless : raiseTo 3 p.retractRetries < 3 ↔ p.retractRetries + 1 < 3 := by
          unfold raiseTo
          split <;> omega
        rw [hless]
      by_cases hc : (s.spindle b).phase.regulates = true ∧ p.retractRetries + 1 < 3
      · rw [if_pos hc, ht.trans (if_pos (hcond.2 hc))]
        have hpos : (u.modBay b fun c => { c with retry := some 0 }).positioner b = u.positioner b :=
          State.positioner_congr (by simp) b
        rw [hpos, hretries, State.bay_modBay, if_pos rfl, hbay]
        exact ⟨rfl, hbs, hf, rfl⟩
      · rw [if_neg hc, ht.trans (if_neg (mt hcond.1 hc)), hretries, hbay]
        exact ⟨rfl, hbs, hf, rfl⟩
  · let u := s.nextInstant
    have hkept : BayKept s (u.enterParked b) b.other := BayKept.enterParked.start rfl rfl rfl rfl
    have hbays : (u.enterParked b).bays = s.bays := by simp [u, State.nextInstant]
    have hspindle : (u.enterParked b).spindle b = deferredBrake (s.spindle b) := by
      by_cases hfree : ∀ x, p.held = some x → x.kind ≠ .park
      · rw [State.enterParked_free (s := u) hfree]
        exact State.parkedThere_spindle
      · push Not at hfree
        obtain ⟨x, hx, hk⟩ := hfree
        rw [State.enterParked_held (s := u) hx hk]
        refine (State.spindle_congr (s := u.parkedThere b) (by simp) b).trans ?_
        exact State.parkedThere_spindle
    obtain ⟨hphase, hbrake⟩ := retractFailed_deferredBrake (s.spindle b)
    have hp : (∃ h hb, (u.enterParked b).positioner b =
        { parkEnded p with order := none, held := h, heldBehind := hb }) := by
      by_cases hfree : ∀ x, p.held = some x → x.kind ≠ .park
      · rw [State.enterParked_free (s := u) hfree, State.parkedThere_positioner]
        exact ⟨_, _, rfl⟩
      · push Not at hfree
        obtain ⟨x, hx, hk⟩ := hfree
        rw [State.enterParked_held_positioner (s := u) hx hk]
        exact ⟨_, _, rfl⟩
    obtain ⟨held, behind, hp⟩ := hp
    refine ⟨by rw [hp]; rfl, by rw [hp]; rfl, by rw [hp]; rfl, by rw [hp]; rfl, by rw [hp]; rfl, by rw [hp]; rfl,
      by rw [hp]; rfl, by rw [hp], by rw [hspindle, hphase], by rw [hspindle, hbrake], fun o ho hfree id hg => ?_,
      fun hfree => ?_, fun x hx hk => ?_, hbays, hkept⟩
    · rw [State.enterParked_free (s := u) hfree]
      unfold State.parkedThere
      rw [State.endOrder_entries (o := o) (by simp [parkEnded, motionTimersStopped, u]; exact ho) hg]
      simp only [State.modSpindle_entries, State.modPositioner_entries]
      rfl
    · rw [State.enterParked_free (s := u) hfree]
      obtain ⟨-, hchannel, hslots, -⟩ := State.parkedThere_frame (s := u) (b := b)
      have hmap := State.parkedThere_mountPart (s := u) (b := b)
      rw [State.parkedThere_positioner]
      exact ⟨hchannel, hslots, congrArg (·.1) hmap, congrArg (·.2.1) hmap, rfl, rfl⟩
    · rw [State.enterParked_held_positioner (s := u) hx hk]
      refine ⟨?_, rfl, rfl⟩
      rw [State.enterParked_held (s := u) hx hk]
      obtain ⟨-, -, -, hburst⟩ := State.parkedThere_frame (s := u) (b := b)
      refine ((State.endMount_ended (u.parkedThere b) b).start (s := s) ?_ hburst).goOn ?_ ?_ ?_
      · exact State.parkedThere_mountPart
      · rw [State.map_congr (State.modPositioner_maps ..)]
        exact State.handBack_mountPart ..
      · simp
      · simp

end Sys2Proof.Machine

/-!
PROOFS. What a grant begins (R130 to R132): the oldest request of a slot, else the oldest finish, else a Condition
Record, else the fetcher's access; and where each burst goes with which words (R158 to R164, R179).
-/

namespace Sys2Proof.Machine

/-! ### The oldest request (R132) -/

/-- One request before another: by Age, and by number among equals. -/
def requestBefore (x y : Nat × Nat) : Prop := x.2 < y.2 ∨ (x.2 = y.2 ∧ x.1 ≤ y.1)

theorem requestBefore.trans {x y z : Nat × Nat} (h : requestBefore x y) (k : requestBefore y z) :
    requestBefore x z := by
  unfold requestBefore at *
  omega

theorem requestBefore.antisymm {x y : Nat × Nat} (h : requestBefore x y) (k : requestBefore y x) : x = y := by
  unfold requestBefore at *
  exact Prod.ext (by omega) (by omega)

/-- The older of two requests comes before both, where the second one has the higher number. -/
theorem olderSlot_before {y x z : Nat × Nat} (hlt : y.1 < x.1) (h : olderSlot (some y) x = some z) :
    requestBefore z y ∧ requestBefore z x ∧ (z = y ∨ z = x) := by
  unfold olderSlot at h
  simp only at h
  split at h <;> cases h
  · exact ⟨.inl ‹_›, .inr ⟨rfl, Nat.le_refl _⟩, .inr rfl⟩
  · refine ⟨.inr ⟨rfl, Nat.le_refl _⟩, ?_, .inl rfl⟩
    unfold requestBefore
    omega

theorem foldl_olderSlot_some {l : List (Nat × Nat)} (hl : l.Pairwise fun x y => x.1 < y.1) {y : Nat × Nat}
    (hy : ∀ z ∈ l, y.1 < z.1) : ∃ w, l.foldl olderSlot (some y) = some w ∧ (w = y ∨ w ∈ l) ∧
      requestBefore w y ∧ ∀ z ∈ l, requestBefore w z := by
  induction l generalizing y with
  | nil => exact ⟨y, rfl, .inl rfl, .inr ⟨rfl, Nat.le_refl _⟩, nofun⟩
  | cons x l ih =>
    obtain ⟨hx, hl⟩ := List.pairwise_cons.1 hl
    have hyx : y.1 < x.1 := hy x (List.mem_cons_self ..)
    obtain ⟨m, hm⟩ : ∃ m, olderSlot (some y) x = some m := by
      unfold olderSlot
      simp only
      split <;> exact ⟨_, rfl⟩
    obtain ⟨hmy, hmx, hor⟩ := olderSlot_before hyx hm
    have hml : ∀ z ∈ l, m.1 < z.1 := by
      intro z hz
      rcases hor with rfl | rfl
      · exact hy z (List.mem_cons_of_mem _ hz)
      · exact hx z hz
    obtain ⟨w, hw, hmem, hwm, hall⟩ := ih hl hml
    refine ⟨w, by rw [List.foldl_cons, hm, hw], ?_, hwm.trans hmy, ?_⟩
    · rcases hmem with rfl | hmem
      · rcases hor with rfl | rfl
        · exact .inl rfl
        · exact .inr (List.mem_cons_self ..)
      · exact .inr (List.mem_cons_of_mem _ hmem)
    · intro z hz
      rcases List.mem_cons.1 hz with rfl | hz
      · exact hwm.trans hmx
      · exact hall z hz

theorem foldl_olderSlot_none {l : List (Nat × Nat)} (hl : l.Pairwise fun x y => x.1 < y.1) (hne : l ≠ []) :
    ∃ w ∈ l, l.foldl olderSlot none = some w ∧ ∀ z ∈ l, requestBefore w z := by
  cases l with
  | nil => exact absurd rfl hne
  | cons x l =>
    obtain ⟨hx, hl⟩ := List.pairwise_cons.1 hl
    obtain ⟨w, hw, hmem, hwx, hall⟩ := foldl_olderSlot_some hl hx
    refine ⟨w, ?_, hw, fun z hz => ?_⟩
    · exact hmem.elim (fun h => h ▸ List.mem_cons_self ..) (List.mem_cons_of_mem _)
    · rcases List.mem_cons.1 hz with rfl | hz
      · exact hwx
      · exact hall z hz

/-- The requests of the pool with their Ages, in the order of the slots. -/
def State.requests (s : State) : List (Nat × Nat) :=
  (((List.range s.slots.length).zip s.slots).filter (fun x => slotRequests x.2)).map fun x => (x.1, x.2.age)

theorem State.oldestRequest_eq (s : State) : s.oldestRequest = (s.requests.foldl olderSlot none).map fun x => x.1 := rfl

theorem State.mem_requests {s : State} {i n : Nat} :
    (i, n) ∈ s.requests ↔ ∃ x, s.slots[i]? = some x ∧ slotRequests x = true ∧ x.age = n := by
  have hzip (x : Slot) : (i, x) ∈ (List.range s.slots.length).zip s.slots ↔ s.slots[i]? = some x := by
    rw [List.mem_iff_getElem?]
    constructor
    · rintro ⟨n, hn⟩
      obtain ⟨h1, h2⟩ := List.getElem?_zip_eq_some.mp hn
      obtain ⟨_, hi⟩ := List.getElem?_eq_some_iff.mp h1
      rw [List.getElem_range] at hi
      obtain rfl : n = i := hi
      exact h2
    · intro h
      obtain ⟨hlt, -⟩ := List.getElem?_eq_some_iff.mp h
      exact ⟨i, List.getElem?_zip_eq_some.mpr ⟨by simp [hlt], h⟩⟩
  unfold State.requests
  constructor
  · intro h
    obtain ⟨⟨j, x⟩, hx, heq⟩ := List.mem_map.1 h
    obtain ⟨rfl, rfl⟩ := Prod.mk.inj heq
    obtain ⟨hx, hr⟩ := List.mem_filter.1 hx
    exact ⟨x, (hzip x).1 hx, hr, rfl⟩
  · rintro ⟨x, hx, hr, rfl⟩
    exact List.mem_map.2 ⟨(i, x), List.mem_filter.2 ⟨(hzip x).2 hx, hr⟩, rfl⟩

theorem State.requests_pairwise (s : State) : s.requests.Pairwise fun x y => x.1 < y.1 := by
  refine List.pairwise_map.2 (List.Pairwise.filter _ ?_)
  have hfst : ((List.range s.slots.length).zip s.slots).map Prod.fst = List.range s.slots.length :=
    List.map_fst_zip (by simp)
  have hrange : (List.range s.slots.length).Pairwise (· < ·) := List.pairwise_lt_range
  rw [← hfst] at hrange
  exact List.pairwise_map.1 hrange

theorem State.oldestRequest_none {s : State} (h : ∀ x ∈ s.slots, slotRequests x = false) : s.oldestRequest = none := by
  have hempty : s.requests = [] := by
    refine List.eq_nil_iff_forall_not_mem.2 fun ⟨i, n⟩ hm => ?_
    obtain ⟨x, hx, hr, -⟩ := State.mem_requests.1 hm
    rw [h x (List.mem_of_getElem? hx)] at hr
    cases hr
  rw [State.oldestRequest_eq, hempty]
  rfl

theorem State.oldestRequest_some {s : State} {i : Nat} {x : Slot} (hx : s.slots[i]? = some x)
    (hr : slotRequests x = true)
    (hmin : ∀ j y, s.slots[j]? = some y → slotRequests y = true → requestBefore (i, x.age) (j, y.age)) :
    s.oldestRequest = some i := by
  have hmem : (i, x.age) ∈ s.requests := State.mem_requests.2 ⟨x, hx, hr, rfl⟩
  obtain ⟨⟨j, n⟩, hw, hfold, hall⟩ := foldl_olderSlot_none s.requests_pairwise (List.ne_nil_of_mem hmem)
  obtain ⟨y, hy, hry, rfl⟩ := State.mem_requests.1 hw
  have heq : (i, x.age) = (j, y.age) := (hmin j y hy hry).antisymm (hall _ hmem)
  rw [State.oldestRequest_eq, hfold, ← heq]
  rfl

/-! ### What a grant begins -/

section

variable {s : State}

theorem State.beginBurst_slot {i : Nat} {x : Slot} (h : s.oldestRequest = some i) (hx : s.slots[i]? = some x) :
    s.beginBurst =
      { s.modSlot i (fun y => { y with state := if y.state = .full then .draining else y.state }) with
        burst := some (slotBurst i x) } := by
  simp [State.beginBurst, h, hx]

theorem State.beginBurst_finish {e : Entry} (h : s.oldestRequest = none)
    (he : (s.finishing.head?).bind s.entry? = some e) : s.beginBurst =
      { s with
        burst := some ⟨.finish s.link.finishStep, finishAddress e s.ports.anchor.toNat s.link.finishStep,
          bytesWords (finishWords e s.counts.finished s.link.finishStep), false⟩ } := by
  simp [State.beginBurst, h, he]

theorem State.beginBurst_record {b : Bay} (h : s.oldestRequest = none)
    (he : (s.finishing.head?).bind s.entry? = none) (hb : s.link.recordOrder.head? = some b) :
    s.beginBurst = s.beginRecord b := by
  obtain ⟨rest, hrest⟩ := List.head?_eq_some_iff.1 hb
  simp [State.beginBurst, h, he, hrest]

theorem State.beginBurst_fetch {w : BurstWork} (h : s.oldestRequest = none)
    (he : (s.finishing.head?).bind s.entry? = none) (hb : s.link.recordOrder = []) (hw : s.fetchWork = some w) :
    s.beginBurst =
      { s with
        burst := some (s.fetchBurst w)
        link := { s.link with
          attentionHeld := s.link.attentionHeld && w != .reread
          pollDue := s.link.pollDue && w != .poll
          startWrite := s.link.startWrite && w != .startWrite
          faultClear := s.link.faultClear && w != .faultClear } } := by
  simp [State.beginBurst, h, he, hb, hw]

theorem State.beginBurst_idle (h : s.oldestRequest = none) (he : (s.finishing.head?).bind s.entry? = none)
    (hb : s.link.recordOrder = []) (hw : s.fetchWork = none) : s.beginBurst = s := by
  simp [State.beginBurst, h, he, hb, hw]

theorem State.fetchBurst_work (s : State) (w : BurstWork) : (s.fetchBurst w).work = w := by
  unfold State.fetchBurst
  split <;> rfl

end

/-- Settles O44: a slot's request, a finish, a record, the fetcher, each where no one before it asks. -/
theorem grantServesOneRequest : Obligations.GrantServesOneRequest := by
  unfold Obligations.GrantServesOneRequest
  intro s next noSectors
  have htake (h : s.burst = none) : takeGrant s.nextInstant = s.nextInstant.beginBurst :=
    if_pos (by simp [State.nextInstant, h])
  refine ⟨fun h => ?_, fun h => ⟨fun ⟨x, i⟩ hx hr hmin => ?_, fun hno id hid e he => ?_, fun hno hf b hb => ?_,
    fun hno hf hb => ?_⟩⟩
  · refine next_instantEnd (if_neg ?_)
    cases hb : s.burst with
    | none => exact absurd hb h
    | some x => simp [State.nextInstant, hb]
  · have hslot : s.slots[i]? = some x := List.mem_zipIdx_iff_getElem?.1 hx
    refine next_instantEnd ((htake h).trans ((State.beginBurst_slot (s := s.nextInstant) (i := i) (x := x) ?_ hslot).trans ?_))
    · exact State.oldestRequest_some hslot hr fun j y hy hry =>
        hmin (y, j) (List.mem_zipIdx_iff_getElem?.2 hy) hry
    · have hwords : (if slotOut x then slotWords x else []) =
          if x.purpose = some .read ∨ x.purpose = some .settingsOut then
            bytesWords ((x.data.drop (2 * x.wordsMoved)).take 32) else [] := by
        unfold slotOut slotWords
        rcases x.purpose with _ | p <;> [skip; cases p] <;> simp
      unfold slotBurst
      rw [hwords]
      rfl
  · refine ⟨_, next_instantEnd ((htake h).trans (State.beginBurst_finish (e := e) (State.oldestRequest_none hno) ?_)),
      rfl, rfl, rfl, rfl, rfl⟩
    exact (congrArg (·.bind s.entry?) hid).trans he
  · refine ⟨_, next_instantEnd ((htake h).trans (State.beginBurst_record (b := b) (State.oldestRequest_none hno) ?_ hb)),
      ?_, by simp [State.beginRecord], by simp [State.beginRecord, State.nextInstant], rfl, rfl, rfl⟩
    · exact congrArg (fun l => (l.head?).bind s.entry?) hf
    · simp only [State.beginRecord, Option.map_some]
      by_cases hp : s.link.pendingRecord.get b = .raised <;> simp [State.nextInstant, hp]
  · have hnone : (s.finishing.head?).bind s.entry? = none := by rw [hf]; rfl
    cases hw : s.fetchWork with
    | none =>
      exact ⟨_, next_instantEnd ((htake h).trans (State.beginBurst_idle (State.oldestRequest_none hno) hnone hb hw)),
        congrArg (Option.map Burst.work) h, rfl, rfl, rfl, rfl⟩
    | some w =>
      exact ⟨_, next_instantEnd ((htake h).trans
        (State.beginBurst_fetch (State.oldestRequest_none hno) hnone hb hw)),
        congrArg some (State.fetchBurst_work _ w), rfl, rfl, rfl, rfl⟩

/-! ### The words of the bursts (spec/11 sections 11.1 to 11.4) -/

theorem bytesWords_wordBytes (w : Word) (bs : List Byte) : bytesWords (wordBytes w ++ bs) = w :: bytesWords bs := by
  have hw : w.extractLsb' 8 8 ++ w.extractLsb' 0 8 = w := by
    ext i hi
    simp only [BitVec.getElem_append, BitVec.getElem_extractLsb']
    split <;> rw [BitVec.getLsbD_eq_getElem (by omega)] <;> congr 1 <;> omega
  simp only [wordBytes, List.cons_append, List.nil_append, bytesWords, hw]

theorem bytesWords_lowFirst_two (n : Nat) (bs : List Byte) :
    bytesWords (lowFirst 2 n ++ bs) = BitVec.ofNat 16 n :: bytesWords bs := by
  have hn : BitVec.ofNat 8 (n / 256) ++ BitVec.ofNat 8 n = BitVec.ofNat 16 n := by
    apply BitVec.eq_of_toNat_eq
    simp only [BitVec.toNat_append, BitVec.toNat_ofNat]
    rw [← Nat.shiftLeft_add_eq_or_of_lt (by omega), Nat.shiftLeft_eq]
    omega
  simp only [lowFirst_two, List.cons_append, List.nil_append, bytesWords, hn]

theorem bytesWords_lowFirst_one (m n : Nat) (bs : List Byte) : bytesWords (lowFirst 1 m ++ (lowFirst 1 n ++ bs)) =
    (BitVec.ofNat 8 n ++ BitVec.ofNat 8 m) :: bytesWords bs := rfl

theorem bytesWords_lowFirst_four (n : Nat) (bs : List Byte) : bytesWords (lowFirst 4 n ++ bs) =
    BitVec.ofNat 16 n :: BitVec.ofNat 16 (n / 65536) :: bytesWords bs := by
  have hsplit : lowFirst 4 n ++ bs = lowFirst 2 n ++ (lowFirst 2 (n / 65536) ++ bs) := by
    simp [lowFirst, Nat.div_div_eq_div_mul]
  rw [hsplit, bytesWords_lowFirst_two, bytesWords_lowFirst_two]

theorem bytesWords_lowFirst_cursor (c : BitVec 32) (bs : List Byte) : bytesWords (lowFirst 4 c.toNat ++ bs) =
    c.extractLsb' 0 16 :: c.extractLsb' 16 16 :: bytesWords bs := by
  have hlow : BitVec.ofNat 16 c.toNat = c.extractLsb' 0 16 := by
    apply BitVec.eq_of_toNat_eq
    simp
  have hhigh : BitVec.ofNat 16 (c.toNat / 65536) = c.extractLsb' 16 16 := by
    apply BitVec.eq_of_toNat_eq
    simp [Nat.shiftRight_eq_div_pow]
  rw [bytesWords_lowFirst_four, hlow, hhigh]

theorem bytesWords_length (bs : List Byte) : (bytesWords bs).length = bs.length / 2 := by
  induction bs using bytesWords.induct with
  | case1 lo hi rest ih =>
    simp only [bytesWords, List.length_cons, ih]
    omega
  | case2 bs h =>
    match bs, h with
    | [], _ => rfl
    | [x], _ => simp [bytesWords]
    | lo :: hi :: rest, h => exact absurd rfl (h lo hi rest)

/-- R84: the Cylinder field, 0xFFFF where the count is lost. -/
theorem cylinderField_word (p : Positioner) : BitVec.ofNat 16 (cylinderField p) =
    if p.known then BitVec.ofInt 16 p.counter else 0xFFFF#16 := by
  unfold cylinderField
  split
  · apply BitVec.eq_of_toNat_eq
    simp only [BitVec.toNat_ofNat, BitVec.toNat_ofInt]
    omega
  · rfl

/-- spec/11 section 11.3: the flags of a Condition Record, bit by bit. -/
theorem flagsByte_bits (c : BayControl) (m : DefectMap) : BitVec.ofNat 8 (flagsByte c m) =
    0#3 ++ BitVec.ofBool c.ejectFailed ++ BitVec.ofBool m.marginal ++ BitVec.ofBool c.ejectRequested ++
      BitVec.ofBool c.writeProtect.accepted ++ BitVec.ofBool c.prevent := by
  unfold flagsByte statusBit
  cases c.ejectFailed <;> cases m.marginal <;> cases c.ejectRequested <;> cases c.writeProtect.accepted <;>
    cases c.prevent <;> rfl

theorem recordImage_words (s : State) (b : Bay) (n : Word) :
    let c := s.bay b
    let q := s.spindle b
    let p := s.positioner b
    let m := s.map b
    bytesWords (s.recordImage b n) =
      [n, BitVec.ofNat 8 (phaseCode q.phase) ++ BitVec.ofNat 8 (bayStateCode c.state),
        BitVec.ofNat 16 q.speed, BitVec.ofNat 16 (q.speed / 65536),
        if p.known then BitVec.ofInt 16 p.counter else 0xFFFF#16,
        BitVec.ofNat 8 c.generation ++ BitVec.ofNat 8 (actuatorCode p.state),
        (0#3 ++ BitVec.ofBool c.ejectFailed ++ BitVec.ofBool m.marginal ++
          BitVec.ofBool c.ejectRequested ++ BitVec.ofBool c.writeProtect.accepted ++
          BitVec.ofBool c.prevent) ++ BitVec.ofNat 8 (mountCode m.status),
        BitVec.ofNat 8 m.softErrors ++ BitVec.ofNat 8 (faultClassCode c.faultClass)] := by
  intro c q p m
  have htail : lowFirst 1 (faultClassCode c.faultClass) ++ lowFirst 1 m.softErrors =
      lowFirst 1 (faultClassCode c.faultClass) ++ (lowFirst 1 m.softErrors ++ []) := by rw [List.append_nil]
  unfold State.recordImage
  simp only [List.append_assoc, bytesWords_lowFirst_two, bytesWords_lowFirst_four, bytesWords_lowFirst_one]
  rw [htail, bytesWords_lowFirst_one, cylinderField_word, flagsByte_bits, BitVec.ofNat_toNat, BitVec.setWidth_eq]
  rfl

/-! ### Where a burst goes -/

/-- What a grant can begin. -/
theorem State.beginBurst_burst {s : State} (h : s.burst = none) {x : Burst} (hx : s.beginBurst.burst = some x) :
    (∃ i y, x = slotBurst i y) ∨
      (∃ e, (s.finishing.head?).bind s.entry? = some e ∧
        x = ⟨.finish s.link.finishStep, finishAddress e s.ports.anchor.toNat s.link.finishStep,
          bytesWords (finishWords e s.counts.finished s.link.finishStep), false⟩) ∨
      (∃ b n raised, x = ⟨.record b n raised, s.ports.anchor.toNat + recordOffset b,
        bytesWords (s.recordImage b n), false⟩) ∨
      ∃ w, s.fetchWork = some w ∧ x = s.fetchBurst w := by
  cases ho : s.oldestRequest with
  | some i =>
    cases hi : s.slots[i]? with
    | none =>
      have hsame : s.beginBurst = s := by simp [State.beginBurst, ho, hi]
      rw [hsame, h] at hx
      cases hx
    | some y =>
      rw [State.beginBurst_slot ho hi] at hx
      cases hx
      exact .inl ⟨i, y, rfl⟩
  | none =>
    cases hf : (s.finishing.head?).bind s.entry? with
    | some e =>
      rw [State.beginBurst_finish ho hf] at hx
      cases hx
      exact .inr (.inl ⟨e, rfl, rfl⟩)
    | none =>
      cases hb : s.link.recordOrder with
      | cons b rest =>
        rw [State.beginBurst_record ho hf (by rw [hb]; rfl)] at hx
        cases hx
        exact .inr (.inr (.inl ⟨b, _, _, rfl⟩))
      | nil =>
        cases hw : s.fetchWork with
        | some w =>
          rw [State.beginBurst_fetch ho hf hb hw] at hx
          cases hx
          exact .inr (.inr (.inr ⟨w, rfl, rfl⟩))
        | none =>
          rw [State.beginBurst_idle ho hf hb hw, h] at hx
          cases hx

/-- The fetcher's accesses are its own kinds of work. -/
theorem State.fetchWork_kind {s : State} {w : BurstWork} (h : s.fetchWork = some w) :
    (∀ i, w ≠ .slot i) ∧ (∀ n, w ≠ .finish n) ∧ ∀ b n r, w ≠ .record b n r := by
  unfold State.fetchWork at h
  repeat' split at h
  all_goals cases h
  all_goals exact ⟨nofun, nofun, nofun⟩

/-- R158 to R162, R179: the addresses and the words of the fetcher's accesses. -/
theorem State.fetchBurst_spec (s : State) (w : BurstWork) :
    let x := s.fetchBurst w
    let anchor := s.ports.anchor.toNat
    x.words.length ≤ 16 ∧
    (w = .startWrite → x.address = anchor + 16 ∧ x.words =
      [s.counts.taken, s.counts.finished, s.counts.cursor.extractLsb' 0 16,
        s.counts.cursor.extractLsb' 16 16, BitVec.ofNat 16 (linkFaultCode s.counts.fault)]) ∧
    (w = .writeCursor → x.address = anchor + 20 ∧ x.words =
      [s.counts.cursor.extractLsb' 0 16, s.counts.cursor.extractLsb' 16 16]) ∧
    (w = .writeTaken → x.address = anchor + 16 ∧ x.words = [s.counts.taken]) ∧
    (w = .faultClear → x.address = anchor + 24 ∧ x.words = [0#16]) ∧
    (∀ f, w = .writeFault f →
      x.address = anchor + 24 ∧ x.words = [BitVec.ofNat 16 (linkFaultCode f)]) ∧
    (∀ a y, w = .stamp a y → x.address = a + 24 ∧ x.words = [1#16]) ∧
    (w = .reread ∨ w = .poll → x.address = anchor + 4 ∧ x.words = []) ∧
    (∀ a, w = .readBlock a → x.address = a ∧ x.words = []) ∧
    (w = .readLink → x.words = [] ∧
      x.address = if s.counts.cursor = 0 then anchor else s.counts.cursor.toNat) := by
  intro x anchor
  have htwo (n : Nat) : bytesWords (lowFirst 2 n) = [BitVec.ofNat 16 n] := by
    simpa [bytesWords] using bytesWords_lowFirst_two n []
  have hcursor : bytesWords (lowFirst 4 s.counts.cursor.toNat) =
      [s.counts.cursor.extractLsb' 0 16, s.counts.cursor.extractLsb' 16 16] := by
    simpa [bytesWords] using bytesWords_lowFirst_cursor s.counts.cursor []
  have htaken : bytesWords (wordBytes s.counts.taken) = [s.counts.taken] := by
    simpa [bytesWords] using bytesWords_wordBytes s.counts.taken []
  refine ⟨?_, fun h => ?_, fun h => ?_, fun h => ?_, fun h => ?_, fun f h => ?_, fun a y h => ?_, fun h => ?_,
    fun a h => ?_, fun h => ?_⟩
  · have hlen : x.words.length ≤ 8 := by
      show (s.fetchBurst w).words.length ≤ 8
      unfold State.fetchBurst
      split <;> simp [bytesWords_length, lowFirst, wordBytes]
    omega
  · subst h
    refine ⟨rfl, ?_⟩
    show bytesWords _ = _
    rw [List.append_assoc, List.append_assoc, bytesWords_wordBytes, bytesWords_wordBytes, bytesWords_lowFirst_cursor,
      htwo]
  · subst h
    exact ⟨rfl, hcursor⟩
  · subst h
    exact ⟨rfl, htaken⟩
  · subst h
    exact ⟨rfl, rfl⟩
  · subst h
    exact ⟨rfl, htwo _⟩
  · subst h
    exact ⟨rfl, rfl⟩
  · rcases h with rfl | rfl <;> exact ⟨rfl, rfl⟩
  · subst h
    exact ⟨rfl, rfl⟩
  · subst h
    exact ⟨rfl, rfl⟩

/-- R163: the words of the three writes of a finish. -/
theorem finishWords_words (e : Entry) (n : Word) :
    bytesWords (finishWords e n 0) = [BitVec.ofNat 16 e.sectorsDone, BitVec.ofNat 16 e.detail,
      BitVec.ofNat 8 (n + 1).toNat ++ BitVec.ofNat 8 e.retriesUsed] ∧
    bytesWords (finishWords e n 1) = [BitVec.ofNat 8 (resultCode (e.ending.getD .complete)) ++ 2#8] ∧
    bytesWords (finishWords e n 2) = [n + 1] := by
  refine ⟨?_, rfl, ?_⟩
  · simp only [finishWords, List.append_assoc, bytesWords_lowFirst_two]
    rfl
  · have hword := bytesWords_wordBytes (n + 1) []
    rw [List.append_nil] at hword
    exact hword

theorem finishWords_length (e : Entry) (n : Word) (step : Nat) :
    (bytesWords (finishWords e n step)).length ≤ 16 := by
  rw [bytesWords_length]
  match step with
  | 0 => simp [finishWords, lowFirst]
  | 1 => simp [finishWords, lowFirst]
  | _ + 2 => simp [finishWords, wordBytes]

/-- Settles O45: by what the grant begins. -/
theorem burstsGoWhereTheRulesName : Obligations.BurstsGoWhereTheRulesName := by
  unfold Obligations.BurstsGoWhereTheRulesName
  intro s h
  refine ⟨s.nextInstant.beginBurst, next_instantEnd (if_pos (by simp [State.nextInstant, h])), fun x hx => ?_⟩
  rcases State.beginBurst_burst (s := s.nextInstant) h hx with ⟨i, y, rfl⟩ | ⟨e, he, rfl⟩ | ⟨b, n, raised, rfl⟩ |
    ⟨w, hw, rfl⟩
  · refine ⟨?_, nofun, nofun, nofun, nofun, nofun, nofun, by simp [slotBurst], nofun, nofun, nofun,
      fun _ _ _ _ => ⟨nofun, nofun, nofun⟩⟩
    unfold slotBurst
    dsimp only
    split
    · unfold slotWords
      rw [bytesWords_length, List.length_take]
      omega
    · simp
  · refine ⟨finishWords_length .., nofun, nofun, nofun, nofun, nofun, nofun, by simp, nofun, nofun, nofun,
      fun id hid f hf => ?_⟩
    obtain rfl : e = f := by
      have : some f = some e := by
        rw [← he, ← hf]
        exact (congrArg (·.bind s.entry?) hid).symm
      exact (Option.some.inj this).symm
    obtain ⟨h0, h1, h2⟩ := finishWords_words e s.counts.finished
    refine ⟨fun hs => ?_, fun hs => ?_, fun hs => ?_⟩ <;> injection hs with hs <;> rw [hs]
    · exact ⟨rfl, h0⟩
    · exact ⟨rfl, h1⟩
    · exact ⟨rfl, h2⟩
  · refine ⟨?_, nofun, nofun, nofun, nofun, nofun, nofun, by simp, nofun, nofun, fun c m r hc => ?_,
      fun _ _ _ _ => ⟨nofun, nofun, nofun⟩⟩
    · have himage := recordImage_words s.nextInstant b n
      exact Nat.le_trans (Nat.le_of_eq (congrArg List.length himage)) (by simp)
    · injection hc with hb hn hr
      subst hb hn hr
      refine ⟨?_, recordImage_words s.nextInstant b n⟩
      cases b <;> rfl
  · obtain ⟨hslot, hfinish, hrecord⟩ := State.fetchWork_kind hw
    obtain ⟨hlen, h1, h2, h3, h4, h5, h6, h7, h8, h9⟩ := s.nextInstant.fetchBurst_spec w
    rw [State.fetchBurst_work]
    exact ⟨hlen, h1, h2, h3, h4, h5, h6, h7, h8, h9, fun b n r hr => absurd hr (hrecord b n r),
      fun _ _ _ _ => ⟨fun hf => absurd hf (hfinish _), fun hf => absurd hf (hfinish _),
        fun hf => absurd hf (hfinish _)⟩⟩

end Sys2Proof.Machine

/-!
PROOFS. The end of a burst: each access of the Link Port (R159 to R164, log 18, log 49, log 61), and the words a slot
moves (R122, R124, R128, R129, log 59).
-/

namespace Sys2Proof.Machine

/-! ### Accesses of the Link Port -/

/-- R130: the state in which the work of a burst that ends is taken. -/
def State.burstEnded (s : State) (x : Burst) : State :=
  { s with
    instant := s.instant + 1, burst := none
    hostMem := s.hostMem.writeBytes x.address (wordsBytes x.words) }

theorem takeBurstEnd_eq {s : State} {x : Burst} (words : Vector Word 16) (h : s.burst = some x) :
    takeBurstEnd words s.nextInstant = (s.burstEnded x).endBurst x.work x.drop words.toList := by
  unfold takeBurstEnd
  rw [show s.nextInstant.burst = some x from h]
  rfl

theorem linkRead_stopped (a : Nat) : linkRead false a = .idle := rfl

theorem linkRead_chain {a : Nat} (h : a = 0) : linkRead true a = .writeFault .brokenChain := by
  simp [linkRead, h]

theorem linkRead_bad {a : Nat} (h0 : a ≠ 0) (h : 2 ^ 24 ≤ a ∨ a % 16 ≠ 0) :
    linkRead true a = .writeFault .misaligned := by
  have hsize : Config.hostSize ≤ a ∨ a % 16 ≠ 0 := h
  simp only [linkRead, Bool.not_true, Bool.false_eq_true, if_false, if_neg h0, if_pos hsize]

theorem linkRead_block {a : Nat} (h0 : a ≠ 0) (h1 : a < 2 ^ 24) (h2 : a % 16 = 0) :
    linkRead true a = .readBlock a := by
  have hsize : ¬(Config.hostSize ≤ a ∨ a % 16 ≠ 0) := by
    unfold Config.hostSize
    omega
  simp only [linkRead, Bool.not_true, Bool.false_eq_true, if_false, if_neg h0, if_neg hsize]

section

variable {s : State} (ws : List Word)

theorem State.endBurst_readLink (drop : Bool) : s.endBurst .readLink drop ws =
    if s.link.fetch = .readLink then
      { s with link := { s.link with
        fetch := linkRead (s.link.state == .running)
          ((ws.getD 0 0#16).toNat + 65536 * (ws.getD 1 0#16).toNat) } }
    else s := by
  by_cases h : s.link.fetch = .readLink
  · rw [if_pos h]
    exact congrArg (fun l => { s with link := l }) (if_pos h)
  · rw [if_neg h]
    exact congrArg (fun l => { s with link := l }) (if_neg h)

theorem State.endReread_online (h : s.link.state ≠ .offline) : s.endReread ws =
    { s with
      hostFields := hostFieldsRead ws
      link := { s.link with
        pollTimer :=
          if (hostFieldsRead ws).pollInterval = s.hostFields.pollInterval then s.link.pollTimer
          else s.link.pollTimer.map fun _ => 0 } } := by
  unfold State.endReread
  rw [if_neg h]
  by_cases hp : (hostFieldsRead ws).pollInterval = s.hostFields.pollInterval <;> simp [hp]

theorem State.endPoll_online (h : s.link.state ≠ .offline) : s.endPoll ws =
    { s with hostFields := { s.hostFields with posted := ws.getD 0 0#16 } } := if_neg h

theorem State.endFinish_last {id : Nat} (h : s.finishing.head? = some id) : s.endFinish 2 =
    { s with
      counts := { s.counts with finished := s.counts.finished + 1 }
      finishing := s.finishing.tail
      entries := s.entries.filter fun e => e.id != id
      link := { s.link with finishStep := 0 } } := by
  obtain ⟨rest, hrest⟩ := List.head?_eq_some_iff.1 h
  simp [State.endFinish, hrest]

end

/-- A word of a burst that reads, as its work takes it. -/
theorem words_getD (words : Vector Word 16) (i : Nat) (h : i < 16) : words.toList.getD i 0#16 = words[i] := by
  rw [List.getD_eq_getElem?_getD, Vector.getElem?_toList, Vector.getElem?_eq_getElem h]
  rfl

theorem hostFieldsRead_words (words : Vector Word 16) : hostFieldsRead words.toList =
    { posted := words[0], interruptEnable := words[1].getLsbD 0, finishedSeen := words[2]
      conditionSeen := ⟨words[3], words[4]⟩, pollInterval := words[5] } := by
  unfold hostFieldsRead
  rw [words_getD words 0 (by decide), words_getD words 1 (by decide), words_getD words 2 (by decide),
    words_getD words 3 (by decide), words_getD words 4 (by decide), words_getD words 5 (by decide)]

/-- Settles O47: by the work of the burst. -/
theorem linkBurstsEnd : Obligations.LinkBurstsEnd := by
  unfold Obligations.LinkBurstsEnd
  intro s words x hx ended fetched ends link
  have hends {w : BurstWork} {t : State} (hw : x.work = w)
      (h : (s.burstEnded x).endBurst w x.drop words.toList = t) : ends t :=
    next_instantEnd ((takeBurstEnd_eq words hx).trans (by rw [hw, h]))
  have hlink : (words.toList.getD 0 0#16).toNat + 65536 * (words.toList.getD 1 0#16).toNat = link := by
    rw [words_getD words 0 (by decide), words_getD words 1 (by decide)]
  have hread (hf : s.link.fetch = .readLink) (f : Fetch) (h : linkRead (s.link.state == .running) link = f) :
      (s.burstEnded x).endBurst .readLink x.drop words.toList = fetched f := by
    rw [State.endBurst_readLink, hlink]
    refine (if_pos hf).trans ?_
    exact congrArg fetched h
  refine ⟨fun h => h.elim (fun h => hends h rfl) fun h => hends h rfl, fun h hf => hends h ?_,
    fun h hf hs => ⟨fun h0 => hends h (hread hf _ ?_), fun h0 h1 => hends h (hread hf _ ?_),
      fun h0 h1 h2 => hends h (hread hf _ ?_)⟩, fun h hf hs => hends h (hread hf _ ?_), fun a h => hends h rfl,
    fun a y h => hends h rfl, fun h => hends h rfl, fun h => hends h rfl, fun f h => hends h rfl,
    fun h hs => hends h ?_, fun h hs => hends h ?_, fun b n raised h => hends h rfl, fun h => hends h rfl,
    fun h => hends h rfl, fun h id hid => hends h ?_⟩
  · rw [State.endBurst_readLink]
    exact if_neg hf
  · rw [hs]
    exact linkRead_chain h0
  · rw [hs]
    exact linkRead_bad h0 h1
  · rw [hs]
    exact linkRead_block h0 h1 h2
  · rw [show (s.link.state == .running) = false from beq_false_of_ne hs]
    rfl
  · refine (State.endReread_online words.toList (s := s.burstEnded x) hs).trans ?_
    rw [hostFieldsRead_words]
    rfl
  · refine (State.endPoll_online words.toList (s := s.burstEnded x) hs).trans ?_
    rw [words_getD words 0 (by decide)]
    rfl
  · exact State.endFinish_last (s := s.burstEnded x) hid

/-! ### Words of a slot -/

/-- A change of one place is what it makes of the value that stands there. -/
theorem modify_congr {α : Type} {l : List α} {i : Nat} {x : α} {f g : α → α} (h : l[i]? = some x) (hf : f x = g x) :
    l.modify i f = l.modify i g := by
  refine List.ext_getElem? fun j => ?_
  rw [List.getElem?_modify, List.getElem?_modify]
  by_cases hj : i = j
  · subst hj
    simp [h, hf]
  · simp [hj]

theorem State.entry?_modEntry {s : State} {id : Nat} {e : Entry} {f : Entry → Entry} (hid : ∀ e, (f e).id = e.id)
    (h : s.entry? id = some e) : (s.modEntry id f).entry? id = some (f e) := by
  have heq : e.id = id := by
    have := List.find?_some h
    simpa using this
  have hcomp : ((fun y : Entry => y.id == id) ∘ fun e => if e.id = id then f e else e) = fun y => y.id == id := by
    funext y
    simp only [Function.comp]
    split <;> simp [hid]
  unfold State.entry? State.modEntry at *
  rw [List.find?_map, hcomp, h]
  simp [heq]

theorem decided_complete {e : Entry} {r : Result} {n : Nat} (ha : e.state = .active) (hn : e.ending = none)
    (hr : turnsAborted e.kind r = true) : ((decided r n e).ending, (decided r n e).detail) =
      if e.aborted then (some .aborted, 0) else (some r, n) := by
  unfold decided
  rw [if_pos ⟨ha, hn⟩, hr]
  cases e.aborted <;> rfl

/-- R122, R124: a slot once the words of a burst have moved. -/
def wordsMovedOn (ws : List Word) (y : Slot) : Slot :=
  { (if slotOut y then y else wordsPlaced ws y) with wordsMoved := y.wordsMoved + 16 }

theorem wordsMovedOn_eq (ws : List Word) (y : Slot) : wordsMovedOn ws y =
    { y with
      data := if y.purpose = some .read ∨ y.purpose = some .settingsOut then y.data
        else y.data.take (2 * y.wordsMoved) ++ wordsBytes ws ++ y.data.drop (2 * y.wordsMoved + 32)
      wordsMoved := y.wordsMoved + 16 } := by
  have hout : slotOut y = true ↔ y.purpose = some .read ∨ y.purpose = some .settingsOut := by
    unfold slotOut
    rcases y.purpose with _ | p <;> [skip; cases p] <;> simp
  unfold wordsMovedOn
  by_cases h : slotOut y = true
  · rw [if_pos h, if_pos (hout.1 h)]
  · rw [if_neg h, if_neg (mt hout.2 h)]
    rfl

theorem wordsToMove_eq (y : Slot) : wordsToMove y =
    if y.purpose = some .settingsIn ∨ y.purpose = some .settingsOut then 32 else 256 := by
  unfold wordsToMove
  rcases y.purpose with _ | p <;> [skip; cases p] <;> simp

section

variable {s : State} {i : Nat} {y : Slot} {ws : List Word}

theorem State.endSlotBurst_dropped (h : s.slots[i]? = some y) : s.endSlotBurst i true ws = s.freeSlot i := by
  simp [State.endSlotBurst, h]

theorem State.endSlotBurst_moved (h : s.slots[i]? = some y) : s.endSlotBurst i false ws =
    if y.wordsMoved + 16 < wordsToMove y then s.modSlot i fun _ => wordsMovedOn ws y
    else (s.modSlot i fun _ => wordsMovedOn ws y).slotMoved i (wordsMovedOn ws y) := by
  have hmove : wordsToMove (wordsMovedOn ws y) = wordsToMove y := by
    rw [wordsToMove_eq, wordsToMove_eq, wordsMovedOn_eq]
  have hmoved : (if slotOut y then y else wordsPlaced ws y).wordsMoved = y.wordsMoved := by
    split <;> rfl
  rw [← hmove]
  simp only [State.endSlotBurst, h, Bool.false_eq_true, if_false, hmoved]
  rfl

/-- R122, R124, R128: the last word of a transfer, by its purpose. -/
theorem State.slotMoved_read {id : Nat} (hp : y.purpose = some .read) (ho : y.owner = some (.task id)) :
    s.slotMoved i y = (s.freeSlot i).modEntry id fun e => { e with sectorsDone := e.sectorsDone + 1 } := by
  simp [State.slotMoved, hp, ho]

theorem State.slotMoved_write (hp : y.purpose = some .write) :
    s.slotMoved i y = s.modSlot i fun y => { y with state := .full } := by
  simp [State.slotMoved, hp]

theorem State.slotMoved_settingsOut {id : Nat} (hp : y.purpose = some .settingsOut) (ho : y.owner = some (.task id)) :
    s.slotMoved i y = (s.freeSlot i).modEntry id (decided .complete 0) := by
  simp [State.slotMoved, hp, ho]

theorem State.slotMoved_settingsIn {id : Nat} (hp : y.purpose = some .settingsIn) (ho : y.owner = some (.task id)) :
    s.slotMoved i y = (s.freeSlot i).takeSettingsRecord id (y.data.take 64) := by
  simp [State.slotMoved, hp, ho]

/-- R169: the settings taken, and the end of the task with its adjustments. -/
theorem State.takeSettingsRecord_spec (s : State) (id : Nat) (data : List Byte) :
    (s.takeSettingsRecord id data).settings = (takeSettings s.settings data).1 ∧
      (s.takeSettingsRecord id data).counts = s.counts ∧ (s.takeSettingsRecord id data).hostMem = s.hostMem ∧
      (s.takeSettingsRecord id data).entries = (s.modEntry id (decided
        (if 0 < (takeSettings s.settings data).2 then .adjusted else .complete)
        (takeSettings s.settings data).2)).entries := by
  unfold State.takeSettingsRecord
  extract_lets taken stored timed
  have htimed : timed.settings = taken.1 ∧ timed.counts = s.counts ∧ timed.hostMem = s.hostMem ∧
      timed.entries = s.entries := by
    unfold timed
    split <;> simp [State.restartIdle, stored]
  obtain ⟨h1, h2, h3, h4⟩ := htimed
  refine ⟨h1, h2, h3, ?_⟩
  simp only [State.modEntry, h4]
  rfl

/-- What the last word of a transfer leaves. -/
theorem State.slotMoved_kept (s : State) (i : Nat) (y : Slot) :
    (s.slotMoved i y).burst = s.burst ∧ (s.slotMoved i y).hostMem = s.hostMem ∧
      (s.slotMoved i y).spindles = s.spindles ∧ (s.slotMoved i y).positioners = s.positioners ∧
      (s.slotMoved i y).maps = s.maps ∧ (s.slotMoved i y).channel = s.channel ∧
      (s.slotMoved i y).counts = s.counts := by
  unfold State.slotMoved
  split
  · exact ⟨rfl, rfl, rfl, rfl, rfl, rfl, rfl⟩
  · exact ⟨rfl, rfl, rfl, rfl, rfl, rfl, rfl⟩
  next id _ _ =>
    obtain ⟨-, hcounts, hmem, -⟩ := (s.freeSlot i).takeSettingsRecord_spec id (y.data.take 64)
    exact ⟨by simp [State.freeSlot, State.modSlot], hmem, by simp [State.freeSlot, State.modSlot],
      by simp [State.freeSlot, State.modSlot], by simp [State.freeSlot, State.modSlot],
      by simp [State.freeSlot, State.modSlot], hcounts⟩
  · exact ⟨rfl, rfl, rfl, rfl, rfl, rfl, rfl⟩

theorem State.endSlotBurst_kept (s : State) (i : Nat) (drop : Bool) (ws : List Word) :
    (s.endSlotBurst i drop ws).burst = s.burst ∧ (s.endSlotBurst i drop ws).hostMem = s.hostMem ∧
      (s.endSlotBurst i drop ws).spindles = s.spindles ∧ (s.endSlotBurst i drop ws).positioners = s.positioners ∧
      (s.endSlotBurst i drop ws).maps = s.maps ∧ (s.endSlotBurst i drop ws).channel = s.channel ∧
      (s.endSlotBurst i drop ws).counts = s.counts := by
  unfold State.endSlotBurst
  dsimp only
  repeat' split
  · exact ⟨rfl, rfl, rfl, rfl, rfl, rfl, rfl⟩
  · exact ⟨rfl, rfl, rfl, rfl, rfl, rfl, rfl⟩
  · exact ⟨rfl, rfl, rfl, rfl, rfl, rfl, rfl⟩
  · exact State.slotMoved_kept _ i _
  · exact ⟨rfl, rfl, rfl, rfl, rfl, rfl, rfl⟩
  · exact State.slotMoved_kept _ i _

end

/-- Settles O46: a dropped slot is freed, a transfer that goes on is counted, and the last word is delivered by its
purpose. -/
theorem slotBurstsMoveTheSector : Obligations.SlotBurstsMoveTheSector := by
  unfold Obligations.SlotBurstsMoveTheSector
  intro s words x hx i hw y hy id ho e he
  let u := s.burstEnded x
  let t := u.endSlotBurst i x.drop words.toList
  refine ⟨t, next_instantEnd ((takeBurstEnd_eq words hx).trans (by rw [hw]; rfl)), ?_⟩
  intro total toHost data
  have hyu : u.slots[i]? = some y := hy
  have heu : u.entry? id = some e := he
  let z : Slot := { y with data := data, wordsMoved := y.wordsMoved + 16 }
  have hon : wordsMovedOn words.toList y = z := wordsMovedOn_eq _ y
  have htotal : wordsToMove y = total := wordsToMove_eq y
  obtain ⟨hburst, hmem, hspindles, hpositioners, hmaps, hchannel, hcounts⟩ :=
    u.endSlotBurst_kept i x.drop words.toList
  refine ⟨hburst, hmem, fun hd => ?_, fun hd => ⟨fun hlt => ?_, fun hle => ?_⟩, hspindles, hpositioners, hmaps,
    hchannel, hcounts⟩
  · have ht : t = u.freeSlot i := by
      simp only [t, hd]
      exact State.endSlotBurst_dropped hyu
    rw [ht]
    exact ⟨rfl, rfl, rfl⟩
  · have ht : t = u.modSlot i fun _ => wordsMovedOn words.toList y := by
      simp only [t, hd]
      exact (State.endSlotBurst_moved hyu).trans (if_pos (by rw [htotal]; exact hlt))
    rw [ht]
    refine ⟨rfl, rfl, modify_congr hy ?_⟩
    rw [hon]
  · have ht : t = (u.modSlot i fun _ => wordsMovedOn words.toList y).slotMoved i (wordsMovedOn words.toList y) := by
      simp only [t, hd]
      exact (State.endSlotBurst_moved hyu).trans (if_neg (by rw [htotal]; exact Nat.not_lt.2 hle))
    rw [hon] at ht
    have hstored : (u.modSlot i fun _ => z).entry? id =
        some e := heu
    have hfree : ((u.modSlot i fun _ => z).freeSlot i).slots =
        s.slots.modify i fun _ => Slot.freed data := by
      simp only [State.freeSlot, State.modSlot, List.modify_modify_eq]
      rfl
    refine ⟨fun hp => ?_, fun hp => ?_, fun hp => ?_, fun hp ha hn => ?_, fun hp ha hn => ?_⟩
    · rw [ht]
      rcases hp with hp | hp | hp
      · rw [State.slotMoved_read (y := z) hp ho]
        exact hfree
      · rw [State.slotMoved_settingsOut (y := z) hp ho]
        exact hfree
      · rw [State.slotMoved_settingsIn (y := z) hp ho, (State.takeSettingsRecord_frame ..).2.2.2.2.2.1]
        exact hfree
    · rw [ht, State.slotMoved_read (y := z) hp ho,
        State.entry?_modEntry (by exact fun _ => rfl) (by exact hstored)]
      exact ⟨rfl, rfl⟩
    · rw [ht, State.slotMoved_write (y := z) hp]
      refine ⟨?_, rfl, rfl⟩
      simp only [State.modSlot, List.modify_modify_eq]
      exact modify_congr hy rfl
    · rw [ht, State.slotMoved_settingsOut (y := z) hp ho,
        State.entry?_modEntry (fun f => (decided_step ..).id) (by exact hstored)]
      refine ⟨rfl, ?_⟩
      rw [Option.map_some, decided_complete ha hn rfl]
      split <;> rfl
    · intro taken
      rw [ht, State.slotMoved_settingsIn (y := z) hp ho]
      obtain ⟨hsettings, -, -, hentries⟩ := State.takeSettingsRecord_spec
        ((u.modSlot i fun _ => z).freeSlot i) id (data.take 64)
      refine ⟨hsettings, ?_⟩
      have hfind := State.entry?_modEntry (f := decided (if 0 < taken.2 then .adjusted else .complete) taken.2)
        (fun f => (decided_step ..).id) hstored
      rw [State.entry?, hentries]
      refine (congrArg (Option.map fun f => (f.ending, f.detail)) hfind).trans ?_
      rw [Option.map_some, decided_complete ha hn (by split <;> rfl)]
      by_cases hab : e.aborted = true
      · simp [hab]
      · by_cases h0 : 0 < taken.2
        · simp [hab, h0]
        · simp [hab, Nat.eq_zero_of_not_pos h0]

end Sys2Proof.Machine

/-!
PROOFS. What every step keeps but for its own events (the waiting commands, the counts of the clock, host memory, the
settings, the generations), and what every step's end shows: the lines and the timers that run by condition.
-/

namespace Sys2Proof.Machine

/-! ### What only its own events change -/

/-- The registers that no wait and no event of the drive changes. -/
structure Fixed where
  pending : List Instr
  cycle : Nat
  instant : Nat
  slots : Nat
  nextId : Nat
  hostMem : Memory
  settings : Settings
  idle : Bool
  generations : PerBay Nat

def State.fixed (s : State) : Fixed where
  pending := s.pending
  cycle := s.cycle
  instant := s.instant
  slots := s.slots.length
  nextId := s.nextId
  hostMem := s.hostMem
  settings := s.settings
  idle := s.burst.isNone
  generations := PerBay.map BayControl.generation s.bays

/-- A property of these registers, with no free value taken back. -/
def State.holds (Q : Fixed → Prop) (n : Nat) (s : State) : Prop := Q s.fixed ∧ n ≤ s.freeCount

section

variable {Q : Fixed → Prop} {n : Nat} {s t : State} {b : Bay}

theorem State.holds.same (h : s.holds Q n) (hf : t.fixed = s.fixed) (hn : s.freeCount ≤ t.freeCount) : t.holds Q n :=
  ⟨hf ▸ h.1, h.2.trans hn⟩

theorem State.fixed_bays {f : BayControl → BayControl} (hg : (f (s.bay b)).generation = (s.bay b).generation) :
    ({ s with bays := s.bays.update b f } : State).fixed = s.fixed := by
  simp [State.fixed, PerBay.map_update b BayControl.generation s.bays f hg]

theorem holds_slotsFree : SlotsFree (State.holds Q n) where
  slots h hl := h.same (by simp [State.fixed, hl]) (Nat.le_refl _)
  channel h _ := h.same rfl (Nat.le_refl _)
  marked h := h.same (by simp [State.fixed]) (Nat.le_refl _)

theorem holds_keptBase : KeptBase (State.holds Q n) where
  bay h step := h.same (State.fixed_bays step.generation) (Nat.le_refl _)
  spindle h _ := h.same rfl (Nat.le_refl _)
  positioner h _ _ := h.same rfl (Nat.le_refl _)
  map h _ _ := h.same rfl (Nat.le_refl _)
  channel h _ := h.same rfl (Nat.le_refl _)
  entries h _ := h.same rfl (Nat.le_refl _)
  link h _ := h.same rfl (Nat.le_refl _)
  waiters h := h.same rfl (Nat.le_refl _)
  medium h := h.same rfl (Nat.le_refl _)
  dma h := h.same rfl (Nat.le_refl _)
  loseChannel h := holds_slotsFree.loseChannel (fun h => h.same rfl (Nat.le_refl _)) h
  freeMountSlots h _ := holds_slotsFree.dropSlots h
  letGo h := holds_slotsFree.dropSlots h
  takeSlot h _ _ := holds_slotsFree.modSlot h
  slots h hl := h.same (by simpa [State.fixed] using congrArg List.length hl) (Nat.le_refl _)

/-- A change of a spindle's record touches none of these registers. -/
theorem State.holds.modSpindle {f : Spindle → Spindle} (h : s.holds Q n) : (s.modSpindle b f).holds Q n :=
  holds_keptBase.report (s := { s with spindles := s.spindles.update b f }) (h.same rfl (Nat.le_refl _))

theorem State.holds.grantPermit (h : s.holds Q n) : (s.grantPermit b).holds Q n :=
  State.holds.modSpindle (s := { s with permitHolder := some b }) (h.same rfl (Nat.le_refl _))

theorem State.holds.requestPermit (h : s.holds Q n) : (s.requestPermit b).holds Q n := by
  unfold State.requestPermit
  extract_lets asking
  split
  · exact h.modSpindle.grantPermit
  · exact h.modSpindle.same rfl (Nat.le_refl _)

theorem State.holds.releasePermit (h : s.holds Q n) : (s.releasePermit b).holds Q n := by
  unfold State.releasePermit
  repeat' split
  · exact State.holds.grantPermit (s := { s with permitHolder := none, permitWaiting := none })
      (h.same rfl (Nat.le_refl _))
  · exact h.same rfl (Nat.le_refl _)
  · exact h

theorem State.holds.leavePending (h : s.holds Q n) : (s.leavePending b).holds Q n := by
  unfold State.leavePending
  refine State.holds.modSpindle ?_
  split
  · exact h.same rfl (Nat.le_refl _)
  · exact h

theorem State.holds.raiseBoth (h : s.holds Q n) : s.raiseBoth.holds Q n :=
  h.same rfl (Nat.le_succ _)

theorem holds_kept : Kept (State.holds Q n) where
  toKeptBase := holds_keptBase
  requestPermit h _ := h.requestPermit
  leavePending h _ := h.leavePending
  enterStopping h _ :=
    have k := holds_keptBase
    k.dropLoad (k.emergencyRetract (k.loseChannel h.modSpindle.releasePermit))
  activate h _ _ _ := h.same rfl (Nat.le_refl _)
  await h _ _ := h.same rfl (Nat.le_refl _)
  finish h _ _ := h.same rfl (Nat.le_refl _)
  sense h ht := by
    unfold restartSensing at ht
    split_ifs at ht
    cases ht
    exact holds_keptBase.report (h.same (State.fixed_bays rfl) (Nat.le_refl _))
  leave h ht := by
    unfold leaveHalted at ht
    split_ifs at ht
    cases ht
    exact State.holds.raiseBoth (h.same rfl (Nat.le_refl _))
  offline h ht := by
    unfold goOfflineNow at ht
    split_ifs at ht
    cases ht
    exact h.same rfl (Nat.le_refl _)
  withdraw h ht := by
    unfold withdrawFetch at ht
    split_ifs at ht
    split at ht <;> cases ht <;> exact h.same rfl (Nat.le_refl _)
  fetch h ht := by
    unfold beginFetch at ht
    split_ifs at ht <;> cases ht <;> exact h.same rfl (Nat.le_refl _)

theorem holds_events : KeptEvents (State.holds Q n) where
  toKept := holds_kept
  stopped h _ := h.modSpindle
  flies _ _ := .inl fun h _ => h.same rfl (Nat.le_refl _)
  pins h := h.same rfl (Nat.le_refl _)
  ports h := h.same rfl (Nat.le_refl _)
  supply h := h.same rfl (Nat.le_refl _)
  reset h := h.same rfl (Nat.le_refl _)
  input h hg := h.same (State.fixed_bays hg) (Nat.le_refl _)
  head h _ := h.same rfl (Nat.le_refl _)
  spun h _ _ := h.same rfl (Nat.le_refl _)
  tickLink h _ := h.same rfl (Nat.le_refl _)
  mark h := h.modSpindle
  lock h _ := h.modSpindle.releasePermit
  drift h _ := h.modSpindle
  permitMet {start s} _ h _ := by
    unfold State.permitToBay0
    exact State.holds.grantPermit (State.holds.modSpindle (s := { s with permitWaiting := some .bay1 })
      (h.same rfl (Nat.le_refl _)))
  fill h _ _ _ _ _ := (holds_slotsFree.modSlot h).same rfl (Nat.le_refl _)
  pour h _ _ _ := (holds_slotsFree.modSlot h).same rfl (Nat.le_refl _)

theorem holds_low : KeptLow (State.holds Q n) where
  permits h := h.same rfl (Nat.le_refl _)
  dropSlots h _ := holds_slotsFree.dropSlots h
  spindle h _ _ _ := h.same rfl (Nat.le_refl _)
  halted h := h.same rfl (Nat.le_refl _)

theorem holds_takes : KeptTakes (State.holds Q n) where
  toKeptEvents := holds_events
  fieldSlot _ _ _ := .inl holds_slotsFree
  freeLoose h _ _ := holds_slotsFree.modSlot h
  fillLoose h _ _ := holds_slotsFree.modSlot h
  dropSlots h _ := holds_slotsFree.dropSlots h
  started h _ := State.holds.raiseBoth (h.same rfl (Nat.le_refl _))
  unstalled h _ := h.same rfl (Nat.le_refl _)
  draining h _ _ := h.same rfl (Nat.le_refl _)
  lowSupply h ha := holds_low.takeSupplyLow holds_events h ha

/-! ### The bursts and the resets -/

theorem State.holds.beginBurst (hq : ∀ F x, Q F → Q { F with idle := x }) (h : s.holds Q n) :
    s.beginBurst.holds Q n := by
  have hfixed : s.beginBurst.fixed = { s.fixed with idle := s.beginBurst.burst.isNone } ∧
      s.beginBurst.freeCount = s.freeCount := by
    unfold State.beginBurst State.beginRecord
    repeat' split
    all_goals exact ⟨by simp [State.fixed, State.modSlot], rfl⟩
  exact ⟨hfixed.1 ▸ hq _ _ h.1, h.2.trans_eq hfixed.2.symm⟩

@[simp] theorem State.report_fixed (s : State) (b : Bay) (c : Bool) :
    (s.report b c).fixed = s.fixed ∧ (s.report b c).freeCount = s.freeCount := by
  unfold State.report State.notable
  repeat' split
  all_goals exact ⟨rfl, rfl⟩

theorem State.restartIdle_fixed (s : State) (b : Bay) :
    (s.restartIdle b).fixed = s.fixed ∧ (s.restartIdle b).freeCount = s.freeCount := by
  unfold State.restartIdle State.modBay
  obtain ⟨hfixed, hfree⟩ := State.report_fixed
    { s with bays := s.bays.update b fun c => { c with idle := c.idle.map fun _ => 0 } } b
    (decide (bayReported { s.bay b with idle := (s.bay b).idle.map fun _ => 0 } ≠ bayReported (s.bay b)))
  exact ⟨hfixed.trans (State.fixed_bays rfl), hfree⟩

theorem State.takeSettingsRecord_fixed (s : State) (id : Nat) (data : List Byte) :
    (∃ t, (s.takeSettingsRecord id data).fixed = { s.fixed with settings := t }) ∧
      (s.takeSettingsRecord id data).freeCount = s.freeCount := by
  unfold State.takeSettingsRecord
  extract_lets taken stored timed
  have htimed : timed.fixed = stored.fixed ∧ timed.freeCount = stored.freeCount := by
    unfold timed
    split
    · exact ⟨rfl, rfl⟩
    · obtain ⟨h0, k0⟩ := stored.restartIdle_fixed .bay0
      obtain ⟨h1, k1⟩ := (stored.restartIdle .bay0).restartIdle_fixed .bay1
      exact ⟨h1.trans h0, k1.trans k0⟩
  exact ⟨⟨taken.1, htimed.1⟩, htimed.2⟩

theorem State.endSlotBurst_fixed (s : State) (i : Nat) (drop : Bool) (ws : List Word) :
    (∃ t, (s.endSlotBurst i drop ws).fixed = { s.fixed with settings := t }) ∧
      (s.endSlotBurst i drop ws).freeCount = s.freeCount := by
  have hslot (t : State) (f : Slot → Slot) : (t.modSlot i f).fixed = t.fixed := by simp [State.fixed, State.modSlot]
  have hmoved (t : State) (x : Slot) : (∃ y, (t.slotMoved i x).fixed = { t.fixed with settings := y }) ∧
      (t.slotMoved i x).freeCount = t.freeCount := by
    unfold State.slotMoved
    split
    · exact ⟨⟨t.settings, hslot t fun y => Slot.freed y.data⟩, rfl⟩
    · exact ⟨⟨t.settings, hslot t fun y => Slot.freed y.data⟩, rfl⟩
    next id _ _ =>
      obtain ⟨⟨y, hy⟩, hn⟩ := (t.freeSlot i).takeSettingsRecord_fixed id (x.data.take 64)
      exact ⟨⟨y, hy.trans (congrArg (fun F : Fixed => { F with settings := y }) (hslot t _))⟩, hn⟩
    · exact ⟨⟨t.settings, hslot ..⟩, rfl⟩
  unfold State.endSlotBurst
  split
  · exact ⟨⟨s.settings, rfl⟩, rfl⟩
  next x _ =>
    extract_lets placed moved stored
    split
    · exact ⟨⟨s.settings, hslot ..⟩, rfl⟩
    · split
      · exact ⟨⟨s.settings, hslot ..⟩, rfl⟩
      · obtain ⟨⟨y, hy⟩, hn⟩ := hmoved stored moved
        exact ⟨⟨y, hy.trans (congrArg (fun F : Fixed => { F with settings := y }) (hslot s _))⟩, hn⟩

/-- What the end of a burst leaves of these registers: of them a burst changes the names given and the settings. -/
theorem State.endBurst_fixed (s : State) (w : BurstWork) (drop : Bool) (ws : List Word) :
    (∃ m t, s.nextId ≤ m ∧ (s.endBurst w drop ws).fixed = { s.fixed with nextId := m, settings := t }) ∧
      (s.endBurst w drop ws).freeCount = s.freeCount := by
  have hsame (t : State) (hf : t.fixed = s.fixed) (hn : t.freeCount = s.freeCount) :
      (∃ m x, s.nextId ≤ m ∧ t.fixed = { s.fixed with nextId := m, settings := x }) ∧ t.freeCount = s.freeCount :=
    ⟨⟨s.nextId, s.settings, Nat.le_refl _, hf⟩, hn⟩
  cases w with
  | slot i =>
    obtain ⟨⟨y, hy⟩, hn⟩ := s.endSlotBurst_fixed i drop ws
    exact ⟨⟨s.nextId, y, Nat.le_refl _, hy⟩, hn⟩
  | finish step =>
    refine hsame _ ?_ ?_ <;> simp only [State.endBurst, State.endFinish] <;> repeat' split
    all_goals rfl
  | record b n raised =>
    refine hsame _ ?_ ?_ <;> simp only [State.endBurst] <;> split <;> rfl
  | startWrite => exact hsame _ rfl rfl
  | faultClear => exact hsame _ rfl rfl
  | reread =>
    refine hsame _ ?_ ?_ <;> simp only [State.endBurst, State.endReread] <;> split <;> rfl
  | poll =>
    refine hsame _ ?_ ?_ <;> simp only [State.endBurst, State.endPoll] <;> split <;> rfl
  | readLink => exact hsame _ rfl rfl
  | readBlock a => exact hsame _ rfl rfl
  | stamp a y => exact ⟨⟨s.nextId + 1, s.settings, Nat.le_succ _, rfl⟩, rfl⟩
  | writeCursor => exact hsame _ rfl rfl
  | writeTaken => exact hsame _ rfl rfl
  | writeFault f => exact hsame _ rfl rfl

/-- R130: the end of a burst, which may write host memory, give one more name and change the settings. -/
theorem takeBurstEnd_fixed (s : State) (words : Vector Word 16) :
    (∃ x m y t, s.nextId ≤ m ∧ (s.burst = none → y = s.hostMem) ∧
      (∀ z, s.burst = some z → y = s.hostMem.writeBytes z.address (wordsBytes z.words)) ∧
      (takeBurstEnd words s).fixed = { s.fixed with idle := x, nextId := m, hostMem := y, settings := t }) ∧
      (takeBurstEnd words s).freeCount = s.freeCount := by
  unfold takeBurstEnd
  split
  next hb => exact ⟨⟨s.burst.isNone, s.nextId, s.hostMem, s.settings, Nat.le_refl _, fun _ => rfl,
      fun z hz => absurd (hb.symm.trans hz) nofun, rfl⟩, rfl⟩
  next z hb =>
    obtain ⟨⟨m, t, hm, hf⟩, hn⟩ :=
      (({ s with burst := none } : State).storeWords z).endBurst_fixed z.work z.drop words.toList
    refine ⟨⟨true, m, s.hostMem.writeBytes z.address (wordsBytes z.words), t, hm,
      fun h => absurd (hb.symm.trans h) nofun, fun y hy => ?_, hf⟩, hn⟩
    rw [show z = y from Option.some.inj (hb.symm.trans hy)]

theorem State.holds.takeBurstEnd {words : Vector Word 16}
    (hq : ∀ F x m y t, F.nextId ≤ m → Q F → Q { F with idle := x, nextId := m, hostMem := y, settings := t })
    (h : s.holds Q n) : (Machine.takeBurstEnd words s).holds Q n := by
  obtain ⟨⟨x, m, y, t, hm, -, -, hf⟩, hn⟩ := takeBurstEnd_fixed s words
  exact ⟨hf ▸ hq _ _ _ _ _ hm h.1, h.2.trans_eq hn.symm⟩

theorem holds_raises (hq : ∀ F g, Q F → Q { F with generations := g }) (b : Bay) : Raises (State.holds Q n) b :=
  fun h _ => ⟨hq _ _ h.1, h.2⟩

theorem State.holds.resetDone (hq : ∀ F t g, Q F → Q { F with settings := t, generations := g })
    (h : s.holds Q n) : s.resetDone.holds Q n := by
  refine ⟨?_, h.2⟩
  have hf : s.resetDone.fixed = { s.fixed with settings := s.resetDone.settings, generations := s.resetDone.fixed.generations } := by
    simp [State.fixed, State.resetDone]
  rw [hf]
  exact hq _ _ _ h.1

theorem State.holds.takeResetEnd (hq : ∀ F t g, Q F → Q { F with settings := t, generations := g })
    (h : s.holds Q n) : (Machine.takeResetEnd s).holds Q n := by
  have hraise (b : Bay) : Raises (State.holds Q n) b := holds_raises (fun F g => hq F F.settings g) b
  have hinsert {b : Bay} {t : State} (ht : t.holds Q n) : (t.insertPresent b).holds Q n := by
    unfold State.insertPresent
    split
    · exact holds_events.insert (hraise b) ht
    · exact ht
  unfold Machine.takeResetEnd
  split
  · exact hinsert (hinsert (h.resetDone hq))
  · exact h

theorem State.holds.takeBusReset
    (hq : ∀ F c x t g, Q F → Q { F with cycle := c, idle := x, settings := t, generations := g })
    (h : s.holds Q n) : (Machine.takeBusReset s).holds Q n := by
  refine ⟨?_, h.2⟩
  have hf : (Machine.takeBusReset s).fixed = { s.fixed with
      cycle := 0, idle := true, settings := (Machine.takeBusReset s).settings
      generations := (Machine.takeBusReset s).fixed.generations } := by
    simp [State.fixed, Machine.takeBusReset, State.reset]
  rw [hf]
  exact hq _ _ _ _ _ h.1

end

/-! ### Every command and every cycle -/

theorem exec_next (c : Instr) (s : State) : ∃ t, exec c s = .next t := by
  cases c <;> exact ⟨_, rfl⟩

/-- Settles O2: the waits and the events keep the queue of commands and the slots, and count their own instant. -/
theorem everyStepCompletes : Obligations.EveryStepCompletes := by
  unfold Obligations.EveryStepCompletes
  refine ⟨fun c s => ?_, fun s hp => ?_⟩
  · obtain ⟨t, ht⟩ := exec_next c s
    let Q (F : Fixed) : Prop := F.pending = s.pending ∧ F.slots = s.slots.length ∧ F.instant = s.instant + 1 ∧
      s.nextId ≤ F.nextId ∧ (c ≠ .busReset → F.cycle = s.cycle)
    have howns : TakesOwn (State.holds Q s.freeCount) c :=
      { grant := fun _ _ h _ => h.beginBurst fun _ _ h => h
        burst := fun _ _ _ h => h.takeBurstEnd fun _ _ _ _ _ hm ⟨h1, h2, h3, h4, h5⟩ => ⟨h1, h2, h3, h4.trans hm, h5⟩
        ends := fun _ _ h => h.takeResetEnd fun _ _ _ h => h
        reset := fun hc _ h => h.takeBusReset fun _ _ _ _ _ ⟨h1, h2, h3, h4, _⟩ =>
          ⟨h1, h2, h3, h4, fun hn => absurd hc hn⟩
        raise := fun b _ => holds_raises (fun _ _ h => h) b }
    obtain ⟨⟨hpending, hslots, hinstant, hnext, hcycle⟩, hfree⟩ := holds_takes.taken howns
      ⟨⟨rfl, rfl, rfl, Nat.le_refl _, fun _ => rfl⟩, Nat.le_refl _⟩ ht
    exact ⟨t, ht, hpending, hslots, hinstant, hnext, fun hc => ⟨hcycle hc, hfree⟩⟩
  · let Q (F : Fixed) : Prop := F.pending = [] ∧ F.cycle = s.cycle + 1 ∧ s.instant ≤ F.instant ∧
      F.hostMem = s.hostMem ∧ F.nextId = s.nextId ∧ F.slots = s.slots.length ∧ F.idle = s.burst.isNone
    have hclock : KeptClock (State.holds Q 0) :=
      { toKeptTakes := holds_takes
        instant := fun ⟨⟨h1, h2, h3, h4⟩, h⟩ => ⟨⟨h1, h2, Nat.le_succ_of_le h3, h4⟩, h⟩
        raise := fun ⟨h, hn⟩ _ => ⟨h, hn⟩
        resetDone := fun h _ => h.resetDone fun _ _ _ h => h }
    obtain ⟨h, -⟩ := hclock.cycled (s := s) ⟨⟨hp, rfl, Nat.le_refl _, rfl, rfl, rfl, rfl⟩, Nat.zero_le _⟩
    exact ⟨clockCycle s, by simp [step, hp], h⟩

/-- Settles O3: a command keeps host memory, the settings and the generations but where it is one of the events
named. -/
theorem onlyTheirEventsChangeThem : Obligations.OnlyTheirEventsChangeThem := by
  unfold Obligations.OnlyTheirEventsChangeThem
  intro c s t ht
  refine ⟨fun hc => ?_, fun words hc => ?_, fun hreset hends => ⟨fun hc => ?_, fun b h1 h2 => ?_⟩⟩
  · let Q (F : Fixed) : Prop := F.hostMem = s.hostMem
    have howns : TakesOwn (State.holds Q 0) c :=
      { grant := fun _ _ h _ => h.beginBurst fun _ _ h => h
        burst := fun words hw => absurd hw (hc words)
        ends := fun _ _ h => h.takeResetEnd fun _ _ _ h => h
        reset := fun _ _ h => h.takeBusReset fun _ _ _ _ _ h => h
        raise := fun b _ => holds_raises (fun _ _ h => h) b }
    exact (holds_takes.taken howns ⟨rfl, Nat.zero_le _⟩ ht).1
  · subst hc
    cases ht
    let Q (F : Fixed) : Prop := F.hostMem = (takeBurstEnd words s.nextInstant).hostMem
    have hmem : (perform (takeBurstEnd words) s).hostMem = (takeBurstEnd words s.nextInstant).hostMem :=
      ((holds_kept (Q := Q) (n := 0)).instantEnd ⟨rfl, Nat.zero_le _⟩).1
    obtain ⟨⟨x, m, y, z, -, hnone, hsome, hf⟩, -⟩ := takeBurstEnd_fixed s.nextInstant words
    rw [hmem, show (takeBurstEnd words s.nextInstant).hostMem = y from congrArg Fixed.hostMem hf]
    refine ⟨fun hb => hnone hb, fun w hb a ha => ?_⟩
    rw [hsome w hb]
    exact Memory.read_writeBytes_other _ _ _ fun i hi => ha i (wordsBytes_length w.words ▸ hi)
  · let Q (F : Fixed) : Prop := F.settings = s.settings
    have howns : TakesOwn (State.holds Q 0) c :=
      { grant := fun _ _ h _ => h.beginBurst fun _ _ h => h
        burst := fun words hw => absurd hw (hc words)
        ends := fun he => absurd he hends
        reset := fun hr => absurd hr hreset
        raise := fun b _ => holds_raises (fun _ _ h => h) b }
    exact (holds_takes.taken howns ⟨rfl, Nat.zero_le _⟩ ht).1
  · let Q (F : Fixed) : Prop := F.generations.get b = (s.bay b).generation
    have hget (u : State) : u.fixed.generations.get b = (u.bay b).generation := by cases b <;> rfl
    have howns : TakesOwn (State.holds Q 0) c :=
      { grant := fun _ _ h _ => h.beginBurst fun _ _ h => h
        burst := fun words _ _ h => h.takeBurstEnd fun _ _ _ _ _ _ h => h
        ends := fun he => absurd he hends
        reset := fun hr => absurd hr hreset
        raise := fun b' hb' u f h _ => by
          have hne : b ≠ b' := by
            rintro rfl
            exact hb'.elim h1 h2
          refine ⟨(hget _).trans (Eq.trans ?_ ((hget u).symm.trans h.1)), h.2⟩
          simp [State.bay, PerBay.get_update, hne] }
    exact (hget t).symm.trans (holds_takes.taken howns ⟨hget _, Nat.zero_le _⟩ ht).1

/-! ### The lines and the timers that run by condition -/

theorem timerWhile_isSome (runs : Bool) (x : Option Nat) : (timerWhile runs x).isSome = runs := by
  cases runs <;> cases x <;> rfl

/-- R166: the condition of the interrupt line. -/
theorem interruptDue_iff (s : State) : s.interruptDue = true ↔ s.hostFields.interruptEnable = true ∧
    (s.counts.finished ≠ s.hostFields.finishedSeen ∨
      (∃ b, s.counts.sequence.get b ≠ s.hostFields.conditionSeen.get b) ∨ s.counts.fault ≠ .none) := by
  have hbays : (∃ b, s.counts.sequence.get b ≠ s.hostFields.conditionSeen.get b) ↔
      s.counts.sequence.bay0 ≠ s.hostFields.conditionSeen.bay0 ∨
        s.counts.sequence.bay1 ≠ s.hostFields.conditionSeen.bay1 := by
    constructor
    · rintro ⟨b, hb⟩
      cases b
      · exact .inl hb
      · exact .inr hb
    · exact fun h => h.elim (fun h => ⟨.bay0, h⟩) fun h => ⟨.bay1, h⟩
  rw [hbays]
  simp [State.interruptDue, or_assoc]

/-- R131: the request set. -/
theorem requesting_iff (s : State) : s.requesting = true ↔
    (∃ x ∈ s.slots, slotRequests x = true) ∨ s.finishing ≠ [] ∨ s.link.recordOrder ≠ [] ∨ s.fetchWork ≠ none := by
  simp [State.requesting, or_assoc, Option.isSome_iff_ne_none]

theorem ready_iff (s : State) (b : Bay) : s.ready b = true ↔
    (s.bay b).state = .locked ∧ (s.spindle b).phase = .locked := by
  simp [State.ready]

theorem idleHolds_iff (s : State) (b : Bay) : s.idleHolds b = true ↔
    (s.bay b).state = .locked ∧ (s.spindle b).phase = .locked ∧ ∀ e ∈ s.entries, e.names b = false := by
  simp [State.idleHolds, ready_iff, and_assoc]

theorem refreshRuns_iff (s : State) (b : Bay) : s.refreshRuns b = true ↔ (s.spindle b).phase ≠ .stopped ∧
    (s.link.state = .running ∨ s.link.state = .draining ∨ s.link.state = .stalled) := by
  have hreports : s.link.state.reports = true ↔
      s.link.state = .running ∨ s.link.state = .draining ∨ s.link.state = .stalled := by
    cases s.link.state <;> simp [LinkState.reports]
  simp [State.refreshRuns, hreports]

theorem pollRuns_iff (s : State) : s.pollRuns = true ↔
    s.link.state = .running ∧ s.hostFields.pollInterval ≠ 0 ∧ s.resetInProgress = false := by
  simp [State.pollRuns, and_assoc]

theorem timersUpdated_bay (s : State) (b : Bay) :
    s.timersUpdated.bay b = idleUpdated (s.idleHolds b) (s.bay b) := by
  cases b <;> rfl

/-- Settles O4: every step ends with its timers and lines made after their conditions. -/
theorem linesAndTimersShowTheirConditions : Obligations.LinesAndTimersShowTheirConditions := by
  unfold Obligations.LinesAndTimersShowTheirConditions
  intro s t h
  obtain ⟨u, rfl⟩ := step_closed h
  unfold State.closed
  generalize u.interlocked = v
  have hbay (b : Bay) : v.timersUpdated.linesUpdated.bay b = idleUpdated (v.idleHolds b) (v.bay b) :=
    timersUpdated_bay v b
  have hspent (b : Bay) : (v.timersUpdated.linesUpdated.bay b).idleSpent = (v.idleHolds b && (v.bay b).idleSpent) := by
    rw [hbay]
    rfl
  have hstate (b : Bay) : (v.timersUpdated.linesUpdated.bay b).state = (v.bay b).state := by
    rw [hbay]
    rfl
  refine ⟨interruptDue_iff v.timersUpdated, ?_, fun b => ?_, fun b => ?_, fun b => ?_, ?_⟩
  · rw [← requesting_iff]
    show (v.burst.isSome || v.requesting) = true ↔ v.burst ≠ none ∨ v.requesting = true
    rw [Bool.or_eq_true, Option.isSome_iff_ne_none]
  · have hidle := idleUpdated_runs (v.idleHolds b) (v.bay b)
    rw [← hbay] at hidle
    rw [hidle, hstate, Bool.and_eq_true, Bool.not_eq_true', idleHolds_iff]
    tauto
  · rw [hspent, hstate, Bool.and_eq_true, idleHolds_iff]
    exact fun h => h.1
  · have hrefresh : v.timersUpdated.linesUpdated.link.refreshTimer.get b =
        timerWhile (v.refreshRuns b) (v.link.refreshTimer.get b) := by
      cases b <;> rfl
    rw [hrefresh, timerWhile_isSome]
    exact refreshRuns_iff v b
  · show (timerWhile v.pollRuns v.link.pollTimer).isSome = true ↔ _
    rw [timerWhile_isSome]
    exact pollRuns_iff v

end Sys2Proof.Machine

/-!
PROOFS. The inputs of a bay: an insertion (R5), Write Protect (R99), a press (R2, R10, R12, R19).
-/

namespace Sys2Proof.Machine

/-! ### What a bay's operations leave of the part -/

/-- The registers of the part that no operation of a bay changes. -/
def State.outer (s : State) : Settings × Counts × Ports × Memory × Supply × Bool :=
  (s.settings, s.counts, s.ports, s.hostMem, s.supply, s.resetInProgress)

theorem State.outer_of_standing {s t : State} (h : t.standing = s.standing) : t.outer = s.outer := by
  have hsettings := congrArg Standing.settings h
  have hcounts := congrArg Standing.counts h
  have hports := congrArg Standing.ports h
  have hmem := congrArg Standing.hostMem h
  have hsupply := congrArg Standing.supply h
  have hreset := congrArg Standing.resetInProgress h
  simp only [State.outer]
  simp only [State.standing] at hsettings hcounts hports hmem hsupply hreset
  rw [hsettings, hcounts, hports, hmem, hsupply, hreset]

section

variable (s : State) (b : Bay)

@[simp] theorem State.outer_modBay (f : BayControl → BayControl) : (s.modBay b f).outer = s.outer := by
  simp [State.outer]

@[simp] theorem State.outer_modSpindle (f : Spindle → Spindle) : (s.modSpindle b f).outer = s.outer := by
  simp [State.outer]

@[simp] theorem State.outer_modPositioner (f : Positioner → Positioner) : (s.modPositioner b f).outer = s.outer := by
  simp [State.outer]

@[simp] theorem State.outer_modMap (f : DefectMap → DefectMap) : (s.modMap b f).outer = s.outer := by
  simp [State.outer]

end

/-! ### Insertion (R5) -/

/-- R5: the Bay Controller's record at an insertion. -/
def insertCounted (c : BayControl) : BayControl :=
  { c with
    generation := generationRaised c.generation, ejectRequested := false, ejectFailed := false
    prevent := false, faultClass := .none, idle := none, idleStop := false }

/-- R5: a bay with its flags and its map cleared for a new cartridge. -/
def State.insertCleared (s : State) (b : Bay) : State :=
  ((s.modBay b insertCounted).clearMount b).modMap b fun m => { m with softErrors := 0, marginal := false }

/-- R5: the cartridge seated on its ramp. -/
def State.insertSeated (s : State) (b : Bay) : State :=
  let seated := (s.insertCleared b).modBay b fun c => { c with state := .seated }
  if (s.positioner b).state = .fault then (seated.modPositioner b parkEnded).modSpindle b deferredBrake else seated

/-- R5: the cartridge found with heads off the ramp. -/
def State.insertStranded (s : State) (b : Bay) : State :=
  (((s.insertCleared b).modBay b fun c => { c with state := .fault, lock := true, faultClass := .headsOffRamp }).loseChannel
    b).modPositioner b strandedActuator

theorem State.insert_eq (s : State) (b : Bay) : s.insert b =
    if (s.bay b).parkDetect.accepted then
      if s.settings.autoLock then (s.insertSeated b).lockAndSpin b else s.insertSeated b
    else s.insertStranded b := rfl

section

variable (s : State) (b : Bay)

@[simp] theorem State.clearMount_table : ((s.clearMount b).map b).status = .none ∧ ((s.clearMount b).map b).table = [] ∧
    ((s.clearMount b).map b).nextSpare = 0 := by
  simp [State.clearMount]

theorem State.insertCleared_bay : (s.insertCleared b).bay b = insertCounted (s.bay b) := by
  simp [State.insertCleared, State.bay]

theorem State.insertCleared_map : let m := (s.insertCleared b).map b
    m.status = .none ∧ m.table = [] ∧ m.nextSpare = 0 ∧ m.softErrors = 0 ∧ m.marginal = false := by
  simp [State.insertCleared]

theorem State.insertCleared_frame : (s.insertCleared b).spindles = s.spindles ∧
    (s.insertCleared b).positioners = s.positioners ∧ (s.insertCleared b).permitHolder = s.permitHolder ∧
    (s.insertCleared b).entries = s.entries ∧ (s.insertCleared b).outer = s.outer := by
  have houter : ((s.modBay b insertCounted).clearMount b).outer = s.outer :=
    (State.outer_of_standing (standing_clearMount ..)).trans (by simp)
  refine ⟨by simp [State.insertCleared], by simp [State.insertCleared], by simp [State.insertCleared],
    by simp [State.insertCleared], ?_⟩
  rw [State.insertCleared, State.outer_modMap, houter]

theorem BayKept.insertCleared : BayKept s (s.insertCleared b) b.other :=
  ((BayKept.modBay _).trans BayKept.clearMount).trans (BayKept.modMap _)

theorem BayKept.insertSeated : BayKept s (s.insertSeated b) b.other := by
  unfold State.insertSeated
  dsimp only
  split
  · exact (((BayKept.insertCleared s b).trans (BayKept.modBay _)).trans (BayKept.modPositioner _)).trans
      (BayKept.modSpindle _)
  · exact (BayKept.insertCleared s b).trans (BayKept.modBay _)

theorem BayKept.insertStranded : BayKept s (s.insertStranded b) b.other :=
  (((BayKept.insertCleared s b).trans (BayKept.modBay _)).trans (BayKept.loseChannel _)).trans
    (BayKept.modPositioner _)

theorem State.insertSeated_bay : (s.insertSeated b).bay b = { insertCounted (s.bay b) with state := .seated } := by
  unfold State.insertSeated
  dsimp only
  split <;> simp [State.insertCleared_bay]

theorem State.insertSeated_spindle : ((s.insertSeated b).spindle b).phase = (s.spindle b).phase := by
  have hspindles := (s.insertCleared_frame b).1
  unfold State.insertSeated
  dsimp only
  split
  · simp [State.spindle_congr hspindles, (retractFailed_deferredBrake _).1]
  · simp [State.spindle_congr hspindles]

theorem State.insertSeated_positioner : ((s.insertSeated b).positioner b).state =
    if (s.positioner b).state = .fault then .parked else (s.positioner b).state := by
  have hpositioners := (s.insertCleared_frame b).2.1
  unfold State.insertSeated
  dsimp only
  split
  · simp [parkEnded]
  · simp [State.positioner_congr hpositioners]

theorem State.insertSeated_maps : (s.insertSeated b).maps = (s.insertCleared b).maps := by
  unfold State.insertSeated
  dsimp only
  split <;> simp

theorem State.insertSeated_frame : (s.insertSeated b).permitHolder = s.permitHolder ∧
    (s.insertSeated b).entries = s.entries ∧ (s.insertSeated b).outer = s.outer := by
  obtain ⟨-, -, hholder, hentries, houter⟩ := s.insertCleared_frame b
  unfold State.insertSeated
  dsimp only
  split <;> simp [hholder, hentries, houter]

theorem State.spinUpRequest_stopped (hs : s.supply.accepted = false) (hp : (s.spindle b).phase = .stopped) :
    s.spinUpRequest b = s.requestPermit b := by
  simp [State.spinUpRequest, hs, hp]

theorem BayKept.spinUpRequest : BayKept s (s.spinUpRequest b) b.other := by
  unfold State.spinUpRequest
  repeat' split
  · exact BayKept.refl _ _
  · exact BayKept.requestPermit
  · exact BayKept.modSpindle _
  · exact BayKept.refl _ _

theorem BayKept.lockAndSpin : BayKept s (s.lockAndSpin b) b.other :=
  (BayKept.modBay _).trans (BayKept.spinUpRequest _ b)

/-- R5: an insertion. -/
theorem State.insert_inserted : InsertedInto s (s.insert b) b := by
  have hmap := s.insertCleared_map b
  obtain ⟨hholder, hentries, houter⟩ := s.insertSeated_frame b
  have hsettings : (s.insertSeated b).settings = s.settings := congrArg (·.1) houter
  have hsupply : (s.insertSeated b).supply = s.supply := congrArg (·.2.2.2.2.1) houter
  cases hpark : (s.bay b).parkDetect.accepted with
  | false =>
    have ht : s.insert b = s.insertStranded b := by simp [State.insert_eq, hpark]
    obtain ⟨hspindles, -, -, hentries, houter⟩ := s.insertCleared_frame b
    have hbay : (s.insertStranded b).bay b =
        { insertCounted (s.bay b) with state := .fault, lock := true, faultClass := .headsOffRamp } := by
      have hloses : (s.insertStranded b).bays = ((s.insertCleared b).modBay b fun c =>
          { c with state := .fault, lock := true, faultClass := .headsOffRamp }).bays := by
        simp [State.insertStranded]
      rw [State.bay_congr hloses, State.bay_modBay, if_pos rfl, State.insertCleared_bay]
    have hmaps : (s.insertStranded b).maps = (s.insertCleared b).maps := by simp [State.insertStranded]
    have hout : (s.insertStranded b).outer = s.outer := by
      rw [State.insertStranded, State.outer_modPositioner, State.outer_of_standing (standing_loseChannel ..),
        State.outer_modBay, houter]
    have hkept := BayKept.insertStranded s b
    rw [ht]
    exact
      { generation := by rw [hbay]; rfl
        flags := by rw [hbay]; exact ⟨rfl, rfl, rfl, rfl⟩
        unmounted := by rw [State.map_congr hmaps]; exact hmap
        seated := fun h => absurd (hpark.symm.trans h) nofun
        locked := fun h => absurd (hpark.symm.trans h) nofun
        spinUp := fun h => absurd (hpark.symm.trans h) nofun
        ramp := fun h => absurd (hpark.symm.trans h) nofun
        offRamp := fun _ => by
          rw [hbay]
          refine ⟨rfl, rfl, rfl, by simp [State.insertStranded, strandedActuator], ?_⟩
          exact State.spindle_congr (by simp [State.insertStranded, hspindles]) b
        otherBay := ⟨hkept.bay, hkept.spindle, hkept.positioner, hkept.map⟩
        kept := ⟨by simp [State.insertStranded, hentries], congrArg (·.1) hout, congrArg (·.2.1) hout,
          congrArg (·.2.2.1) hout, congrArg (·.2.2.2.1) hout, congrArg (·.2.2.2.2.1) hout,
          congrArg (·.2.2.2.2.2) hout⟩ }
  | true =>
    have hbay := s.insertSeated_bay b
    have hmaps := s.insertSeated_maps b
    cases hauto : s.settings.autoLock with
    | false =>
      have ht : s.insert b = s.insertSeated b := by simp [State.insert_eq, hpark, hauto]
      have hkept := BayKept.insertSeated s b
      rw [ht]
      exact
        { generation := by rw [hbay]; rfl
          flags := by rw [hbay]; exact ⟨rfl, rfl, rfl, rfl⟩
          unmounted := by rw [State.map_congr hmaps]; exact hmap
          seated := fun _ _ => by rw [hbay]; exact ⟨rfl, rfl, rfl, s.insertSeated_spindle b⟩
          locked := fun _ h => absurd (hauto.symm.trans h) nofun
          spinUp := fun _ h => absurd (hauto.symm.trans h) nofun
          ramp := fun _ => s.insertSeated_positioner b
          offRamp := fun h => absurd (hpark.symm.trans h) nofun
          otherBay := ⟨hkept.bay, hkept.spindle, hkept.positioner, hkept.map⟩
          kept := ⟨hentries, hsettings, congrArg (·.2.1) houter, congrArg (·.2.2.1) houter,
            congrArg (·.2.2.2.1) houter, hsupply, congrArg (·.2.2.2.2.2) houter⟩ }
    | true =>
      have ht : s.insert b = (s.insertSeated b).lockAndSpin b := by simp [State.insert_eq, hpark, hauto]
      have hkept := (BayKept.insertSeated s b).trans (BayKept.lockAndSpin _ b)
      have hlocked : ((s.insertSeated b).lockAndSpin b).bay b =
          { insertCounted (s.bay b) with state := .locked, lock := true } := by
        have hspins : ((s.insertSeated b).lockAndSpin b).bays = ((s.insertSeated b).lockBay b).bays := by
          simp [State.lockAndSpin]
        rw [State.bay_congr hspins, State.lockBay, State.bay_modBay, if_pos rfl, hbay]
      have hout : ((s.insertSeated b).lockAndSpin b).outer = s.outer :=
        (State.outer_of_standing (standing_lockAndSpin ..)).trans houter
      rw [ht]
      exact
        { generation := by rw [hlocked]; rfl
          flags := by rw [hlocked]; exact ⟨rfl, rfl, rfl, rfl⟩
          unmounted := by
            rw [State.map_congr (State.lockAndSpin_frame ..).2.1, State.map_congr hmaps]
            exact hmap
          seated := fun _ h => absurd (hauto.symm.trans h) nofun
          locked := fun _ _ => by rw [hlocked]; exact ⟨rfl, rfl, rfl⟩
          spinUp := fun _ _ hs hp => by
            have hrequest : (s.insertSeated b).lockAndSpin b = ((s.insertSeated b).lockBay b).requestPermit b :=
              State.spinUpRequest_stopped _ b (by simp [State.lockBay, hsupply, hs])
                (by rw [State.spindle_congr (State.lockBay_frame ..).1, State.insertSeated_spindle, hp])
            obtain ⟨hwaits, hgranted⟩ := State.requestPermit_spec ((s.insertSeated b).lockBay b) b
            rw [hrequest]
            rw [(State.lockBay_frame ..).2.1, hholder] at hwaits hgranted
            split
            next hfree =>
              obtain ⟨hq, hh⟩ := hgranted hfree
              rw [hq]
              exact ⟨rfl, hh⟩
            next hheld =>
              obtain ⟨hq, -, hw⟩ := hwaits hheld
              rw [hq]
              exact ⟨rfl, hw⟩
          ramp := fun _ => by
            rw [State.positioner_congr (State.lockAndSpin_frame ..).1]
            exact s.insertSeated_positioner b
          offRamp := fun h => absurd (hpark.symm.trans h) nofun
          otherBay := ⟨hkept.bay, hkept.spindle, hkept.positioner, hkept.map⟩
          kept := ⟨by rw [(State.lockAndSpin_frame ..).2.2.2.2.2, hentries], congrArg (·.1) hout,
            congrArg (·.2.1) hout, congrArg (·.2.2.1) hout, congrArg (·.2.2.2.1) hout,
            congrArg (·.2.2.2.2.1) hout, congrArg (·.2.2.2.2.2) hout⟩ }

/-- What an insertion leaves of the inputs of its own bay. -/
theorem State.insert_inputs : ((s.insert b).bay b).present = (s.bay b).present ∧
    ((s.insert b).bay b).presentUndecided = (s.bay b).presentUndecided := by
  rw [State.insert_eq]
  repeat' split
  · have hspins : ((s.insertSeated b).lockAndSpin b).bays = ((s.insertSeated b).lockBay b).bays := by
      simp [State.lockAndSpin]
    rw [State.bay_congr hspins, State.lockBay, State.bay_modBay, if_pos rfl, State.insertSeated_bay]
    exact ⟨rfl, rfl⟩
  · rw [State.insertSeated_bay]
    exact ⟨rfl, rfl⟩
  · have hloses : (s.insertStranded b).bays = ((s.insertCleared b).modBay b fun c =>
        { c with state := .fault, lock := true, faultClass := .headsOffRamp }).bays := by
      simp [State.insertStranded]
    rw [State.bay_congr hloses, State.bay_modBay, if_pos rfl, State.insertCleared_bay]
    exact ⟨rfl, rfl⟩

end

/-! ### Present taken -/

/-- The Bay Controller's record with Present accepted or decided. -/
def presentTaken (v : Bool) (c : BayControl) : BayControl :=
  { c with present := ⟨v, 0⟩, presentUndecided := false }

/-- The state in which Present has just been accepted or decided, at a new instant. -/
def State.presentNext (s : State) (b : Bay) (v : Bool) : State :=
  { s with
    instant := s.instant + 1
    pins := { s.pins with bays := s.pins.bays.update b fun x => { x with present := v } }
    bays := s.bays.update b (presentTaken v) }

section

variable {s : State} {b : Bay}

theorem State.setPresent_nextInstant (v : Bool) : s.nextInstant.setPresent b v = s.presentNext b v :=
  State.modBay_quiet rfl

theorem State.presentNext_bay (v : Bool) : (s.presentNext b v).bay b = presentTaken v (s.bay b) := by
  simp [State.presentNext, State.bay]

theorem State.presentNext_other (v : Bool) : (s.presentNext b v).bay b.other = s.bay b.other := by
  simp [State.presentNext, State.bay]

/-- A second change of a Bay Controller after one that R25 does not report. -/
theorem State.modBay_modBay_quiet {f g : BayControl → BayControl}
    (h : bayReported (f (s.bay b)) = bayReported (s.bay b)) :
    (s.modBay b f).modBay b g = s.modBay b fun c => g (f c) := by
  have hbay : State.bay { s with bays := s.bays.update b f } b = f (s.bay b) := by simp [State.bay]
  rw [State.modBay_quiet h]
  simp only [State.modBay, hbay, h, PerBay.update_update]

theorem State.loseChannel_idle (h : s.channel.grant ≠ some b) : s.loseChannel b = s := if_neg h

/-- An insertion after its Present has been taken is one of the bay as it stood before. -/
theorem InsertedInto.fromPresent {t : State} {v : Bool} (h : InsertedInto (s.presentNext b v) t b) :
    InsertedInto s t b := by
  obtain ⟨hgeneration, hflags, hunmounted, hseated, hlocked, hspin, hramp, hoff, hother, hkept⟩ := h
  rw [State.presentNext_bay] at hgeneration hseated hlocked hspin hramp hoff
  rw [State.presentNext_other] at hother
  exact ⟨hgeneration, hflags, hunmounted, hseated, hlocked, hspin, hramp, hoff, hother, hkept⟩

/-- R5: the insertion that an acceptance or a decision of Present makes. -/
theorem State.insert_presentNext : InsertedInto s ((s.presentNext b true).insert b) b ∧
    (((s.presentNext b true).insert b).bay b).present = ⟨true, 0⟩ ∧
    (((s.presentNext b true).insert b).bay b).presentUndecided = false := by
  obtain ⟨hpresent, hundecided⟩ := (s.presentNext b true).insert_inputs b
  rw [State.presentNext_bay] at hpresent hundecided
  exact ⟨(State.insert_inserted ..).fromPresent, hpresent, hundecided⟩

/-- R14: an ordinary removal of a bay that does not have the channel, after its Present has been taken. -/
theorem State.presentNext_ordinaryRemoval (h : s.channel.grant ≠ some b) :
    (s.presentNext b false).ordinaryRemoval b =
      State.modEntries
        (State.modBay { s with
          instant := s.instant + 1
          pins := { s.pins with bays := s.pins.bays.update b fun x => { x with present := false } } }
          b BayControl.removed)
        fun e => if e.names b && (e.stage == .ejecting || e.stage == .releasing) then completed e else e := by
  rw [State.ordinaryRemoval, State.loseChannel_idle (by exact h)]
  refine congrArg (fun t : State => t.modEntries _) ?_
  rw [← State.setPresent_nextInstant, State.setPresent, State.modBay_modBay_quiet rfl]
  rfl

theorem takePresentTrue_accepted (hs : (s.bay b).sensing = true) (hu : (s.bay b).presentUndecided = false)
    (ha : (s.bay b).present.accepted = false) : takePresentTrue b s.nextInstant =
      if (s.bay b).state = .empty ∧ !s.resetInProgress then (s.presentNext b true).insert b
      else s.presentNext b true := by
  refine (if_pos ⟨hs, by exact congrArg not hu, by exact congrArg not ha⟩).trans ?_
  rw [State.setPresent_nextInstant]
  rfl

theorem takePresentDecided_undecided (hs : (s.bay b).sensing = true) (hu : (s.bay b).presentUndecided = true)
    (v : Bool) : takePresentDecided b v s.nextInstant =
      if v then (if s.resetInProgress then s.presentNext b v else (s.presentNext b v).insert b)
      else if (s.bay b).state = .seated then (s.presentNext b v).ordinaryRemoval b
      else s.presentNext b v := by
  refine (if_pos ⟨hs, hu⟩).trans ?_
  rw [State.setPresent_nextInstant]
  rfl

end

/-- Settles O21: in EMPTY, and where Present was undecided, the bay inserts; elsewhere the value alone is
taken, or the SEATED bay found empty is removed. -/
theorem presentTrueAndDecidedInsert : Obligations.PresentTrueAndDecidedInsert := by
  intro s b hsense next
  obtain ⟨hinserted, hpresent, hdecided⟩ := State.insert_presentNext (s := s) (b := b)
  refine ⟨fun hu ha hempty hreset => ⟨_, next_instantEnd ?_, hinserted, hpresent⟩, fun hu ha hother => ?_,
    fun hu hreset => ⟨_, next_instantEnd ?_, hinserted, hpresent, hdecided⟩, fun hu hseated hgrant => ?_,
    fun hu hstate => ?_⟩
  · rw [takePresentTrue_accepted hsense hu ha]
    exact if_pos ⟨hempty, by simp [hreset]⟩
  · refine next_instantEnd ((takePresentTrue_accepted hsense hu ha).trans (if_neg ?_))
    rintro ⟨hempty, hreset⟩
    exact hother.elim (fun h => h hempty) fun h => by simp [h] at hreset
  · rw [takePresentDecided_undecided hsense hu, if_pos rfl]
    exact if_neg (Bool.eq_false_iff.1 hreset)
  · refine next_instantEnd ((takePresentDecided_undecided hsense hu false).trans ?_)
    exact (if_pos hseated).trans (State.presentNext_ordinaryRemoval hgrant)
  · refine next_instantEnd ((takePresentDecided_undecided hsense hu false).trans ?_)
    exact (if_neg hstate).trans (State.setPresent_nextInstant false).symm

/-! ### Write Protect (R99) -/

section

variable {s : State} {b : Bay}

theorem State.loseChannel_channel (h : s.channel.grant = some b) :
    (s.loseChannel b).channel = releasedChannel s.channel := by
  rw [State.loseChannel, if_pos h]
  simp [State.releaseChannel]

/-- R99: the bay writes a field or lays a track. -/
def State.writingThere (s : State) (b : Bay) : Prop :=
  s.channel.grant = some b ∧ (s.channel.search = .writing ∨ s.channel.format = .laying)

theorem State.protect_eq : s.protect b = (if s.channel.grant == some b &&
    (s.channel.search == .writing || s.channel.format == .laying) then s.loseChannel b else s).endTasksOn b
      (fun e => e.writesTo b && !s.formatClosing b e) .writeProtected := rfl

theorem State.protect_writing (h : s.writingThere b) : s.protect b =
    (s.loseChannel b).endTasksOn b (fun e => e.writesTo b && !s.formatClosing b e) .writeProtected := by
  rw [State.protect_eq, if_pos (by simpa [State.writingThere] using h)]

theorem State.protect_reading (h : ¬ s.writingThere b) : s.protect b =
    s.endTasksOn b (fun e => e.writesTo b && !s.formatClosing b e) .writeProtected := by
  rw [State.protect_eq, if_neg (by simpa [State.writingThere] using h)]

/-- R99: what Write Protect leaves, and the tasks that it ends. -/
theorem State.protect_frame : (s.protect b).bays = s.bays ∧ (s.protect b).spindles = s.spindles ∧
    (s.protect b).positioners = s.positioners ∧ (s.protect b).maps = s.maps ∧ (s.protect b).outer = s.outer ∧
    (s.protect b).entries = s.entries.map fun e =>
      if e.names b && (e.writesTo b && !s.formatClosing b e) then decided .writeProtected 0 e else e := by
  have houter : (s.protect b).outer = s.outer := by
    refine State.outer_of_standing ?_
    rw [State.protect_eq]
    split <;> simp
  have hentries : (s.protect b).entries = s.entries.map fun e =>
      if e.names b && (e.writesTo b && !s.formatClosing b e) then decided .writeProtected 0 e else e := by
    rw [State.protect_eq]
    split <;> simp [State.endTasksOn]
  refine ⟨?_, ?_, ?_, ?_, houter, hentries⟩ <;> · rw [State.protect_eq]; split <;> simp

/-- R99: the channel where the bay writes, and where it does not. -/
theorem State.protect_channel : (s.writingThere b → (s.protect b).channel = releasedChannel s.channel) ∧
    (¬ s.writingThere b → (s.protect b).channel = s.channel ∧ (s.protect b).slots = s.slots ∧
      (s.protect b).mediumOut = s.mediumOut) := by
  constructor <;> intro h
  · rw [State.protect_writing h, (State.endTasksOn_frame ..).2.2.2.2.2.1, State.loseChannel_channel h.1]
  · rw [State.protect_reading h]
    exact ⟨rfl, rfl, rfl⟩

end

/-- Settles O23: the acceptance is the bay's own value, and where it is true the shield of R99. -/
theorem writeProtectReachesTheWriters : Obligations.WriteProtectReachesTheWriters := by
  intro s b hsense taken closing
  refine ⟨fun ha => next_instantEnd (if_pos ⟨hsense, by exact ha ▸ nofun⟩), fun ha => ?_⟩
  let u := (s.nextInstant.modPins b fun x => { x with writeProtect := true }).modBay b (taken true)
  have htake : takeWriteProtect b true s.nextInstant = u.protect b :=
    if_pos ⟨hsense, by exact ha ▸ nofun⟩
  have houter : u.outer = s.outer := State.outer_modBay ..
  obtain ⟨hbays, hspindles, hpositioners, hmaps, hkept, hentries⟩ := State.protect_frame (s := u) (b := b)
  obtain ⟨hcut, hleft⟩ := State.protect_channel (s := u) (b := b)
  have hchannel : u.channel = s.channel := State.modBay_channel ..
  have hnames : u.entries = s.entries := State.modBay_entries ..
  have hslots : u.slots = s.slots := State.modBay_slots ..
  have hmedium : u.mediumOut = s.mediumOut := State.modBay_mediumOut ..
  simp only [State.writingThere, hchannel, hslots, hmedium] at hcut hleft
  have hsettings := hkept.trans houter
  refine ⟨_, next_instantEnd htake, ?_, ?_, ?_, ?_, fun h => ?_, hleft, ?_, ?_, ?_,
    congrArg (·.2.1) hsettings, congrArg (·.1) hsettings, congrArg (·.2.2.1) hsettings,
    congrArg (·.2.2.2.1) hsettings⟩
  · rw [State.bay_congr hbays]
    exact (State.bay_modBay ..).trans (if_pos rfl)
  · rw [State.bay_congr hbays]
    exact (State.bay_modBay ..).trans (if_neg (by cases b <;> nofun))
  · rw [hentries, hnames]
    simp only [State.formatClosing, hchannel, closing, Bool.and_assoc]
  · by_cases hw : s.channel.grant = some b ∧ (s.channel.search = .writing ∨ s.channel.format = .laying)
    · rw [hcut hw]
      rfl
    · rw [(hleft hw).1]
  · rw [hcut h]
    exact ⟨rfl, rfl, rfl⟩
  · exact hspindles.trans (State.modBay_spindles ..)
  · exact hpositioners.trans (State.modBay_positioners ..)
  · exact hmaps.trans (State.modBay_maps ..)

/-! ### The Eject Button (R2, R9, R10, R12, R19, R98) -/

/-- The Bay Controller's record with a press accepted. -/
def buttonTaken (c : BayControl) : BayControl := { c with button := ⟨true, 0⟩ }

/-- The state in which the Eject Button has just been accepted pressed, at a new instant. -/
def State.pressNext (s : State) (b : Bay) : State :=
  { s with
    instant := s.instant + 1
    pins := { s.pins with bays := s.pins.bays.update b fun x => { x with ejectButton := true } }
    bays := s.bays.update b buttonTaken }

section

variable {s : State} {b : Bay}

/-- R145: every started task of the bay that the event ends has its end decided. -/
theorem State.endTasksOn_ends {p : Entry → Bool} (r : Result) :
    ∀ e ∈ (s.endTasksOn b p r).entries, e.names b = true → p e = true → e.state = .active → e.ending ≠ none := by
  intro e he hb hpe ha
  obtain ⟨x, -, rfl⟩ := List.mem_map.1 he
  obtain ⟨-, hblock, hstate, -⟩ := decided_step r 0 x
  cases hx : x.names b && p x with
  | true =>
    simp only [hx, if_true] at ha ⊢
    exact decided_ending (hstate.symm.trans ha)
  | false =>
    simp only [hx, Bool.false_eq_true, if_false] at hb hpe
    exact absurd (Bool.and_eq_true_iff.2 ⟨hb, hpe⟩) (by simp [hx])

theorem enterReleasing_bay (d : Destination) : (s.enterReleasing b d).bay b =
    { s.bay b with
      state := .releasing d, prevent := false, idle := none, idleStop := false
      ejectRequested := if d = .ejecting then false else (s.bay b).ejectRequested } := by
  unfold State.enterReleasing
  rw [State.bay_congr (State.ejectTasks_frame ..).1, State.bay_congr (State.clearMount_frame ..).1]
  exact (State.bay_modBay ..).trans (if_pos rfl)

theorem enterReleasing_other (d : Destination) : (s.enterReleasing b d).bay b.other = s.bay b.other ∧
    (s.enterReleasing b d).map b.other = s.map b.other := by
  have hkept {f : BayControl → BayControl} : BayKept s ((s.modBay b f).clearMount b) b.other :=
    (BayKept.modBay _).trans BayKept.clearMount
  unfold State.enterReleasing
  rw [State.bay_congr (State.ejectTasks_frame ..).1, State.map_congr (State.ejectTasks_frame ..).2.2.2.1]
  exact ⟨hkept.bay, hkept.map⟩

theorem enterReleasing_map (d : Destination) : ((s.enterReleasing b d).map b).status = .none ∧
    ((s.enterReleasing b d).map b).table = [] ∧ ((s.enterReleasing b d).map b).nextSpare = 0 := by
  unfold State.enterReleasing
  rw [State.map_congr (State.ejectTasks_frame ..).2.2.2.1]
  exact State.clearMount_table ..

theorem enterReleasing_ended (d : Destination) : ∀ e ∈ (s.enterReleasing b d).entries,
    e.names b = true → e.releases = false → e.state = .active → e.ending ≠ none := fun e he hb hr =>
  State.endTasksOn_ends .ejected e he hb (congrArg not hr)

theorem State.takeButtonPress_next (hs : (s.bay b).sensing = true) (ha : (s.bay b).button.accepted = false) :
    takeButtonPress b s.nextInstant = (s.pressNext b).pressed b := by
  refine (if_pos ⟨hs, by exact congrArg not ha⟩).trans (congrArg (State.pressed · b) ?_)
  exact State.modBay_quiet rfl

theorem State.pressNext_bay : (s.pressNext b).bay b = buttonTaken (s.bay b) := by
  simp [State.pressNext, State.bay]

/-- A change of the Bay Controller after a press has been accepted, as one change. -/
theorem State.pressNext_modBay (f : BayControl → BayControl) : (s.pressNext b).modBay b f =
    State.modBay { s with
      instant := s.instant + 1
      pins := { s.pins with bays := s.pins.bays.update b fun x => { x with ejectButton := true } } }
      b fun c => f (buttonTaken c) := by
  rw [← State.modBay_modBay_quiet (f := buttonTaken) rfl, State.modBay_quiet (f := buttonTaken) rfl]
  rfl

/-- R98: a press that finds the gate deasserted for the bay is taken at once. -/
theorem State.pressed_free (h : ¬(s.channel.grant = some b ∧ s.channel.writeGate = true)) :
    s.pressed b = s.press b := if_neg h

end

/-- Settles O24: a press is held by the gate, or taken by the rule of the Bay State in force. -/
theorem pressIsTakenByTheBayState : Obligations.PressIsTakenByTheBayState := by
  intro s b hsense level after gated heard
  have hafter (f : BayControl → BayControl) : after f = (s.pressNext b).modBay b f :=
    (State.pressNext_modBay f).symm
  have hid : after id = s.pressNext b := State.modBay_quiet rfl
  refine ⟨fun ha => next_instantEnd (if_pos ⟨hsense, ha⟩), fun ha => ?_⟩
  clear_value after
  have htake := State.takeButtonPress_next hsense ha
  have hbay := State.pressNext_bay (s := s) (b := b)
  refine ⟨fun hdeaf => ?_, fun ⟨hreset, hpresent⟩ hgate => ?_, fun ⟨hreset, hpresent⟩ hfree hsupply => ?_⟩
  · have hdeaf' : (s.resetInProgress || (s.bay b).presentUndecided) = true := by
      cases hr : s.resetInProgress <;> cases hp : (s.bay b).presentUndecided <;> simp_all [heard]
    refine next_instantEnd (htake.trans ?_)
    rw [hid]
    have hheard : ((s.pressNext b).resetInProgress || ((s.pressNext b).bay b).presentUndecided) = true := by
      rw [hbay]
      exact hdeaf'
    unfold State.pressed State.press
    simp [hheard]
  · refine next_instantEnd (htake.trans ?_)
    rw [hid]
    refine (if_pos (by exact hgate)).trans (if_neg ?_)
    rw [hbay]
    simp [buttonTaken, State.pressNext, hreset, hpresent]
  · have hpress : takeButtonPress b s.nextInstant = (s.pressNext b).press b :=
      htake.trans (State.pressed_free (by exact hfree))
    have hheard : ((s.pressNext b).resetInProgress || ((s.pressNext b).bay b).presentUndecided ||
        (s.pressNext b).supply.accepted) = false := by
      rw [hbay]
      simp [buttonTaken, State.pressNext, hreset, hpresent, hsupply]
    have hstate : ((s.pressNext b).bay b).state = (s.bay b).state := by rw [hbay]; rfl
    have hprevent : ((s.pressNext b).bay b).prevent = (s.bay b).prevent := by rw [hbay]; rfl
    refine ⟨fun h => next_instantEnd ?_, fun h => next_instantEnd ?_, fun h => next_instantEnd ?_,
      fun h => next_instantEnd ?_, fun h hp => ?_⟩
    · rw [hid, hpress]
      rcases h with h | h | h <;> simp [State.press, hheard, hstate, h]
    · refine hpress.trans (Eq.trans ?_ (hafter _).symm)
      simp only [State.press, hheard, hstate, h]
      rfl
    · refine hpress.trans (Eq.trans ?_ (hafter _).symm)
      rcases h with h | ⟨h, hp⟩
      · simp [State.press, hheard, hstate, h]
      · simp [State.press, hheard, hstate, hprevent, h, hp]
    · refine hpress.trans (Eq.trans ?_ (hafter _).symm)
      simp [State.press, hheard, hstate, h]
    · have hreleasing : (s.pressNext b).press b = (s.pressNext b).enterReleasing b .ejecting := by
        simp [State.press, hheard, hstate, hprevent, h, hp]
      have hb := enterReleasing_bay (s := s.pressNext b) (b := b) .ejecting
      rw [hbay] at hb
      have hkept : ((s.pressNext b).enterReleasing b .ejecting).outer = s.outer :=
        State.outer_of_standing (s := s.pressNext b) (standing_enterReleasing ..)
      obtain ⟨hstatus, htable, hspare⟩ := enterReleasing_map (s := s.pressNext b) (b := b) .ejecting
      obtain ⟨hother, hmap⟩ := enterReleasing_other (s := s.pressNext b) (b := b) .ejecting
      refine ⟨_, next_instantEnd (hpress.trans hreleasing), congrArg (·.state) hb, congrArg (·.prevent) hb,
        congrArg (·.ejectRequested) hb, congrArg (·.idle) hb, congrArg (·.lock) hb, hstatus, htable, hspare,
        enterReleasing_ended .ejecting, (State.enterReleasing_frame ..).1,
        hother.trans (by simp [State.pressNext, State.bay]), hmap,
        congrArg (·.2.1) hkept, congrArg (·.1) hkept, congrArg (·.2.2.1) hkept, congrArg (·.2.2.2.1) hkept⟩

end Sys2Proof.Machine

/-!
PROOFS. The end of Reset in Progress (R176).
-/

namespace Sys2Proof.Machine

/-! ### What an insertion leaves where the link reports nothing -/

/-- The registers that an insertion changes only through the channel, the mount or a report. -/
structure Inner where
  channel : Channel
  slots : List Slot
  waiters : List Nat
  finishing : List Nat
  hostFields : HostFields
  link : Link
  pins : Pins

def State.inner (s : State) : Inner :=
  ⟨s.channel, s.slots, s.waiters, s.finishing, s.hostFields, s.link, s.pins⟩

/-- These registers as they were, where the link takes no report (R164). -/
def InnerKept (s t : State) : Prop := s.link.state.reports = false → t.inner = s.inner

section

variable {s t u : State} {b : Bay}

theorem InnerKept.refl (s : State) : InnerKept s s := fun _ => rfl

theorem InnerKept.trans (h : InnerKept s t) (k : InnerKept t u) : InnerKept s u := fun hs =>
  (k ((congrArg (·.link.state.reports) (h hs)).trans hs)).trans (h hs)

theorem InnerKept.report (x : Bool) : InnerKept s (s.report b x) := fun hs => by
  have hnotable : s.notable b = s := if_neg (by simp [hs])
  unfold State.report
  split
  · rw [hnotable]
  · rfl

theorem InnerKept.modBay (f : BayControl → BayControl) : InnerKept s (s.modBay b f) :=
  InnerKept.report (s := { s with bays := s.bays.update b f }) _

theorem InnerKept.modSpindle (f : Spindle → Spindle) : InnerKept s (s.modSpindle b f) :=
  InnerKept.report (s := { s with spindles := s.spindles.update b f }) _

theorem InnerKept.modPositioner (f : Positioner → Positioner) : InnerKept s (s.modPositioner b f) :=
  InnerKept.report (s := { s with positioners := s.positioners.update b f }) _

theorem InnerKept.modMap (f : DefectMap → DefectMap) : InnerKept s (s.modMap b f) :=
  InnerKept.report (s := { s with maps := s.maps.update b f }) _

theorem InnerKept.clearMount (hm : (s.map b).mountStage = .idle) : InnerKept s (s.clearMount b) := by
  unfold State.clearMount
  rw [State.endMount_idle hm]
  exact .modMap _

theorem InnerKept.insertCleared (hm : (s.map b).mountStage = .idle) : InnerKept s (s.insertCleared b) :=
  (InnerKept.modBay _).trans ((InnerKept.clearMount (by simpa using hm)).trans (.modMap _))

theorem InnerKept.insertSeated (hm : (s.map b).mountStage = .idle) : InnerKept s (s.insertSeated b) := by
  unfold State.insertSeated
  dsimp only
  split
  · exact (InnerKept.insertCleared hm).trans ((InnerKept.modBay _).trans ((InnerKept.modPositioner _).trans
      (.modSpindle _)))
  · exact (InnerKept.insertCleared hm).trans (.modBay _)

theorem InnerKept.requestPermit : InnerKept s (s.requestPermit b) := by
  unfold State.requestPermit
  dsimp only
  split
  · exact (InnerKept.modSpindle _).trans (InnerKept.modSpindle (s := { s.modSpindle b _ with permitHolder := some b }) _)
  · exact fun hs => InnerKept.modSpindle (s := s) _ hs

theorem InnerKept.spinUpRequest : InnerKept s (s.spinUpRequest b) := by
  unfold State.spinUpRequest
  repeat' split
  · exact .refl _
  · exact .requestPermit
  · exact .modSpindle _
  · exact .refl _

theorem InnerKept.lockAndSpin : InnerKept s (s.lockAndSpin b) := (InnerKept.modBay _).trans .spinUpRequest

/-- R5: an insertion where no mount is in progress and the channel is not granted. -/
theorem InnerKept.insert (hm : (s.map b).mountStage = .idle) (hg : s.channel.grant = none) :
    InnerKept s (s.insert b) := by
  rw [State.insert_eq]
  repeat' split
  · exact (InnerKept.insertSeated hm).trans .lockAndSpin
  · exact .insertSeated hm
  · have hcleared := InnerKept.insertCleared (b := b) hm
    intro hs
    have hchannel : (s.insertCleared b).channel.grant ≠ some b := by
      rw [show (s.insertCleared b).channel = s.channel from congrArg (·.channel) (hcleared hs), hg]
      exact nofun
    have hlost := State.loseChannel_idle (s := (s.insertCleared b).modBay b fun c =>
      { c with state := .fault, lock := true, faultClass := .headsOffRamp }) (b := b) (by simpa using hchannel)
    unfold State.insertStranded
    rw [hlost]
    exact hcleared.trans ((InnerKept.modBay _).trans (.modPositioner _)) hs

end

/-! ### The insertions at the end of Reset in Progress (R176) -/

section

variable {s : State} {b : Bay}

theorem State.insertPresent_inserted (h : (s.bay b).present.accepted = true)
    (hu : (s.bay b).presentUndecided = false) : s.insertPresent b = s.insert b :=
  if_pos ⟨h, by simp [hu]⟩

theorem State.insertPresent_absent (h : (s.bay b).present.accepted = false ∨ (s.bay b).presentUndecided = true) :
    s.insertPresent b = s :=
  if_neg fun ⟨hp, hd⟩ => h.elim (fun h => nomatch h.symm.trans hp) fun h => by simp [h] at hd

/-- An insertion that may not be made keeps the other bay and the registers of the part. -/
theorem State.insertPresent_frame : BayKept s (s.insertPresent b) b.other ∧
    (s.insertPresent b).outer = s.outer ∧ (s.insertPresent b).entries = s.entries := by
  obtain ⟨hentries, hsettings, hcounts, hports, hmem, hsupply, hreset⟩ := (s.insert_inserted b).kept
  obtain ⟨hbay, hspindle, hpositioner, hmap⟩ := (s.insert_inserted b).otherBay
  unfold State.insertPresent
  split
  · exact ⟨⟨hbay, hspindle, hpositioner, hmap⟩,
      by simp only [State.outer, hsettings, hcounts, hports, hmem, hsupply, hreset], hentries⟩
  · exact ⟨.refl _ _, rfl, rfl⟩

theorem InnerKept.insertPresent (hm : (s.map b).mountStage = .idle) (hg : s.channel.grant = none) :
    InnerKept s (s.insertPresent b) := by
  unfold State.insertPresent
  split
  · exact .insert hm hg
  · exact .refl _

/-- Each bay is inserted from the state as both stood, whatever the other bay's insertion did. -/
theorem State.insertPresent_both (u : State) (b : Bay) : ∃ w, BayKept u w b ∧ w.settings = u.settings ∧
    BayKept (w.insertPresent b) ((u.insertPresent .bay0).insertPresent .bay1) b := by
  cases b
  · exact ⟨u, .refl _ _, rfl, State.insertPresent_frame.1⟩
  · obtain ⟨hkept, houter, -⟩ := State.insertPresent_frame (s := u) (b := .bay0)
    exact ⟨u.insertPresent .bay0, hkept, congrArg (·.1) houter, .refl _ _⟩

end

theorem Fetch.inTake_iff (f : Fetch) : f.inTake = false ↔ f = .idle ∨ ∃ x, f = .writeFault x := by
  cases f <;> simp [Fetch.inTake]

theorem State.bayRunDown_iff (s : State) (b : Bay) : s.bayRunDown b = true ↔
    ((s.positioner b).state = .parked ∨ (s.positioner b).state = .fault) ∧
      (s.spindle b).phase = .stopped ∧ (s.bay b).lock = false := by
  simp [State.bayRunDown, and_assoc]

/-- R176: when Reset in Progress ends. -/
theorem State.resetEnds_iff (s : State) : s.resetEnds = true ↔
    s.resetInProgress = true ∧ s.entries = [] ∧ s.burst = none ∧ s.supply.accepted = false ∧
      (s.link.fetch = .idle ∨ ∃ f, s.link.fetch = .writeFault f) ∧
      ∀ b, ((s.positioner b).state = .parked ∨ (s.positioner b).state = .fault) ∧
        (s.spindle b).phase = .stopped ∧ (s.bay b).lock = false := by
  simp only [State.resetEnds, Bool.and_eq_true, Bool.not_eq_true', State.bayRunDown_iff, Fetch.inTake_iff,
    List.isEmpty_iff, Option.isNone_iff_eq_none]
  constructor
  · rintro ⟨⟨⟨⟨⟨⟨hr, he⟩, h0⟩, h1⟩, hb⟩, hf⟩, hs⟩
    exact ⟨hr, he, hb, hs, hf, fun b => by cases b <;> assumption⟩
  · rintro ⟨hr, he, hb, hs, hf, h⟩
    exact ⟨⟨⟨⟨⟨⟨hr, he⟩, h .bay0⟩, h .bay1⟩, hb⟩, hf⟩, hs⟩

/-- Settles O20: the blocks take their Bus Reset values, and each cartridge that is present is inserted. -/
theorem resetInProgressEnds : Obligations.ResetInProgressEnds := by
  intro s ended
  refine ⟨fun h => ?_, fun h => next_instantEnd (if_neg fun hends => h (s.resetEnds_iff.1 hends))⟩
  obtain ⟨-, hentries, -, -, -, -⟩ := id h
  let u := s.nextInstant.resetDone
  let t := (u.insertPresent .bay0).insertPresent .bay1
  have htake : takeResetEnd s.nextInstant = t := if_pos (s.resetEnds_iff.2 h)
  obtain ⟨hkept0, houter0, hentries0⟩ := State.insertPresent_frame (s := u) (b := .bay0)
  obtain ⟨-, houter1, hentries1⟩ := State.insertPresent_frame (s := u.insertPresent .bay0) (b := .bay1)
  have hinner0 := InnerKept.insertPresent (s := u) (b := .bay0) rfl rfl rfl
  have hinner1 := InnerKept.insertPresent (s := u.insertPresent .bay0) (b := .bay1)
    (congrArg DefectMap.mountStage hkept0.map) (congrArg (·.channel.grant) hinner0)
    (congrArg (·.link.state.reports) hinner0)
  have houter : t.outer = u.outer := houter1.trans houter0
  have hinner : t.inner = u.inner := hinner1.trans hinner0
  have hslots : t.slots = s.slots.map fun x => Slot.freed x.data := congrArg (·.slots) hinner
  have hchannel : t.channel = channelReset s.channel := congrArg (·.channel) hinner
  have hports : t.ports = { Ports.reset with dataOut := s.ports.dataOut } := congrArg (·.2.2.1) houter
  have hpresent (b : Bay) (w : State) (hu : BayKept u w b) : (w.bay b).present = (s.bay b).present ∧
      (w.bay b).presentUndecided = (s.bay b).presentUndecided := by
    rw [hu.bay]
    cases b <;> exact ⟨rfl, rfl⟩
  refine ⟨t, next_instantEnd htake, congrArg (·.2.2.2.2.2) houter, ?_, congrArg (·.finishing) hinner,
    congrArg (·.waiters) hinner, congrArg (·.link) hinner, congrArg (·.2.1) houter,
    congrArg (·.hostFields) hinner, congrArg Ports.anchor hports, congrArg Ports.badCommand hports,
    congrArg (·.1) houter, ?_, ?_, ?_, fun b => ?_, fun b hb hd => ?_, fun b hb => ?_,
    congrArg (·.2.2.2.1) houter, congrArg (·.pins) hinner⟩
  · exact hentries1.trans (hentries0.trans hentries)
  · rw [hslots]
    intro x hx
    obtain ⟨y, -, rfl⟩ := List.mem_map.1 hx
    rfl
  · rw [hslots, List.length_map]
  · rw [hchannel]
    exact ⟨rfl, rfl, rfl, rfl, rfl⟩
  · obtain ⟨w, hu, -, ht⟩ := u.insertPresent_both b
    rw [ht.map]
    by_cases hb : (w.bay b).present.accepted = true ∧ (w.bay b).presentUndecided = false
    · rw [State.insertPresent_inserted hb.1 hb.2]
      obtain ⟨hstatus, htable, -, hsoft, -⟩ := (w.insert_inserted b).unmounted
      exact ⟨hstatus, htable, hsoft⟩
    · rw [State.insertPresent_absent (by grind), hu.map]
      cases b <;> exact ⟨rfl, rfl, rfl⟩
  · obtain ⟨w, hu, hsettings, ht⟩ := u.insertPresent_both b
    obtain ⟨hp, hn⟩ := hpresent b w hu
    have hins := w.insert_inserted b
    rw [ht.bay, State.insertPresent_inserted (by rw [hp, hb]) (by rw [hn, hd])]
    have hwas : (w.bay b).generation = (s.bay b).generation ∧ (w.bay b).parkDetect = (s.bay b).parkDetect := by
      rw [hu.bay]
      cases b <;> exact ⟨rfl, rfl⟩
    have hauto : w.settings.autoLock = true := by rw [hsettings]; rfl
    have hgeneration := hins.generation
    rw [hwas.1] at hgeneration
    refine ⟨hgeneration, fun hpark => hins.locked (by rw [hwas.2, hpark]) hauto, fun hpark => ?_⟩
    obtain ⟨hstate, hfault, -⟩ := hins.offRamp (by rw [hwas.2, hpark])
    exact ⟨hstate, hfault⟩
  · obtain ⟨w, hu, -, ht⟩ := u.insertPresent_both b
    obtain ⟨hp, hn⟩ := hpresent b w hu
    rw [ht.bay, ht.spindle, ht.positioner, State.insertPresent_absent (by rw [hp, hn]; exact hb), hu.bay,
      hu.spindle, hu.positioner]
    cases b <;> exact ⟨rfl, rfl, rfl, rfl, rfl, rfl⟩

end Sys2Proof.Machine

/-!
PROOFS. What an event that stops a bay takes from it: the channel (R98, R99), the permit (R46), the heads
(R77); and from these the removals (R14, R15) and a Spin Fault (R41).
-/

namespace Sys2Proof.Machine

/-! ### The channel lost (R98, R99) -/

/-- The grant as it was, or taken from one bay. -/
def OnlyLoses (s t : State) (b : Bay) : Prop :=
  t.channel.grant = s.channel.grant ∨ (s.channel.grant = some b ∧ t.channel.grant = none)

namespace OnlyLoses

variable {s t u : State} {b c : Bay}

theorem of_channel (h : t.channel = s.channel) : OnlyLoses s t b := .inl (congrArg Channel.grant h)

theorem trans (h : OnlyLoses s t b) (k : OnlyLoses t u b) : OnlyLoses s u b := by
  unfold OnlyLoses at *
  grind

/-- A bay that does not hold the channel is not given it. -/
theorem not_grant (h : OnlyLoses s t b) (hg : s.channel.grant ≠ some c) : t.channel.grant ≠ some c := by
  unfold OnlyLoses at h
  grind

theorem same (h : OnlyLoses s t b) (hg : s.channel.grant ≠ some b) : t.channel.grant = s.channel.grant :=
  h.resolve_right fun k => hg k.1

theorem loseChannel : OnlyLoses s (s.loseChannel b) b := by
  by_cases hg : s.channel.grant = some b
  · exact .inr ⟨hg, by rw [State.loseChannel_channel hg]; rfl⟩
  · exact of_channel (by rw [State.loseChannel_idle hg])

theorem endMount : OnlyLoses s (s.endMount b) b := by
  unfold State.endMount
  dsimp only
  split
  · exact .inl rfl
  · have hcut : OnlyLoses s
        (if (s.map b).mountStage = .atChannel then (s.loseChannel b).withdrawWaiting b else s) b := by
      split
      · exact loseChannel.trans (.inl (State.withdrawWaiting_channel ..).2)
      · exact .inl rfl
    exact hcut.trans (of_channel (by simp))

theorem clearMount : OnlyLoses s (s.clearMount b) b := endMount.trans (of_channel (by simp [State.clearMount]))

theorem emergencyRetract : OnlyLoses s (s.emergencyRetract b) b := by
  unfold State.emergencyRetract
  split
  · exact loseChannel.trans (of_channel (by simp))
  · exact .inl rfl

theorem enterStopping : OnlyLoses s (s.enterStopping b) b := by
  have hpermit : OnlyLoses s ((s.modSpindle b stoppingEntered).releasePermit b) b := of_channel (by simp)
  exact ((hpermit.trans loseChannel).trans emergencyRetract).trans (of_channel (State.dropLoad_frame ..).2.2.2.1)

theorem stopRequest : OnlyLoses s (s.stopRequest b) b := by
  unfold State.stopRequest
  split
  · exact .inl rfl
  · exact of_channel (by simp)
  · exact of_channel (by simp)
  · exact enterStopping

theorem givePark (g : Giver) : OnlyLoses s (s.givePark b g) b := by
  have hreplace : OnlyLoses s ((s.replaceHeld b).endMount b) b := (of_channel (by simp)).trans endMount
  unfold State.givePark
  repeat' split
  · exact hreplace.trans (of_channel (by simp))
  · exact of_channel (by simp)
  · exact hreplace.trans (of_channel (by simp))
  · exact endMount.trans (of_channel (by simp))
  · exact of_channel (by simp)

end OnlyLoses

/-! ### The tasks, as orders handed back leave them (R59) -/

/-- What of an entry an order's outcome does not reach. -/
def Entry.progress (e : Entry) : Entry := { e with order := .idle }

def State.progress (s : State) : List Entry := s.entries.map Entry.progress

section

variable (s : State) (b : Bay)

theorem State.progress_congr {s t : State} (h : t.entries = s.entries) : t.progress = s.progress :=
  congrArg (List.map Entry.progress) h

@[simp] theorem State.progress_modPositioner (f : Positioner → Positioner) :
    (s.modPositioner b f).progress = s.progress := State.progress_congr (by simp)

@[simp] theorem State.progress_endMount : (s.endMount b).progress = s.progress := State.progress_congr (by simp)

@[simp] theorem State.progress_loseChannel : (s.loseChannel b).progress = s.progress :=
  State.progress_congr (by simp)

@[simp] theorem State.progress_beginRetract : (s.beginRetract b).progress = s.progress :=
  State.progress_congr (by simp)

@[simp] theorem State.progress_handBack (o : Order) (x : OrderState) : (s.handBack b o x).progress = s.progress := by
  unfold State.handBack
  split
  · rfl
  · exact State.progress_congr (by simp)
  next id =>
    simp only [State.progress, State.modEntry_entries, List.map_map]
    refine List.map_congr_left fun e _ => ?_
    simp only [Function.comp]
    split <;> [split; skip] <;> rfl

@[simp] theorem State.progress_handBack? (o : Option Order) (x : OrderState) :
    (s.handBack? b o x).progress = s.progress := by
  cases o
  · rfl
  · exact State.progress_handBack ..

@[simp] theorem State.progress_endOrder (x : OrderState) : (s.endOrder b x).progress = s.progress := by
  simp [State.endOrder]

@[simp] theorem State.progress_dropHeld (x : OrderState) : (s.dropHeld b x).progress = s.progress := by
  simp [State.dropHeld]

@[simp] theorem State.progress_emergencyRetract : (s.emergencyRetract b).progress = s.progress := by
  unfold State.emergencyRetract
  split <;> simp

@[simp] theorem State.progress_dropLoad : (s.dropLoad b).progress = s.progress := by
  unfold State.dropLoad
  split
  · exact State.progress_dropHeld ..
  · rfl

@[simp] theorem State.progress_enterStopping : (s.enterStopping b).progress = s.progress := by
  unfold State.enterStopping
  rw [State.progress_dropLoad, State.progress_emergencyRetract]
  exact State.progress_congr (by simp)

@[simp] theorem State.progress_replaceHeld : (s.replaceHeld b).progress = s.progress := by
  unfold State.replaceHeld
  split <;> simp

@[simp] theorem State.progress_holdPark (g : Giver) : (s.holdPark b g).progress = s.progress := by
  unfold State.holdPark
  split <;> simp

@[simp] theorem State.progress_givePark (g : Giver) : (s.givePark b g).progress = s.progress := by
  unfold State.givePark
  repeat' split
  all_goals simp

end

/-! ### The permit passed on (R46) -/

section

variable {s t u : State} {b : Bay}

theorem State.releasePermit_holder : (s.releasePermit b).permitHolder =
    if s.permitHolder = some b then s.permitWaiting else s.permitHolder := by
  unfold State.releasePermit
  split
  · split
    next hw => simp [State.grantPermit, hw]
    next hw => simp [hw]
  · rfl

/-- R46: the spindle that lets the permit go is not the one that is given it. -/
theorem State.releasePermit_spindle (hw : s.permitWaiting ≠ some b) :
    (s.releasePermit b).spindle b = s.spindle b := by
  unfold State.releasePermit
  split
  · split
    next w hwait =>
      have hne : b ≠ w := fun h => hw (h ▸ hwait)
      simp only [State.grantPermit, State.spindle_modSpindle, if_neg hne]
      rfl
    · rfl
  · rfl

/-! ### The heads (R61, R77) -/

theorem State.emergencyRetract_unloaded (h : (s.positioner b).state.loaded = false) : s.emergencyRetract b = s :=
  if_neg (by simp [h])

theorem State.emergencyRetract_positioner (h : (s.positioner b).state.loaded = true) :
    (s.emergencyRetract b).positioner b = retractBegun (s.bay b).parkDetect.accepted
      { s.positioner b with order := none, held := none, heldBehind := none } := by
  have hbays : (((s.loseChannel b).endOrder b .returned).dropHeld b .returned).bays = s.bays := by simp
  rw [State.emergencyRetract, if_pos h, beginRetract_positioner, dropHeld_positioner, endOrder_positioner,
    State.bay_congr hbays, State.positioner_congr (State.loseChannel_frame ..).2.2.2.1]

theorem State.dropLoad_positioner (h : (s.positioner b).state ≠ .parked) : s.dropLoad b = s := if_neg h

/-- The heads after an emergency retract and the stop's dropping of a held load. -/
theorem State.emergencyRetract_dropLoad : ((s.positioner b).state.loaded = true →
      ((s.emergencyRetract b).dropLoad b).positioner b = retractBegun (s.bay b).parkDetect.accepted
        { s.positioner b with order := none, held := none, heldBehind := none }) ∧
    ((s.positioner b).state.loaded = false →
      (((s.emergencyRetract b).dropLoad b).positioner b).state = (s.positioner b).state) := by
  refine ⟨fun h => ?_, fun h => ?_⟩
  · have hp := State.emergencyRetract_positioner h
    rw [State.dropLoad_positioner (by rw [hp]; exact nofun), hp]
  · rw [State.emergencyRetract_unloaded h, State.dropLoad_state]

/-! ### The registers of the bay beside -/

/-- The bay, actuator and map of one bay as they were; its spindle may be given the permit. -/
def SideKept (s t : State) (c : Bay) : Prop :=
  t.bay c = s.bay c ∧ t.positioner c = s.positioner c ∧ t.map c = s.map c

theorem SideKept.trans {c : Bay} (h : SideKept s t c) (k : SideKept t u c) : SideKept s u c :=
  ⟨k.1.trans h.1, k.2.1.trans h.2.1, k.2.2.trans h.2.2⟩

theorem SideKept.of_blocks {c : Bay} (hb : t.bays = s.bays) (hp : t.positioners = s.positioners)
    (hm : t.maps = s.maps) : SideKept s t c :=
  ⟨State.bay_congr hb c, State.positioner_congr hp c, State.map_congr hm c⟩

theorem BayKept.side {c : Bay} (h : BayKept s t c) : SideKept s t c := ⟨h.bay, h.positioner, h.map⟩

theorem SideKept.enterStopping : SideKept s (s.enterStopping b) b.other :=
  (SideKept.of_blocks (by simp) (by simp) (by simp)).trans
    (((BayKept.loseChannel _).trans BayKept.emergencyRetract).trans BayKept.dropLoad).side

theorem SideKept.stopRequest : SideKept s (s.stopRequest b) b.other := by
  unfold State.stopRequest
  split
  · exact .of_blocks rfl rfl rfl
  · exact (SideKept.of_blocks (by simp) (by simp) (by simp)).trans BayKept.dropLoad.side
  · exact .of_blocks (by simp) (by simp) (by simp)
  · exact .enterStopping

/-! ### The stop of a spindle (R30, R42) -/

theorem State.enterStopping_spindle (hw : s.permitWaiting ≠ some b) :
    (s.enterStopping b).spindle b = stoppingEntered (s.spindle b) := by
  unfold State.enterStopping
  rw [State.spindle_congr (State.dropLoad_frame ..).2.1, State.spindle_congr (State.emergencyRetract_frame ..).2.1,
    State.spindle_congr (State.loseChannel_frame ..).2.1, State.releasePermit_spindle (by simpa using hw)]
  simp

theorem State.enterStopping_holder : (s.enterStopping b).permitHolder =
    if s.permitHolder = some b then s.permitWaiting else s.permitHolder := by
  simp [State.enterStopping, State.releasePermit_holder]

/-- R42, R77: the heads of a spindle that stops. -/
theorem State.enterStopping_positioner : ((s.positioner b).state.loaded = true →
      (s.enterStopping b).positioner b = retractBegun (s.bay b).parkDetect.accepted
        { s.positioner b with order := none, held := none, heldBehind := none }) ∧
    ((s.positioner b).state.loaded = false →
      ((s.enterStopping b).positioner b).state = (s.positioner b).state) := by
  let u := ((s.modSpindle b stoppingEntered).releasePermit b).loseChannel b
  have hp : u.positioner b = s.positioner b := State.positioner_congr (by simp [u]) b
  have hb : u.bay b = s.bay b := State.bay_congr (by simp [u]) b
  have h := State.emergencyRetract_dropLoad (s := u) (b := b)
  rwa [hp, hb] at h

theorem State.enterStopping_grant : (s.enterStopping b).channel.grant ≠ some b :=
  (OnlyLoses.emergencyRetract.trans (.of_channel (State.dropLoad_frame ..).2.2.2.1)).not_grant
    (State.loseChannel_grant ((s.modSpindle b stoppingEntered).releasePermit b) b)

end

/-! ### Present accepted false (R6, R14, R15, R23) -/

section

variable {s : State} {b : Bay}

theorem takePresentFalse_accepted (hs : (s.bay b).sensing = true) (hu : (s.bay b).presentUndecided = false)
    (ha : (s.bay b).present.accepted = true) :
    takePresentFalse b s.nextInstant = (s.presentNext b false).removed b := by
  refine (if_pos ⟨hs, by exact congrArg not hu, ha⟩).trans ?_
  rw [State.setPresent_nextInstant]

/-- R6: which removal the Bay State makes of it. -/
theorem State.removed_eq : s.removed b =
    if (s.bay b).state = .empty then s
    else if (s.bay b).state = .seated ∨ (s.bay b).state = .ejecting ∨ s.resetInProgress = true then
      s.ordinaryRemoval b
    else s.unexpectedRemoval b := by
  unfold State.removed
  cases (s.bay b).state <;> simp

/-- R14: an ordinary removal. -/
theorem State.ordinaryRemoval_spec : (s.ordinaryRemoval b).bay b =
      { ejectStopped (s.bay b) with state := .empty, prevent := false, idle := none, idleStop := false } ∧
    (s.ordinaryRemoval b).channel.grant ≠ some b ∧
    ((s.ordinaryRemoval b).entries = s.entries.map fun e =>
      if e.names b && (e.stage == .ejecting || e.stage == .releasing) then completed e else e) ∧
    (s.ordinaryRemoval b).bay b.other = s.bay b.other := by
  unfold State.ordinaryRemoval
  refine ⟨?_, ?_, ?_, ?_⟩
  · rw [State.bay_congr (State.modEntries_bays ..), State.bay_modBay, if_pos rfl,
      State.bay_congr (State.loseChannel_frame ..).1]
  · simpa using s.loseChannel_grant b
  · simp
  · rw [State.bay_congr (State.modEntries_bays ..), State.bay_modBay, if_neg (by cases b <;> decide),
      State.bay_congr (State.loseChannel_frame ..).1]

/-- R15: the bay's record after an unexpected removal. -/
def BayControl.pulled (c : BayControl) : BayControl :=
  { ejectStopped c with
    lock := false, prevent := false, idle := none, retry := none, idleStop := false
    faultClass := .unexpectedRemoval, state := .empty }

/-- R15: an unexpected removal up to the stop of the spindle: the channel and the heads. -/
def State.pullHeads (s : State) (b : Bay) : State :=
  (((s.cutCopy b).loseChannel b).withdrawWaiting b).emergencyRetract b

theorem State.unexpectedRemoval_eq : s.unexpectedRemoval b =
    ((((s.pullHeads b).stopRequest b).endTasksOn b (fun _ => true) .mediaRemoved).clearMount b).modBay b
      BayControl.pulled := rfl

theorem State.pullHeads_spindles : (s.pullHeads b).spindles = s.spindles := by simp [State.pullHeads]

theorem State.pullHeads_bays : (s.pullHeads b).bays = s.bays := by simp [State.pullHeads]

theorem State.pullHeads_permitWaiting : (s.pullHeads b).permitWaiting = s.permitWaiting := by
  have k := permitWaiting_keptBase s.permitWaiting
  have hcut : (s.cutCopy b).permitWaiting = s.permitWaiting := by
    unfold State.cutCopy
    split
    · exact k.loseChannel rfl
    · rfl
  exact k.emergencyRetract (k.withdrawWaiting (k.loseChannel hcut))

theorem State.pullHeads_side : SideKept s (s.pullHeads b) b.other :=
  (SideKept.of_blocks (by simp) (by simp) (by simp)).trans (BayKept.emergencyRetract (b := b)).side

theorem State.pullHeads_retracts (h : (s.positioner b).state.loaded = true) :
    ((s.pullHeads b).positioner b).state = .retracting ∧ ((s.pullHeads b).positioner b).followEnable = false := by
  let u := ((s.cutCopy b).loseChannel b).withdrawWaiting b
  have hp : u.positioner b = s.positioner b := State.positioner_congr (by simp [u]) b
  have hpos : (s.pullHeads b).positioner b = _ := State.emergencyRetract_positioner (s := u) (by rw [hp]; exact h)
  rw [hpos]
  exact ⟨rfl, rfl⟩

/-- R127: the channel taken from the bay, and from the other where a Copy of both holds it there. -/
theorem State.cutCopy_grant : (s.copyBeside b = true → (s.cutCopy b).channel.grant ≠ some b.other) ∧
    (s.copyBeside b = false → s.cutCopy b = s) := by
  unfold State.cutCopy
  refine ⟨fun h => ?_, fun h => if_neg (by simp [h])⟩
  rw [if_pos h]
  exact State.loseChannel_grant _ _

theorem State.pullHeads_grant : OnlyLoses (s.cutCopy b) (s.pullHeads b) b ∧
    (s.pullHeads b).channel.grant ≠ some b := by
  have hwithdrawn (u : State) : OnlyLoses u (u.withdrawWaiting b) b := .inl (State.withdrawWaiting_channel ..).2
  exact ⟨(OnlyLoses.loseChannel.trans (hwithdrawn _)).trans .emergencyRetract,
    ((hwithdrawn _).trans .emergencyRetract).not_grant (State.loseChannel_grant _ _)⟩

/-- R30: the spindle after a stop request. -/
theorem State.stopRequest_phase (hw : s.waitingLaw) : ((s.stopRequest b).spindle b).phase =
    if (s.spindle b).phase = .stopped ∨ (s.spindle b).phase = .pending then .stopped else .stopping := by
  unfold State.stopRequest
  split
  next hp => simp [hp]
  next hp =>
    rw [State.spindle_congr (State.dropLoad_frame ..).2.1, State.leavePending]
    simp [hp, stoppedEntered]
  next hp => simp [hp]
  next h1 h2 h3 =>
    have hpending : s.permitWaiting ≠ some b := fun h => h2 (hw b h)
    rw [State.enterStopping_spindle hpending, if_neg (not_or.2 ⟨h1, h2⟩)]
    rfl

/-- R30: the heads that retract do so through the stop request. -/
theorem State.stopRequest_retracting (h : (s.positioner b).state = .retracting) :
    ((s.stopRequest b).positioner b).state = .retracting ∧
    ((s.stopRequest b).positioner b).followEnable = (s.positioner b).followEnable := by
  have hload (u : State) (hu : u.positioner b = s.positioner b) : u.dropLoad b = u :=
    State.dropLoad_positioner (by rw [hu, h]; exact nofun)
  have hkept : (s.stopRequest b).positioner b = s.positioner b := by
    unfold State.stopRequest
    split
    · rfl
    · rw [hload _ (State.positioner_congr (by simp) b)]
      exact State.positioner_congr (by simp) b
    · exact State.positioner_congr (by simp) b
    · let u := ((s.modSpindle b stoppingEntered).releasePermit b).loseChannel b
      have hu : u.positioner b = s.positioner b := State.positioner_congr (by simp [u]) b
      have hstill : u.emergencyRetract b = u := State.emergencyRetract_unloaded (by rw [hu, h]; rfl)
      have hstop : s.enterStopping b = u :=
        (congrArg (State.dropLoad · b) hstill).trans (hload _ hu)
      rw [hstop, hu]
  rw [hkept]
  exact ⟨h, rfl⟩

end

/-- Settles O22: by the Bay State in force an ordinary removal, an unexpected one, or a value only. -/
theorem presentFalseRemoves : Obligations.PresentFalseRemoves := by
  intro s b hs hu ha hwaits
  have htake := takePresentFalse_accepted hs hu ha
  let u := s.presentNext b false
  have hbay : u.bay b = presentTaken false (s.bay b) := State.presentNext_bay false
  have hstate : (u.bay b).state = (s.bay b).state := by rw [hbay]; rfl
  have hother : u.bay b.other = s.bay b.other := State.presentNext_other false
  rw [State.removed_eq, hstate] at htake
  refine ⟨fun h => ?_, fun h => next_instantEnd (htake.trans (if_pos h)), fun hseated heject hempty hreset => ?_⟩
  · have hempty : (s.bay b).state ≠ .empty := by
      rcases h with h | h | ⟨-, h⟩
      · simp [h]
      · simp [h]
      · exact h
    have hremoval : (s.bay b).state = .seated ∨ (s.bay b).state = .ejecting ∨ s.resetInProgress = true := by
      rcases h with h | h | ⟨h, -⟩
      · exact .inl h
      · exact .inr (.inl h)
      · exact .inr (.inr h)
    rw [if_neg hempty, if_pos (by exact hremoval)] at htake
    obtain ⟨hown, hgrant, hentries, hbeside⟩ := State.ordinaryRemoval_spec (s := u) (b := b)
    obtain ⟨hspindles, -, hpositioners, hmaps, -⟩ := State.ordinaryRemoval_frame u b
    have hout : (u.ordinaryRemoval b).outer = s.outer := State.outer_of_standing (s := u) (standing_ordinaryRemoval ..)
    rw [hbay] at hown
    exact ⟨_, next_instantEnd htake, hown, hgrant, hentries, hspindles, hpositioners, hmaps, hbeside.trans hother,
      congrArg (·.2.1) hout, congrArg (·.1) hout, congrArg (·.2.2.1) hout, congrArg (·.2.2.2.1) hout⟩
  · rw [if_neg hempty, if_neg (by simp [hseated, heject, State.presentNext, hreset])] at htake
    let v := u.pullHeads b
    let w := (v.stopRequest b).endTasksOn b (fun _ => true) .mediaRemoved
    have hout : (u.unexpectedRemoval b).outer = s.outer :=
      State.outer_of_standing (s := u) (standing_unexpectedRemoval ..)
    have ht : u.unexpectedRemoval b = (w.clearMount b).modBay b BayControl.pulled := State.unexpectedRemoval_eq
    have hspindles : (u.unexpectedRemoval b).spindles = (v.stopRequest b).spindles := by rw [ht]; simp [w]
    have hpositioners : (u.unexpectedRemoval b).positioners = (v.stopRequest b).positioners := by rw [ht]; simp [w]
    have hvwaits : v.waitingLaw := fun c hc => by
      rw [State.spindle_congr State.pullHeads_spindles]
      exact hwaits c ((State.pullHeads_permitWaiting (s := u)).symm.trans hc)
    have hphase := State.stopRequest_phase (b := b) hvwaits
    rw [State.spindle_congr (State.pullHeads_spindles (s := u)), show u.spindle b = s.spindle b from rfl] at hphase
    have hown : (u.unexpectedRemoval b).bay b = BayControl.pulled (presentTaken false (s.bay b)) := by
      rw [ht, State.bay_modBay, if_pos rfl, State.bay_congr (State.clearMount_frame ..).1,
        State.bay_congr (State.endTasksOn_frame ..).1, State.bay_congr (State.stopRequest_frame ..).1,
        State.bay_congr State.pullHeads_bays, hbay]
    have hlost : OnlyLoses v (u.unexpectedRemoval b) b := by
      rw [ht]
      have hended : OnlyLoses (v.stopRequest b) w b := .of_channel (State.endTasksOn_frame ..).2.2.2.2.2.1
      exact ((OnlyLoses.stopRequest.trans hended).trans .clearMount).trans (.of_channel (State.modBay_channel ..))
    obtain ⟨hheads, hgrant⟩ := State.pullHeads_grant (s := u) (b := b)
    obtain ⟨hcopy, halone⟩ := State.cutCopy_grant (s := u) (b := b)
    have hside : SideKept u (u.unexpectedRemoval b) b.other := by
      rw [ht]
      exact ((State.pullHeads_side.trans .stopRequest).trans (BayKept.endTasksOn ..).side).trans
        (BayKept.clearMount.trans (BayKept.modBay _)).side
    obtain ⟨hsidebay, hsidepos, hsidemap⟩ := hside
    refine ⟨_, next_instantEnd htake, ?_, ?_, hlost.not_grant hgrant, fun h => ?_, fun h hg => ?_, fun h => ?_,
      fun h => ?_, fun h1 h2 => ?_, ?_, hsidebay.trans hother, hsidepos, hsidemap,
      congrArg (·.2.1) hout, congrArg (·.1) hout, congrArg (·.2.2.1) hout, congrArg (·.2.2.2.1) hout⟩
    · rw [hown]
      exact ⟨rfl, rfl, rfl, rfl, rfl, rfl, rfl, rfl, rfl, rfl, rfl⟩
    · rw [ht, State.map_congr (State.modBay_maps ..)]
      exact State.clearMount_map
    · exact (hheads.trans hlost).not_grant (hcopy (by exact h))
    · have hstill : u.cutCopy b = u := halone (by exact h)
      have h := (hheads.trans hlost).same (by rw [hstill]; exact hg)
      rw [hstill] at h
      exact h
    · obtain ⟨hretracting, hfollow⟩ := State.pullHeads_retracts (s := u) (b := b) (by exact h)
      obtain ⟨hst, hfe⟩ := State.stopRequest_retracting hretracting
      rw [State.positioner_congr hpositioners]
      exact ⟨hst, hfe.trans hfollow⟩
    · rw [State.spindle_congr hspindles, hphase, if_pos h]
    · rw [State.spindle_congr hspindles, hphase, if_neg (not_or.2 ⟨h1, h2⟩)]
    · rw [ht]
      simpa using State.endTasksOn_ended (s := v.stopRequest b) (b := b) .mediaRemoved

end Sys2Proof.Machine

/-!
PROOFS. The acceptance of Supply Low (R173) and the recovery (R172, R174).
-/

namespace Sys2Proof.Machine

/-! ### The registers aside -/

/-- The registers of the part that no block's own operation changes, and the Link State. -/
def State.aside (s : State) :
    (Settings × Counts × Ports × Memory × Supply × Bool) × List Nat × List Nat × HostFields × LinkState :=
  (s.outer, s.waiters, s.finishing, s.hostFields, s.link.state)

section

variable (s : State) (b : Bay)

theorem State.aside_report (x : Bool) : (s.report b x).aside = s.aside := by
  unfold State.report State.notable
  split <;> [split; skip] <;> rfl

@[simp] theorem State.aside_modBay (f : BayControl → BayControl) : (s.modBay b f).aside = s.aside :=
  State.aside_report { s with bays := s.bays.update b f } b _

@[simp] theorem State.aside_modSpindle (f : Spindle → Spindle) : (s.modSpindle b f).aside = s.aside :=
  State.aside_report { s with spindles := s.spindles.update b f } b _

@[simp] theorem State.aside_modPositioner (f : Positioner → Positioner) : (s.modPositioner b f).aside = s.aside :=
  State.aside_report { s with positioners := s.positioners.update b f } b _

@[simp] theorem State.aside_modMap (f : DefectMap → DefectMap) : (s.modMap b f).aside = s.aside :=
  State.aside_report { s with maps := s.maps.update b f } b _

@[simp] theorem State.aside_modEntries (f : Entry → Entry) : (s.modEntries f).aside = s.aside := rfl

@[simp] theorem State.aside_modEntry (id : Nat) (f : Entry → Entry) : (s.modEntry id f).aside = s.aside := rfl

@[simp] theorem State.aside_modChannel (f : Channel → Channel) : (s.modChannel f).aside = s.aside := rfl

@[simp] theorem State.aside_dropSlots (p : Nat → Slot → Bool) : (s.dropSlots p).aside = s.aside := by
  refine State.foldl_field State.aside _ (fun s i => ?_) _ _
  unfold State.dropSlot
  split <;> rfl

@[simp] theorem State.aside_cutField : (s.cutField b).aside = s.aside := by
  unfold State.cutField
  repeat' split
  all_goals rfl

@[simp] theorem State.aside_loseChannel : (s.loseChannel b).aside = s.aside := by
  unfold State.loseChannel State.releaseChannel
  split <;> simp

@[simp] theorem State.aside_withdrawWaiting : (s.withdrawWaiting b).aside = s.aside := by
  unfold State.withdrawWaiting
  split <;> simp

@[simp] theorem State.aside_endMount : (s.endMount b).aside = s.aside := by
  unfold State.endMount State.freeMountSlots
  dsimp only
  repeat' split
  all_goals simp

@[simp] theorem State.aside_clearMount : (s.clearMount b).aside = s.aside := by simp [State.clearMount]

@[simp] theorem State.aside_handBack? (o : Option Order) (x : OrderState) : (s.handBack? b o x).aside = s.aside := by
  unfold State.handBack? State.handBack
  repeat' split
  all_goals simp

@[simp] theorem State.aside_emergencyHeads : (s.emergencyHeads b).aside = s.aside := by
  have hback : ((s.endOrder b .returned).dropHeld b .returned).aside = s.aside := by
    simp [State.endOrder, State.dropHeld]
  unfold State.emergencyHeads
  dsimp only
  split
  · exact (State.aside_modPositioner ..).trans hback
  · exact hback

@[simp] theorem State.aside_shutDown : (s.shutDown b).aside = s.aside := by simp [State.shutDown]

end

/-! ### One bay shut down (R173) -/

/-- What of a map an order handed back leaves. -/
def DefectMap.told (m : DefectMap) : DefectMap := { m with mountOrder := .idle }

section

variable {s : State} {b : Bay}

theorem State.handBack?_told (o : Option Order) (x : OrderState) (c : Bay) :
    ((s.handBack? b o x).map c).told = (s.map c).told := by
  unfold State.handBack? State.handBack
  repeat' split
  · rfl
  · rfl
  · rw [State.map_modMap]
    split
    next h =>
      rw [h]
      split <;> rfl
    · rfl
  · rfl

/-- R82: the heads and the orders at the acceptance. -/
theorem State.emergencyHeads_spec : (s.emergencyHeads b).bays = s.bays ∧
    (s.emergencyHeads b).channel = s.channel ∧ (s.emergencyHeads b).slots = s.slots ∧
    (s.emergencyHeads b).progress = s.progress ∧ ((s.emergencyHeads b).map b).told = (s.map b).told := by
  have hmaps : (((s.endOrder b .returned).dropHeld b .returned).map b).told = (s.map b).told := by
    unfold State.dropHeld State.endOrder
    rw [State.map_congr (State.modPositioner_maps ..), State.handBack?_told, State.handBack?_told,
      State.map_congr (State.modPositioner_maps ..), State.handBack?_told]
  unfold State.emergencyHeads
  dsimp only
  split
  · refine ⟨by simp, by simp, by simp, by simp, ?_⟩
    rw [State.map_congr (State.beginRetract_frame ..).2.2.2.1, hmaps]
  · exact ⟨by simp, by simp, by simp, by simp, hmaps⟩

theorem State.emergencyHeads_positioner : (s.emergencyHeads b).positioner b =
    if (s.positioner b).state.loaded = true ∨ (s.positioner b).state = .fault then
      retractBegun (s.bay b).parkDetect.accepted
        { s.positioner b with order := none, held := none, heldBehind := none }
    else { s.positioner b with order := none, held := none, heldBehind := none } := by
  have hback : ((s.endOrder b .returned).dropHeld b .returned).positioner b =
      { s.positioner b with order := none, held := none, heldBehind := none } := by
    rw [dropHeld_positioner, endOrder_positioner]
  have hbays : ((s.endOrder b .returned).dropHeld b .returned).bays = s.bays := by simp
  unfold State.emergencyHeads
  dsimp only
  split
  · rw [beginRetract_positioner, hback, State.bay_congr hbays]
  · exact hback

theorem BayKept.emergencyHeads : BayKept s (s.emergencyHeads b) b.other := by
  have hback := (BayKept.endOrder (s := s) (b := b) .returned).trans (BayKept.dropHeld .returned)
  unfold State.emergencyHeads
  dsimp only
  split
  · exact hback.trans BayKept.beginRetract
  · exact hback

theorem BayKept.shutDown : BayKept s (s.shutDown b) b.other := by
  unfold State.shutDown
  exact (((BayKept.clearMount).trans .emergencyHeads).trans (.modSpindle _)).trans (.modBay _)

theorem State.shutDown_bay : (s.shutDown b).bay b = supplyPlaced (s.bay b) := by
  unfold State.shutDown
  rw [State.bay_modBay, if_pos rfl, State.bay_congr (State.modSpindle_bays ..),
    State.bay_congr State.emergencyHeads_spec.1, State.bay_congr (State.clearMount_frame ..).1]

theorem State.shutDown_positioner : (s.shutDown b).positioner b =
    if (s.positioner b).state.loaded = true ∨ (s.positioner b).state = .fault then
      retractBegun (s.bay b).parkDetect.accepted
        { s.positioner b with order := none, held := none, heldBehind := none }
    else { s.positioner b with order := none, held := none, heldBehind := none } := by
  unfold State.shutDown
  rw [State.positioner_congr (State.modBay_positioners ..), State.positioner_congr (State.modSpindle_positioners ..),
    State.emergencyHeads_positioner, State.positioner_congr (State.clearMount_frame ..).2.2.2.1,
    State.bay_congr (State.clearMount_frame ..).1]

theorem State.shutDown_spindle :
    (s.shutDown b).spindle b = supplyStopped ((s.shutDown b).positioner b).state (s.spindle b) := by
  unfold State.shutDown
  dsimp only
  rw [State.spindle_congr (State.modBay_spindles ..), State.spindle_modSpindle, if_pos rfl,
    State.spindle_congr (State.emergencyHeads_frame ..).1, State.spindle_congr (State.clearMount_frame ..).2.1,
    State.positioner_congr (State.modBay_positioners ..), State.positioner_congr (State.modSpindle_positioners ..)]

theorem State.endMount_softErrors : ((s.endMount b).map b).softErrors = (s.map b).softErrors := by
  unfold State.endMount
  dsimp only
  split
  · rfl
  · rw [State.map_modMap, if_pos rfl]
    split <;> simp [State.map_congr (State.freeMountSlots_frame ..).2.2.2.2.1,
      State.map_congr (State.withdrawWaiting_frame ..).2.2.2.2.1, State.map_congr (State.loseChannel_frame ..).2.2.2.2.1]

theorem State.shutDown_map : ((s.shutDown b).map b).status = .none ∧ ((s.shutDown b).map b).table = [] ∧
    ((s.shutDown b).map b).nextSpare = 0 ∧ ((s.shutDown b).map b).softErrors = (s.map b).softErrors := by
  have htold := (State.emergencyHeads_spec (s := s.clearMount b) (b := b)).2.2.2.2
  have hsoft : ((s.clearMount b).map b).softErrors = (s.map b).softErrors := by
    simp [State.clearMount, State.endMount_softErrors]
  obtain ⟨hstatus, htable, hspare⟩ := s.clearMount_table b
  unfold State.shutDown
  dsimp only
  rw [State.map_congr (State.modBay_maps ..), State.map_congr (State.modSpindle_maps ..)]
  exact ⟨(congrArg DefectMap.status htold).trans hstatus, (congrArg DefectMap.table htold).trans htable,
    (congrArg DefectMap.nextSpare htold).trans hspare, (congrArg DefectMap.softErrors htold).trans hsoft⟩

theorem State.shutDown_progress : (s.shutDown b).progress = s.progress := by
  unfold State.shutDown
  have hentries (u : State) (q : Spindle → Spindle) (c : BayControl → BayControl) :
      ((u.modSpindle b q).modBay b c).progress = u.progress := State.progress_congr (by simp)
  exact (hentries ..).trans ((State.emergencyHeads_spec).2.2.2.1.trans (State.progress_congr (by simp)))

/-! ### The channel and the slots -/

/-- R129: a slot dropped leaves the free ones free. -/
theorem State.dropSlots_free (p : Nat → Slot → Bool) (h : ∀ x ∈ s.slots, x.state = .free) :
    ∀ x ∈ (s.dropSlots p).slots, x.state = .free := by
  refine foldl_keeps (P := fun s => ∀ x ∈ s.slots, x.state = .free) (fun {s i} h => ?_) _ h
  unfold State.dropSlot
  split
  · exact h
  · intro x hx
    obtain hx | ⟨y, -, rfl⟩ := mem_modify hx
    · exact h x hx
    · rfl

theorem State.foldl_dropSlot_free (l : List Nat) (s : State) (hb : s.burst = none)
    (h : ∀ i x, s.slots[i]? = some x → x.state ≠ .free → i ∈ l) :
    ∀ x ∈ (l.foldl State.dropSlot s).slots, x.state = .free := by
  induction l generalizing s with
  | nil =>
    intro x hx
    obtain ⟨i, hi⟩ := List.mem_iff_getElem?.1 hx
    by_contra hx
    exact nomatch h i x hi hx
  | cons j l ih =>
    have hdrop : s.dropSlot j = s.freeSlot j := if_neg (by simp [State.burstOn, hb])
    rw [List.foldl_cons, hdrop]
    refine ih (s.freeSlot j) hb fun i x hi hx => ?_
    have hget : (s.slots.modify j fun x => Slot.freed x.data)[i]? = some x := hi
    rw [List.getElem?_modify] at hget
    by_cases hij : j = i
    · simp only [hij, if_true] at hget
      obtain ⟨y, -, rfl⟩ := Option.map_eq_some_iff.1 hget
      exact absurd rfl hx
    · simp only [hij, if_false] at hget
      exact (List.mem_cons.1 (h i x (by simpa using hget) hx)).resolve_left fun e => hij e.symm

/-- R129: every slot that is not FREE dropped, with no burst in progress. -/
theorem State.dropSlots_all (hb : s.burst = none) :
    ∀ x ∈ (s.dropSlots fun _ x => x.state != .free).slots, x.state = .free := by
  refine State.foldl_dropSlot_free _ s hb fun i x hi hx => ?_
  obtain ⟨lt, rfl⟩ := List.getElem?_eq_some_iff.1 hi
  simp [State.slotsWhere, lt, hx]

/-- R111: a mount ended where nothing has or awaits the channel. -/
theorem State.endMount_free (hg : s.channel.grant = none) (hw : s.channel.waiting = none) :
    (s.endMount b).channel = s.channel ∧
      ((∀ x ∈ s.slots, x.state = .free) → ∀ x ∈ (s.endMount b).slots, x.state = .free) := by
  have hlose : s.loseChannel b = s := State.loseChannel_idle (by rw [hg]; exact nofun)
  have hwithdraw : s.withdrawWaiting b = s := if_neg (by rw [hw]; exact nofun)
  unfold State.endMount
  dsimp only
  rw [hlose, hwithdraw, ite_self]
  split
  · exact ⟨rfl, fun h => h⟩
  · refine ⟨by simp, fun h x hx => ?_⟩
    rw [State.modMap_slots] at hx
    exact State.dropSlots_free _ h x hx

theorem State.shutDown_channel (hg : s.channel.grant = none) (hw : s.channel.waiting = none) :
    (s.shutDown b).channel = s.channel ∧
      ((∀ x ∈ s.slots, x.state = .free) → ∀ x ∈ (s.shutDown b).slots, x.state = .free) := by
  obtain ⟨hchannel, hslots⟩ := State.endMount_free (b := b) hg hw
  obtain ⟨-, hch, hsl, -⟩ := State.emergencyHeads_spec (s := s.clearMount b) (b := b)
  unfold State.shutDown
  dsimp only
  simp only [State.modBay_channel, State.modSpindle_channel, State.modBay_slots, State.modSpindle_slots, hch, hsl]
  simp only [State.clearMount, State.modMap_channel, State.modMap_slots]
  exact ⟨hchannel, hslots⟩

/-- Each bay is shut down from the state as both stood. -/
theorem State.shutDown_both (u : State) (b : Bay) : ∃ w, BayKept u w b ∧
    BayKept (w.shutDown b) ((u.shutDown .bay0).shutDown .bay1) b := by
  cases b
  · exact ⟨u, .refl _ _, BayKept.shutDown⟩
  · exact ⟨u.shutDown .bay0, BayKept.shutDown, .refl _ _⟩

end

/-! ### The tasks at the acceptance (R154) -/

/-- A reading of the entries that an order's outcome does not touch. -/
theorem State.entries_of_progress {s t : State} {α : Type} {f : Entry → α} (hf : ∀ e, f e.progress = f e)
    (h : t.progress = s.progress) : t.entries.map f = s.entries.map f := by
  have hmap (u : State) : u.entries.map f = u.progress.map f := by
    simp only [State.progress, List.map_map]
    exact List.map_congr_left fun e _ => (hf e).symm
  rw [hmap, hmap, h]

theorem powerLost_end (e : Entry) : (powerLost e).id = e.id ∧ (powerLost e).state = e.state ∧
    (powerLost e).sectorsDone = e.sectorsDone ∧
    (powerLost e).ending = if e.state = .finishing then e.ending else some (e.ending.getD .powerLoss) := by
  unfold powerLost
  split
  next h =>
    have hstate : e.state ≠ .finishing := by simpa [Entry.unfinished] using h
    refine ⟨rfl, rfl, rfl, ?_⟩
    rw [if_neg hstate]
    cases e.ending <;> rfl
  next h =>
    have hstate : e.state = .finishing := by simpa [Entry.unfinished] using h
    exact ⟨rfl, rfl, rfl, by rw [if_pos hstate]⟩

/-! ### The part before its bays are shut down -/

section

variable {s : State}

theorem State.dropChannel_spec : s.dropChannel.channel =
      { releasedChannel s.channel with waiting := none, heldPress := none, retryCount := .both 0 } ∧
    s.dropChannel.bays = s.bays ∧ s.dropChannel.positioners = s.positioners ∧ s.dropChannel.maps = s.maps ∧
    s.dropChannel.entries = s.entries ∧ s.dropChannel.burst = s.burst ∧ s.dropChannel.aside = s.aside := by
  unfold State.dropChannel
  split <;> simp

theorem State.supplyLost_spec : s.supplyLost.channel =
      { releasedChannel s.channel with waiting := none, heldPress := none, retryCount := .both 0 } ∧
    s.supplyLost.bays = s.bays ∧ s.supplyLost.spindles = s.spindles ∧
    s.supplyLost.positioners = s.positioners ∧ s.supplyLost.maps = s.maps ∧
    s.supplyLost.entries = s.entries.map powerLost ∧
    s.supplyLost.aside = ({ s with supply := ⟨true, 0, some 0⟩, waiters := [] } : State).aside := by
  let u : State := { s with
    supply := ⟨true, 0, some 0⟩, permitHolder := none, permitWaiting := none, waiters := [] }
  obtain ⟨hchannel, hbays, hpositioners, hmaps, hentries, -, haside⟩ := State.dropChannel_spec (s := u)
  have hspindles := (State.dropChannel_frame u).1
  obtain ⟨hb, hs, -, hp, hm, hc, he⟩ :=
    State.dropSlots_frame (u.dropChannel.modEntries powerLost) (fun _ x => x.state != SlotState.free)
  refine ⟨hc.trans hchannel, hb.trans hbays, hs.trans hspindles, hp.trans hpositioners, hm.trans hmaps,
    he.trans (congrArg (List.map powerLost) hentries), ?_⟩
  exact (State.aside_dropSlots ..).trans ((State.aside_modEntries ..).trans haside)

theorem State.supplyLost_free (hb : s.burst = none) : ∀ x ∈ s.supplyLost.slots, x.state = .free := by
  let u : State := { s with
    supply := ⟨true, 0, some 0⟩, permitHolder := none, permitWaiting := none, waiters := [] }
  exact State.dropSlots_all (s := u.dropChannel.modEntries powerLost)
    ((State.dropChannel_spec (s := u)).2.2.2.2.2.1.trans hb)

end

/-- R44: the spindle of an actuator that retracts or is parked. -/
theorem supplyStopped_spec (a : Actuator) (q : Spindle) : (q.phase = .stopped → supplyStopped a q = q) ∧
    (q.phase = .pending → (supplyStopped a q).phase = .stopped) ∧
    (q.phase = .stopping → supplyStopped a q = { q with dutyActive := 0, pwm := false, restartHeld := false }) ∧
    (q.phase ≠ .stopped ∧ q.phase ≠ .pending ∧ q.phase ≠ .stopping → supplyStopped a q =
      { stoppingEntered q with
        dutyActive := 0, pwm := false, brakePending := false, brake := a == .parked || a == .fault
        brakeDeferred := !(a == .parked || a == .fault) }) := by
  unfold supplyStopped
  refine ⟨fun h => by rw [h], fun h => by rw [h]; rfl, fun h => by rw [h], fun ⟨h1, h2, h3⟩ => ?_⟩
  split
  · contradiction
  · contradiction
  · contradiction
  · rfl

/-- R173: the part shut down, before the link is halted. -/
structure ShutDownPart (s down : State) : Prop where
  channel : down.channel =
    { releasedChannel s.channel with waiting := none, heldPress := none, retryCount := .both 0 }
  aside : down.aside = ({ s with supply := ⟨true, 0, some 0⟩, waiters := [] } : State).aside
  permit : down.permitHolder = none ∧ down.permitWaiting = none
  tasks : down.entries.map (fun e => (e.id, e.state, e.ending, e.sectorsDone)) =
    s.entries.map (fun e => (e.id, e.state,
      if e.state = .finishing then e.ending else some (e.ending.getD .powerLoss), e.sectorsDone))
  slots : s.burst = none → ∀ x ∈ down.slots, x.state = .free
  bay : ∀ b, down.bay b = supplyPlaced (s.bay b)
  map : ∀ b, (down.map b).status = .none ∧ (down.map b).table = [] ∧ (down.map b).nextSpare = 0 ∧
    (down.map b).softErrors = (s.map b).softErrors
  positioner : ∀ b, down.positioner b =
    if (s.positioner b).state.loaded = true ∨ (s.positioner b).state = .fault then
      retractBegun (s.bay b).parkDetect.accepted
        { s.positioner b with order := none, held := none, heldBehind := none }
    else { s.positioner b with order := none, held := none, heldBehind := none }
  spindle : ∀ b, down.spindle b = supplyStopped (down.positioner b).state (s.spindle b)

/-- R173: the acceptance of Supply Low, block by block. -/
theorem takeSupplyLow_shutDown {s : State} (ha : s.supply.accepted = false) :
    ∃ down, takeSupplyLow s = down.supplyHalted ∧ ShutDownPart s down := by
  refine ⟨_, takeSupplyLow_eq ha, ?_⟩
  obtain ⟨hchannel, hbays, hspindles, hpositioners, hmaps, hentries, haside⟩ := State.supplyLost_spec (s := s)
  obtain ⟨hholder, hwaiter⟩ := s.supplyLost_permit
  have hfree := State.supplyLost_free (s := s)
  generalize s.supplyLost = lost at *
  have hgrant : lost.channel.grant = none := congrArg Channel.grant hchannel
  have hwaiting : lost.channel.waiting = none := congrArg Channel.waiting hchannel
  obtain ⟨hchannel0, hfree0⟩ := State.shutDown_channel (b := .bay0) hgrant hwaiting
  obtain ⟨hchannel1, hfree1⟩ := State.shutDown_channel (s := lost.shutDown .bay0) (b := .bay1)
    (by rw [hchannel0, hgrant]) (by rw [hchannel0, hwaiting])
  have hprogress : ((lost.shutDown .bay0).shutDown .bay1).progress = lost.progress :=
    State.shutDown_progress.trans State.shutDown_progress
  exact
    { channel := by rw [hchannel1, hchannel0, hchannel]
      aside := by rw [State.aside_shutDown, State.aside_shutDown, haside]
      permit := by
        obtain ⟨h0, w0⟩ := lost.shutDown_permit .bay0
        obtain ⟨h1, w1⟩ := (lost.shutDown .bay0).shutDown_permit .bay1
        exact ⟨h1.trans (h0.trans hholder), w1.trans (w0.trans hwaiter)⟩
      tasks := by
        refine (State.entries_of_progress (fun _ => rfl) hprogress).trans ?_
        rw [hentries, List.map_map]
        refine List.map_congr_left fun e _ => ?_
        obtain ⟨hid, hstate, hdone, hend⟩ := powerLost_end e
        simp only [Function.comp, hid, hstate, hdone, hend]
      slots := fun hb => hfree1 (hfree0 (hfree hb))
      bay := fun b => by
        obtain ⟨w, hw, hd⟩ := lost.shutDown_both b
        rw [hd.bay, State.shutDown_bay, hw.bay, State.bay_congr hbays]
      map := fun b => by
        obtain ⟨w, hw, hd⟩ := lost.shutDown_both b
        obtain ⟨hstatus, htable, hspare, hsoft⟩ := State.shutDown_map (s := w) (b := b)
        rw [hd.map]
        exact ⟨hstatus, htable, hspare, by rw [hsoft, hw.map, State.map_congr hmaps]⟩
      positioner := fun b => by
        obtain ⟨w, hw, hd⟩ := lost.shutDown_both b
        rw [hd.positioner, State.shutDown_positioner, hw.positioner, hw.bay, State.positioner_congr hpositioners,
          State.bay_congr hbays]
      spindle := fun b => by
        obtain ⟨w, hw, hd⟩ := lost.shutDown_both b
        rw [hd.spindle, State.shutDown_spindle, hw.spindle, State.spindle_congr hspindles, hd.positioner] }

/-- Settles O19: the channel, the tasks and their slots, each bay's heads, spindle and record, the link; and the
recovery. -/
theorem supplyLowAndItsRecovery : Obligations.SupplyLowAndItsRecovery := by
  intro s next recovered
  refine ⟨fun ha => ?_, fun ha => next_instantEnd (if_pos ha), fun ha => ?_,
    fun ha => next_instantEnd (if_neg (by exact ha ▸ nofun))⟩
  · obtain ⟨down, htake, hd⟩ := takeSupplyLow_shutDown (s := s.nextInstant) ha
    have haside := hd.aside
    simp only [State.aside, State.outer, Prod.mk.injEq] at haside
    obtain ⟨⟨hsettings, hcounts, hports, hmem, hsupply, hreset⟩, hwaiters, hfinishing, hhost, hlink⟩ := haside
    have hstate : down.link.state = s.link.state := hlink
    refine ⟨down.supplyHalted, next_instantEnd htake, hsupply, ?_, ⟨hd.permit.1, hd.permit.2, hwaiters⟩, hd.tasks,
      fun b => ?_, hd.map, fun b => ?_, fun b => ?_, fun h => ?_, fun h => ?_, hcounts, hsettings, hports, hmem,
      hd.slots, hfinishing, hreset, hhost⟩
    · rw [show down.supplyHalted.channel = down.channel from rfl, hd.channel]
      exact ⟨rfl, rfl, rfl, rfl, rfl, rfl, rfl, rfl⟩
    · rw [show down.supplyHalted.bay b = down.bay b from rfl, hd.bay]
      exact ⟨rfl, rfl, rfl, rfl, rfl, rfl, rfl, rfl, rfl, rfl, rfl, rfl⟩
    · rw [show down.supplyHalted.positioner b = down.positioner b from rfl, hd.positioner, State.nextInstant_positioner]
      refine ⟨fun h => ?_, fun h => ?_, ?_, ?_⟩
      · rw [if_pos h]
        exact ⟨rfl, rfl, rfl⟩
      · rw [if_neg (by rcases h with h | h <;> simp [h, Actuator.loaded])]
      · split <;> rfl
      · split <;> rfl
    · have hrest : ((down.positioner b).state == .parked || (down.positioner b).state == .fault) =
          decide ((s.positioner b).state = .parked) := by
        rw [hd.positioner, State.nextInstant_positioner]
        cases hst : (s.positioner b).state <;> simp [Actuator.loaded, retractBegun, hst]
      obtain ⟨hstopped, hpending, hstopping, hturning⟩ := supplyStopped_spec (down.positioner b).state (s.spindle b)
      rw [show down.supplyHalted.spindle b = down.spindle b from rfl, hd.spindle, State.nextInstant_spindle]
      refine ⟨hstopped, hpending, hstopping, fun h => ?_⟩
      rw [hturning h, hrest]
      exact ⟨rfl, rfl, rfl, rfl, rfl, by simp, rfl⟩
    · have hlow : linkHalted down.link = down.link :=
        if_neg (by rw [hstate]; rcases h with h | h <;> simp [h, LinkState.reports])
      exact (congrArg Link.state hlow).trans hstate
    · have hlow : linkHalted down.link = _ :=
        if_pos (by rw [hstate]; rcases h with h | h | h <;> simp [h, LinkState.reports])
      rw [show down.supplyHalted.link = linkHalted down.link from rfl, hlow]
      exact ⟨rfl, hstate, rfl, rfl⟩
  · have hquiet (t : State) (b : Bay) : t.modPositioner b headsRecovered =
        { t with positioners := t.positioners.update b headsRecovered } :=
      State.modPositioner_quiet (actuatorNotable_self _)
    refine next_instantEnd ((if_pos ha).trans ?_)
    rw [hquiet, hquiet]
    rfl

end Sys2Proof.Machine

/-!
PROOFS. A Spin Fault (R41) and the limits that bring it (R32, R33, R39, R40).
-/

namespace Sys2Proof.Machine

/-! ### The tasks at a Spin Fault (R41, R145, R146) -/

/-- R41, R146: what a Spin Fault makes of an entry. -/
def spinEnded (b : Bay) (f : FaultClass) (e : Entry) : Entry :=
  stopAwaited b (if e.names b && usesSpindle e then decided (spinResult f) 0 e else e)

theorem turnsAborted_spinResult (k : Option TaskKind) (f : FaultClass) : turnsAborted k (spinResult f) = false := by
  unfold spinResult
  split <;> rfl

theorem decided_spinResult (f : FaultClass) (e : Entry) : decided (spinResult f) 0 e =
    if e.state = .active ∧ e.ending = none then { e with ending := some (spinResult f), detail := 0 } else e := by
  unfold decided
  simp [turnsAborted_spinResult]

theorem stopAwaited_kept (b : Bay) (e : Entry) : (stopAwaited b e).id = e.id ∧
    (stopAwaited b e).state = e.state ∧ (stopAwaited b e).ending = e.ending := by
  unfold stopAwaited
  split <;> exact ⟨rfl, rfl, rfl⟩

theorem spinEnded_ending (b : Bay) (f : FaultClass) (e : Entry) : (spinEnded b f e).id = e.id ∧
    (spinEnded b f e).state = e.state ∧ (spinEnded b f e).ending =
      if e.names b && usesSpindle e && e.state == .active && e.ending.isNone then some (spinResult f)
      else e.ending := by
  unfold spinEnded
  obtain ⟨hid, hstate, hending⟩ := stopAwaited_kept b (if e.names b && usesSpindle e then decided (spinResult f) 0 e else e)
  rw [hid, hstate, hending, decided_spinResult]
  cases hn : e.names b && usesSpindle e
  · exact ⟨rfl, rfl, rfl⟩
  · simp only [Bool.true_and, Bool.and_eq_true, beq_iff_eq, Option.isNone_iff_eq_none, if_true]
    split <;> exact ⟨rfl, rfl, rfl⟩

theorem spinEnded_stage (b : Bay) (f : FaultClass) (e : Entry) : (spinEnded b f e).stage =
    if e.kind = some .spinDown ∧ e.names b = true ∧ e.state = .active ∧ e.ending = none ∧ e.stage = .parking then
      .stopping else e.stage := by
  unfold spinEnded
  by_cases hk : e.kind = some .spinDown
  · have huses : usesSpindle e = false := by simp [usesSpindle, hk, TaskKind.medium]
    rw [huses, Bool.and_false, if_neg nofun]
    unfold stopAwaited
    split <;> rfl
  · have hkept (x : Entry) (hx : x.kind = e.kind) : stopAwaited b x = x := if_neg fun h => hk (hx ▸ h.1)
    rw [if_neg (c := e.kind = some .spinDown ∧ _) fun h => hk h.1]
    split
    · rw [decided_spinResult]
      split
      · refine (congrArg Entry.stage (hkept _ ?_)).trans ?_ <;> rfl
      · rw [hkept e rfl]
    · rw [hkept e rfl]

/-! ### The Spin Fault -/

section

variable {s : State} {b : Bay} {f : FaultClass}

theorem State.client?_congr {t : State} (he : t.entries = s.entries) (hm : t.maps = s.maps) (c : Bay) :
    t.client? c = s.client? c := by
  unfold State.client?
  rw [he, State.map_congr hm]

theorem State.entry?_congr {t : State} (he : t.entries = s.entries) (id : Nat) : t.entry? id = s.entry? id := by
  unfold State.entry?
  rw [he]

/-- R41: the fault recorded, and the channel and the mount cut, before the spindle stops. -/
def State.spinCut (s : State) (b : Bay) (f : FaultClass) : State := ((s.recordFault b f).cutCopy b).endMount b

/-- R41: a Spin Fault without the retract of stranded heads. -/
def State.spinStopped (s : State) (b : Bay) (f : FaultClass) : State :=
  (((s.spinCut b f).enterStopping b).endTasksOn b usesSpindle (spinResult f)).modEntries (stopAwaited b)

theorem State.spinFault_eq : s.spinFault b f =
    if (s.bay b).state = .fault ∧ (s.positioner b).state = .fault then (s.spinStopped b f).givePark b .bay
    else s.spinStopped b f := rfl

theorem State.spinCut_frame : (s.spinCut b f).spindles = s.spindles ∧ (s.spinCut b f).positioners = s.positioners ∧
    (s.spinCut b f).permitHolder = s.permitHolder ∧ (s.spinCut b f).entries = s.entries ∧
    (s.spinCut b f).permitWaiting = s.permitWaiting ∧
    (s.spinCut b f).bay b = { s.bay b with faultClass := f } := by
  have k := permitWaiting_keptBase s.permitWaiting
  have hcut : ((s.recordFault b f).cutCopy b).permitWaiting = s.permitWaiting := by
    have hrecorded : (s.recordFault b f).permitWaiting = s.permitWaiting := State.modBay_permitWaiting ..
    unfold State.cutCopy
    split
    · exact k.loseChannel hrecorded
    · exact hrecorded
  refine ⟨by simp [State.spinCut], by simp [State.spinCut], by simp [State.spinCut], by simp [State.spinCut],
    k.endMount hcut, ?_⟩
  unfold State.spinCut
  rw [State.bay_congr (State.endMount_frame ..).1, State.bay_congr (State.cutCopy_frame ..).1]
  exact (State.bay_modBay ..).trans (if_pos rfl)

theorem State.spinCut_grant : (s.copyBeside b = true → (s.spinCut b f).channel.grant ≠ some b.other) ∧
    (s.copyBeside b = false → OnlyLoses s (s.spinCut b f) b) := by
  have hentries : (s.recordFault b f).entries = s.entries := State.modBay_entries ..
  have hclient := State.client?_congr hentries (State.modBay_maps ..) b.other
  have hentry := State.entry?_congr hentries
  have hbeside : (s.recordFault b f).copyBeside b = s.copyBeside b := by
    simp only [State.copyBeside, hclient, hentry]
  obtain ⟨hcopy, halone⟩ := State.cutCopy_grant (s := s.recordFault b f) (b := b)
  rw [hbeside] at hcopy halone
  refine ⟨fun h => OnlyLoses.endMount.not_grant (hcopy h), fun h => ?_⟩
  unfold State.spinCut
  rw [halone h]
  exact OnlyLoses.trans (.of_channel (State.modBay_channel ..)) .endMount

theorem State.spinCut_side : SideKept s (s.spinCut b f) b.other :=
  (BayKept.recordFault (b := b) f).side.trans
    ((SideKept.of_blocks (by simp) (by simp) (by simp)).trans (BayKept.endMount (b := b)).side)

theorem State.spinStopped_frame :
    (s.spinStopped b f).bays = ((s.spinCut b f).enterStopping b).bays ∧
    (s.spinStopped b f).spindles = ((s.spinCut b f).enterStopping b).spindles ∧
    (s.spinStopped b f).positioners = ((s.spinCut b f).enterStopping b).positioners ∧
    (s.spinStopped b f).maps = ((s.spinCut b f).enterStopping b).maps ∧
    (s.spinStopped b f).channel = ((s.spinCut b f).enterStopping b).channel ∧
    (s.spinStopped b f).permitHolder = ((s.spinCut b f).enterStopping b).permitHolder ∧
    (s.spinStopped b f).entries = ((s.spinCut b f).enterStopping b).entries.map (spinEnded b f) := by
  refine ⟨by simp [State.spinStopped], by simp [State.spinStopped], by simp [State.spinStopped],
    by simp [State.spinStopped], by simp [State.spinStopped], by simp [State.spinStopped], ?_⟩
  simp only [State.spinStopped, State.endTasksOn, State.modEntries_entries, List.map_map]
  rfl

/-- A reading of the tasks after a Spin Fault, whether or not the heads retract once more. -/
theorem State.spinFault_entries {α : Type} {h g : Entry → α} (hh : ∀ e, h e.progress = h e)
    (hg : ∀ e, g e.progress = g e) (heq : ∀ e, h (spinEnded b f e) = g e) : (s.spinFault b f).entries.map h = s.entries.map g := by
  have hstopped : (s.spinFault b f).progress = (s.spinStopped b f).progress := by
    rw [State.spinFault_eq]
    split
    · exact State.progress_givePark ..
    · rfl
  have hcut : ((s.spinCut b f).enterStopping b).progress = s.progress :=
    (State.progress_enterStopping ..).trans (State.progress_congr State.spinCut_frame.2.2.2.1)
  rw [State.entries_of_progress hh hstopped, State.spinStopped_frame.2.2.2.2.2.2, List.map_map,
    ← State.entries_of_progress hg hcut]
  exact List.map_congr_left fun e _ => heq e

/-- R41: a Spin Fault of a bay that does not wait for the permit. -/
theorem spinFault_faulted (hw : s.permitWaiting ≠ some b) : SpinFaulted s (s.spinFault b f) b f := by
  obtain ⟨hbays, hspindles, hpositioners, hmaps, hchannel, hholder, -⟩ := State.spinStopped_frame (s := s) (b := b) (f := f)
  obtain ⟨hcspindles, hcpositioners, hcholder, -, hcwaiting, hcbay⟩ := State.spinCut_frame (s := s) (b := b) (f := f)
  have hframe : (s.spinFault b f).bays = (s.spinStopped b f).bays ∧
      (s.spinFault b f).spindles = (s.spinStopped b f).spindles ∧
      (s.spinFault b f).permitHolder = (s.spinStopped b f).permitHolder := by
    rw [State.spinFault_eq]
    split <;> simp
  have hpos (h : (s.positioner b).state ≠ .fault) : (s.spinFault b f).positioner b =
      ((s.spinCut b f).enterStopping b).positioner b := by
    rw [State.spinFault_eq, if_neg fun k => h k.2]
    exact State.positioner_congr hpositioners b
  obtain ⟨hloaded, hstill⟩ := State.enterStopping_positioner (s := s.spinCut b f) (b := b)
  rw [State.positioner_congr hcpositioners] at hloaded hstill
  have hlost : OnlyLoses ((s.spinCut b f).enterStopping b) (s.spinFault b f) b := by
    refine OnlyLoses.trans (.of_channel hchannel) ?_
    rw [State.spinFault_eq]
    split
    · exact .givePark _
    · exact .inl rfl
  obtain ⟨hcopy, halone⟩ := State.spinCut_grant (s := s) (b := b) (f := f)
  have hside : SideKept s (s.spinFault b f) b.other := by
    refine ((State.spinCut_side.trans .enterStopping).trans (.of_blocks hbays hpositioners hmaps)).trans ?_
    rw [State.spinFault_eq]
    split
    · exact (BayKept.givePark _).side
    · exact .of_blocks rfl rfl rfl
  exact
    { faultClass := by
        rw [State.bay_congr hframe.1, State.bay_congr hbays, State.bay_congr (State.enterStopping_frame ..).1, hcbay]
        exact ⟨rfl, rfl⟩
      stopping := by
        rw [State.spindle_congr hframe.2.1, State.spindle_congr hspindles,
          State.enterStopping_spindle (by rw [hcwaiting]; exact hw)]
        exact ⟨rfl, rfl, rfl, rfl, rfl, rfl, rfl, rfl⟩
      permit := by rw [hframe.2.2, hholder, State.enterStopping_holder, hcholder, hcwaiting]
      retracts := fun h => by
        rw [hpos (by intro hf; simp [hf, Actuator.loaded] at h), hloaded h]
        exact ⟨rfl, rfl, rfl, rfl⟩
      onRamp := fun h => by
        rw [hpos (by rcases h with h | h <;> simp [h]), hstill (by rcases h with h | h <;> simp [h, Actuator.loaded])]
      channel := ⟨hlost.not_grant State.enterStopping_grant, fun hg hc =>
        (((halone hc).trans .enterStopping).trans hlost).same hg⟩
      copy := fun hc => (OnlyLoses.enterStopping.trans hlost).not_grant (hcopy hc)
      tasks := State.spinFault_entries (fun _ => rfl) (fun _ => rfl) fun e => by
        obtain ⟨hid, hstate, hending⟩ := spinEnded_ending b f e
        rw [hid, hstate, hending]
      spinDowns := State.spinFault_entries (fun _ => rfl) (fun _ => rfl) fun e => by
        rw [(spinEnded_ending b f e).1, spinEnded_stage b f e]
      otherBay := hside }

/-- A Spin Fault at a new instant, from the state before it. -/
theorem SpinFaulted.start {t : State} (h : SpinFaulted s.nextInstant t b f) : SpinFaulted s t b f :=
  ⟨h.faultClass, h.stopping, h.permit, h.retracts, h.onRamp, h.channel, h.copy, h.tasks, h.spinDowns, h.otherBay⟩

end

/-- Settles O36: each of the four limits is a Spin Fault in its phases, and nothing in the others. -/
theorem spindleLimitsAreSpinFaults : Obligations.SpindleLimitsAreSpinFaults := by
  intro s b hwaits phase next
  have hfault (f : FaultClass) (h : phase ≠ .pending) : SpinFaulted s (s.nextInstant.spinFault b f) b f ∧
      (s.nextInstant.spinFault b f).standing = next.standing :=
    ⟨(spinFault_faulted (s := s.nextInstant) fun hb => h (hwaits b hb)).start, standing_spinFault ..⟩
  refine ⟨fun h => ?_, fun h => ?_, fun h => ?_, fun h => ?_, fun h => next_instantEnd (if_neg h),
    fun h1 h2 => next_instantEnd (if_neg (not_or.2 ⟨h1, h2⟩)), fun h1 h2 h3 => next_instantEnd (if_neg ?_),
    fun h => next_instantEnd (if_neg h)⟩
  · exact ⟨_, next_instantEnd (if_pos h), hfault _ (by rw [h]; exact nofun)⟩
  · exact ⟨_, next_instantEnd (if_pos h), hfault _ (by rcases h with h | h <;> rw [h] <;> exact nofun)⟩
  · have hruns : phase.runsLaw = true := by rcases h with h | h | h <;> rw [h] <;> rfl
    exact ⟨_, next_instantEnd (if_pos hruns), hfault _ (by rcases h with h | h | h <;> rw [h] <;> exact nofun)⟩
  · exact ⟨_, next_instantEnd (if_pos h), hfault _ (by rw [h]; exact nofun)⟩
  · change ¬ phase.runsLaw = true
    cases hp : phase <;> simp_all [Phase.runsLaw]

end Sys2Proof.Machine

/-!
PROOFS. A tach mark (R26 to R39): the record it makes, the phase it decides and the law it runs.
-/

namespace Sys2Proof.Machine

/-! ### The waiter of the permit stands -/

section

variable (s : State) (b : Bay)

@[simp] theorem State.countRetry_permitWaiting (g : Giver) :
    (s.countRetry b g).permitWaiting = s.permitWaiting := by
  unfold State.countRetry
  split <;> simp

@[simp] theorem State.mountReadEnd_permitWaiting (st : MountStatus) (t : List RemapEntry) (n : Nat) :
    (s.mountReadEnd b st t n).permitWaiting = s.permitWaiting := by
  unfold State.mountReadEnd State.releaseOf State.releaseChannel State.freeMountSlots
  split <;> simp [State.dropSlots_permitWaiting]

@[simp] theorem State.failAttempt_permitWaiting (g : Giver) (f : FailKind) :
    (s.failAttempt b g f).permitWaiting = s.permitWaiting := by
  unfold State.failAttempt State.exhausted
  dsimp only
  repeat' split
  all_goals simp

@[simp] theorem State.indexFault_permitWaiting : (s.indexFault b).permitWaiting = s.permitWaiting := by
  unfold State.indexFault State.cutField State.releaseChannel
  repeat' split
  all_goals simp [State.freeSlot]

@[simp] theorem State.revolution_permitWaiting : (s.revolution b).permitWaiting = s.permitWaiting := by
  unfold State.revolution State.searchRevolution State.formatRevolution
  dsimp only
  repeat' split
  all_goals simp

@[simp] theorem State.interruptChannel_permitWaiting : (s.interruptChannel b).permitWaiting = s.permitWaiting := by
  unfold State.interruptChannel
  repeat' split
  all_goals simp [State.loseChannel_permitWaiting]

theorem State.releasePermit_waiting (hw : s.permitWaiting ≠ some b) : (s.releasePermit b).permitWaiting ≠ some b := by
  unfold State.releasePermit
  repeat' split
  · simp [State.grantPermit]
  · exact hw
  · exact hw

end

/-! ### The other bay -/

section

variable {s : State} {b : Bay}

theorem BayKept.revolution : BayKept s (s.revolution b) b.other := by
  have hslid : BayKept s ((s.modEntries (slipOver b)).modMap b fun m =>
      if m.mountStage = .slip then { m with mountStage := .atChannel } else m) b.other :=
    BayKept.trans (t := s.modEntries (slipOver b)) (BayKept.of_blocks rfl rfl rfl rfl) (BayKept.modMap _)
  have hsame (u v : State) (hb : v.bays = u.bays) (hs : v.spindles = u.spindles) (hp : v.positioners = u.positioners)
      (hm : v.maps = u.maps) : BayKept u v b.other := .of_blocks hb hs hp hm
  unfold State.revolution State.searchRevolution State.formatRevolution State.indexFault
  dsimp only
  repeat' split
  · exact (hslid.trans (hsame _ _ (by simp) (by simp) (by simp) (by simp))).trans (BayKept.failAttempt _ _)
  · exact hslid
  · exact hslid.trans (hsame _ _ (by simp) (by simp) (by simp) (by simp))
  · exact hslid.trans (hsame _ _ (by simp) (by simp) (by simp) (by simp))
  · exact hslid
  · exact hslid.trans (hsame _ _ (by simp) (by simp) (by simp) (by simp))
  · exact hslid
  · exact hslid

theorem BayKept.mountIfDue : BayKept s (s.mountIfDue b) b.other := by
  unfold State.mountIfDue State.beginMount
  split
  · exact ((BayKept.modMap _).trans (BayKept.modPositioner _)).trans (BayKept.giveOrder _)
  · exact .refl _ _

end

/-! ### A mark on the controller's own record -/

/-- R26, R27, R32: the record with a mark's period, count and timers. -/
def markTaken (elapsed : Nat) (q : Spindle) : Spindle := markTimed (markCounted (markRecorded elapsed q))

/-- R37: the stability check of a mark. -/
def stabilityDecided (t : Settings) (q : Spindle) : Spindle :=
  if stabilityMet t (stabilityCounted t q) then lockedEntered (stabilityCounted t q) else stabilityCounted t q

/-- R37, R38: the phase check of a mark. -/
def phaseDecided (t : Settings) (q : Spindle) : Spindle :=
  if q.phase = .accelerating ∨ q.phase = .drifting then stabilityDecided t q
  else if q.phase = .locked ∧ bandLeft t q = true then driftingEntered q
  else q

/-- R39: the check against Fly Speed. -/
def flyDecided (q : Spindle) : Spindle := if q.phase = .drifting ∧ speedLost q then stoppingEntered q else q

/-- What of the record the checks and the law leave. -/
def Spindle.measured (q : Spindle) : Nat × Nat × Bool × Nat × List Nat × Nat × Option Nat :=
  (q.activeTarget, q.dutyActive, q.pwm, q.speed, q.history, q.revCount, q.markTimer)

section

variable (t : Settings) (q : Spindle)

theorem stabilityDecided_kept : (stabilityDecided t q).measured = q.measured ∧
    (stabilityDecided t q).dutyStaging = q.dutyStaging ∧ (stabilityDecided t q).integrator = q.integrator := by
  unfold stabilityDecided
  split <;> exact ⟨rfl, rfl, rfl⟩

theorem phaseDecided_kept : (phaseDecided t q).measured = q.measured ∧
    (phaseDecided t q).dutyStaging = q.dutyStaging ∧ (phaseDecided t q).integrator = q.integrator := by
  unfold phaseDecided
  split
  · exact stabilityDecided_kept t q
  · split <;> exact ⟨rfl, rfl, rfl⟩

theorem flyDecided_kept : (flyDecided q).measured = q.measured ∧ (flyDecided q).integrator = q.integrator := by
  unfold flyDecided
  split <;> exact ⟨rfl, rfl⟩

theorem lawRun_kept : (lawRun t q).measured = q.measured ∧ (lawRun t q).phase = q.phase ∧
    (lawRun t q).inBand = q.inBand ∧ (lawRun t q).startTimer = q.startTimer ∧
    (lawRun t q).spinUpTimer = q.spinUpTimer ∧ (lawRun t q).driftTimer = q.driftTimer ∧
    (lawRun t q).stopTimer = q.stopTimer ∧ (lawRun t q).indexArmed = q.indexArmed ∧
    (lawRun t q).indexSince = q.indexSince ∧ (lawRun t q).missCount = q.missCount := by
  unfold lawRun
  split <;> exact ⟨rfl, rfl, rfl, rfl, rfl, rfl, rfl, rfl, rfl, rfl⟩

/-- R37: the count that the requirement is compared with. -/
theorem stabilityMet_iff : stabilityMet t q = true ↔ min 255 (32 * 2 ^ t.stability) ≤ q.inBand := by
  have hmarks : min 255 (stabilityMarks t.stability) = min 255 (32 * 2 ^ t.stability) := by
    unfold stabilityMarks
    omega
  simp only [stabilityMet, hmarks, decide_eq_true_iff]

end

/-! ### A mark on the state -/

section

variable {s : State} {b : Bay}

theorem State.enterSpindleLocked_spindle (hw : s.permitWaiting ≠ some b) :
    (s.enterSpindleLocked b).spindle b = lockedEntered (s.spindle b) ∧
      (s.enterSpindleLocked b).permitHolder ≠ some b := by
  let entered := ((s.modSpindle b lockedEntered).releasePermit b).mountIfDue b
  have hspindle : entered.spindle b = lockedEntered (s.spindle b) := by
    rw [State.spindle_congr (State.mountIfDue_frame ..).2.1, State.releasePermit_spindle (by simpa using hw),
      State.spindle_modSpindle, if_pos rfl]
  have hholder : entered.permitHolder ≠ some b := by
    rw [(State.mountIfDue_frame ..).2.2.1, State.releasePermit_holder]
    split
    · simpa using hw
    · assumption
  unfold State.enterSpindleLocked
  dsimp only
  split
  · rw [State.spindle_congr (State.givePark_frame ..).2.1, (State.givePark_frame ..).2.2]
    exact ⟨hspindle, hholder⟩
  · exact ⟨hspindle, hholder⟩

theorem SideKept.enterSpindleLocked : SideKept s (s.enterSpindleLocked b) b.other := by
  have hentered : SideKept s (((s.modSpindle b lockedEntered).releasePermit b).mountIfDue b) b.other :=
    (SideKept.of_blocks (by simp) (by simp) (by simp)).trans (BayKept.mountIfDue (b := b)).side
  unfold State.enterSpindleLocked
  dsimp only
  split
  · exact hentered.trans (BayKept.givePark _).side
  · exact hentered

theorem State.markStability_eq : s.markStability b =
    if stabilityMet s.settings (stabilityCounted s.settings (s.spindle b)) then
      (s.modSpindle b (stabilityCounted s.settings)).enterSpindleLocked b
    else s.modSpindle b (stabilityCounted s.settings) := by
  simp [State.markStability]

theorem State.markStability_spindle (hw : s.permitWaiting ≠ some b) :
    (s.markStability b).spindle b = stabilityDecided s.settings (s.spindle b) := by
  rw [State.markStability_eq, stabilityDecided]
  split
  · rw [(State.enterSpindleLocked_spindle (by simpa using hw)).1, State.spindle_modSpindle, if_pos rfl]
  · rw [State.spindle_modSpindle, if_pos rfl]

theorem State.enterDrifting_spindle : (s.enterDrifting b).spindle b = driftingEntered (s.spindle b) := by
  unfold State.enterDrifting
  rw [State.spindle_congr (State.interruptChannel_frame ..).2.1, State.spindle_modSpindle, if_pos rfl]

theorem State.markPhase_eq : s.markPhase b =
    if (s.spindle b).phase = .accelerating ∨ (s.spindle b).phase = .drifting then s.markStability b
    else if (s.spindle b).phase = .locked ∧ bandLeft s.settings (s.spindle b) = true then s.enterDrifting b
    else s := by
  unfold State.markPhase
  cases (s.spindle b).phase <;> simp

theorem State.markPhase_spindle (hw : s.permitWaiting ≠ some b) :
    (s.markPhase b).spindle b = phaseDecided s.settings (s.spindle b) := by
  rw [State.markPhase_eq, phaseDecided]
  split
  · exact State.markStability_spindle hw
  · split
    · exact State.enterDrifting_spindle
    · rfl

theorem State.markPhase_side : SideKept s (s.markPhase b) b.other := by
  have hstability : SideKept s (s.markStability b) b.other := by
    rw [State.markStability_eq]
    split
    · exact (BayKept.modSpindle _).side.trans .enterSpindleLocked
    · exact (BayKept.modSpindle _).side
  rw [State.markPhase_eq]
  split
  · exact hstability
  · split
    · exact ((BayKept.modSpindle _).trans BayKept.interruptChannel).side
    · exact .of_blocks rfl rfl rfl

/-- A spindle that a mark leaves DRIFTING does not wait for the permit. -/
theorem State.markPhase_waiting (hw : s.permitWaiting ≠ some b)
    (hp : ((s.markPhase b).spindle b).phase = .drifting) : (s.markPhase b).permitWaiting ≠ some b := by
  have hstability (hp : ((s.markStability b).spindle b).phase = .drifting) :
      (s.markStability b).permitWaiting ≠ some b := by
    rw [State.markStability_eq] at hp ⊢
    split at hp
    · rw [(State.enterSpindleLocked_spindle (by simpa using hw)).1] at hp
      exact absurd hp nofun
    next hmet =>
      rw [if_neg hmet]
      simpa using hw
  rw [State.markPhase_eq] at hp ⊢
  split at hp
  next hq =>
    rw [if_pos hq]
    exact hstability hp
  next hq =>
    rw [if_neg hq]
    split
    · simpa [State.enterDrifting] using hw
    · exact hw

/-- R39: below Fly Speed a mark in DRIFTING is a Spin Fault with Speed Lost. -/
theorem State.markFly_spindle (hw : (s.spindle b).phase = .drifting → s.permitWaiting ≠ some b) :
    (s.markFly b).spindle b = flyDecided (s.spindle b) := by
  unfold State.markFly flyDecided
  split
  next h =>
    obtain ⟨hspindles, -⟩ : (s.spinFault b .speedLost).spindles = (s.spinStopped b .speedLost).spindles ∧ True := by
      rw [State.spinFault_eq]
      split <;> simp
    obtain ⟨hcspindles, -, -, -, hcwaiting, -⟩ := State.spinCut_frame (s := s) (b := b) (f := .speedLost)
    rw [State.spindle_congr hspindles, State.spindle_congr State.spinStopped_frame.2.1,
      State.enterStopping_spindle (by rw [hcwaiting]; exact hw h.1), State.spindle_congr hcspindles]
  · rfl

/-! ### The mark taken whole -/

/-- R26: the state with a mark recorded and its revolution event given. -/
def State.markTold (s : State) (b : Bay) (n : Nat) : State :=
  (s.modSpindle b (markTaken n)).markRevolution b (markTurns (s.spindle b))

theorem takeMark_eq (n : Nat) (h : (s.spindle b).phase.takesMarks = true) : takeMark b n s =
    (((s.markTold b n).markPhase b).markFly b).modSpindle b (lawRun s.settings) := if_pos h

theorem State.markTold_frame (n : Nat) : (s.markTold b n).spindle b = markTaken n (s.spindle b) ∧
    (s.markTold b n).bays = s.bays ∧ (s.markTold b n).positioners = s.positioners ∧
    (s.markTold b n).permitHolder = s.permitHolder ∧ (s.markTold b n).permitWaiting = s.permitWaiting ∧
    (s.markTold b n).settings = s.settings ∧ (s.markTold b n).outer = s.outer := by
  have houter : (s.markTold b n).outer = s.outer :=
    (State.outer_of_standing (standing_markRevolution ..)).trans (State.outer_modSpindle ..)
  refine ⟨?_, ?_, ?_, ?_, ?_, congrArg (·.1) houter, houter⟩
  · have hspindles : (s.markTold b n).spindles = (s.modSpindle b (markTaken n)).spindles := by
      unfold State.markTold State.markRevolution
      split <;> simp
    rw [State.spindle_congr hspindles, State.spindle_modSpindle, if_pos rfl]
  all_goals
    unfold State.markTold State.markRevolution
    split <;> simp

theorem State.markTold_side (n : Nat) : SideKept s (s.markTold b n) b.other := by
  unfold State.markTold State.markRevolution
  split
  · exact ((BayKept.modSpindle _).trans .revolution).side
  · exact (BayKept.modSpindle _).side

/-- R26 to R39: the record a mark makes of a spindle that does not wait for the permit. -/
theorem takeMark_spindle (n : Nat) (h : (s.spindle b).phase.takesMarks = true) (hw : s.permitWaiting ≠ some b) :
    (takeMark b n s).spindle b =
      lawRun s.settings (flyDecided (phaseDecided s.settings (markTaken n (s.spindle b)))) := by
  obtain ⟨hspindle, -, -, -, hwaiting, hsettings, -⟩ := State.markTold_frame (s := s) (b := b) n
  have hw' : (s.markTold b n).permitWaiting ≠ some b := by rwa [hwaiting]
  rw [takeMark_eq n h, State.spindle_modSpindle, if_pos rfl, State.markFly_spindle (State.markPhase_waiting hw'),
    State.markPhase_spindle hw', hspindle, hsettings]

theorem State.markFly_side (hw : (s.spindle b).phase = .drifting → s.permitWaiting ≠ some b) :
    SideKept s (s.markFly b) b.other := by
  unfold State.markFly
  split
  next h => exact (spinFault_faulted (hw h.1)).otherBay
  · exact .of_blocks rfl rfl rfl

/-- What a mark leaves of the part and of the bay beside. -/
theorem takeMark_frame (n : Nat) (h : (s.spindle b).phase.takesMarks = true) (hw : s.permitWaiting ≠ some b) :
    (takeMark b n s).outer = s.outer ∧ SideKept s (takeMark b n s) b.other := by
  obtain ⟨-, -, -, -, hwaiting, -, houter⟩ := State.markTold_frame (s := s) (b := b) n
  have hw' : (s.markTold b n).permitWaiting ≠ some b := by rwa [hwaiting]
  rw [takeMark_eq n h]
  refine ⟨?_, ?_⟩
  · rw [State.outer_modSpindle, State.outer_of_standing (standing_markFly ..),
      State.outer_of_standing (standing_markPhase ..), houter]
  · exact (((State.markTold_side n).trans State.markPhase_side).trans
      (State.markFly_side (State.markPhase_waiting hw'))).trans (BayKept.modSpindle _).side

end

end Sys2Proof.Machine

/-!
PROOFS. What a mark records and regulates (R26 to R28, R34, R35) and the phase it decides (R32, R37 to R39).
-/

namespace Sys2Proof.Machine

/-! ### The record of a mark, phase by phase -/

/-- R26, R27: the record with a mark's period and count. -/
def markBase (n : Nat) (q : Spindle) : Spindle := markCounted (markRecorded n q)

section

variable {t : Settings} {n : Nat} {q : Spindle}

theorem markBase_eq : markBase n q = { q with
    markTimer := some 0, revCount := (q.revCount + 1) % 8, history := (markBase n q).history
    speed := (markBase n q).speed } := by
  unfold markBase markCounted markRecorded
  split <;> rfl

theorem markBase_first (h : q.markTimer = none) :
    (markBase n q).history = q.history ∧ (markBase n q).speed = q.speed := by
  unfold markBase markCounted markRecorded
  rw [h]
  exact ⟨rfl, rfl⟩

theorem markBase_next {m : Nat} (h : q.markTimer = some m) :
    (markBase n q).history = pushPeriod q.history (markPeriod (m + n)) ∧
      (markBase n q).speed = measuredSpeed (markBase n q).history := by
  unfold markBase markCounted markRecorded
  rw [h]
  exact ⟨rfl, rfl⟩

/-- R32, R43: the timers of a mark, by the phase in force at it. -/
theorem markTaken_starting (h : q.phase = .starting) (hl : (markBase n q).history.length < 8) :
    markTaken n q = { markBase n q with startTimer := some 0 } := by
  have hp : (markBase n q).phase = .starting := by rw [markBase_eq, h]
  change markTimed (markBase n q) = _
  simp only [markTimed, hp, if_pos hl]

theorem markTaken_filled (h : q.phase = .starting) (hl : ¬ (markBase n q).history.length < 8) :
    markTaken n q = { markBase n q with phase := .accelerating, startTimer := none, integrator := 0, inBand := 0 } := by
  have hp : (markBase n q).phase = .starting := by rw [markBase_eq, h]
  change markTimed (markBase n q) = _
  simp only [markTimed, hp, if_neg hl]

theorem markTaken_stopping (h : q.phase = .stopping) : markTaken n q = { markBase n q with stopTimer := some 0 } := by
  have hp : (markBase n q).phase = .stopping := by rw [markBase_eq, h]
  change markTimed (markBase n q) = _
  simp only [markTimed, hp]

theorem markTaken_other (h1 : q.phase ≠ .starting) (h2 : q.phase ≠ .stopping) : markTaken n q = markBase n q := by
  have hp : (markBase n q).phase = q.phase := by rw [markBase_eq]
  change markTimed (markBase n q) = _
  unfold markTimed
  rw [hp]
  split
  · contradiction
  · contradiction
  · rfl

/-- What a mark's record is in terms of the record before it, whatever the phase. -/
theorem markTaken_measured : (markTaken n q).measured =
    (q.activeTarget, q.dutyActive, q.pwm, (markBase n q).speed, (markBase n q).history, (q.revCount + 1) % 8, some 0) := by
  have hbase : (markBase n q).measured =
      (q.activeTarget, q.dutyActive, q.pwm, (markBase n q).speed, (markBase n q).history, (q.revCount + 1) % 8, some 0) := by
    conv_lhs => rw [markBase_eq]
    rfl
  rw [← hbase]
  change (markTimed (markBase n q)).measured = _
  unfold markTimed
  split <;> [split; skip; skip] <;> rfl

/-! ### The phase decided -/

theorem phaseDecided_idle (h1 : q.phase ≠ .accelerating) (h2 : q.phase ≠ .drifting) (h3 : q.phase ≠ .locked) :
    phaseDecided t q = q := by
  unfold phaseDecided
  rw [if_neg (not_or.2 ⟨h1, h2⟩), if_neg fun h => h3 h.1]

theorem phaseDecided_counting (h : q.phase = .accelerating ∨ q.phase = .drifting) :
    phaseDecided t q = stabilityDecided t q := if_pos h

theorem phaseDecided_locked (h : q.phase = .locked) :
    phaseDecided t q = if bandLeft t q = true then driftingEntered q else q := by
  unfold phaseDecided
  rw [if_neg (by simp [h])]
  simp [h]

theorem flyDecided_other (h : q.phase ≠ .drifting) : flyDecided q = q := if_neg fun k => h k.1

/-- R26 to R39: the record after the checks of a mark. -/
def markDecided (t : Settings) (n : Nat) (q : Spindle) : Spindle := flyDecided (phaseDecided t (markTaken n q))

theorem markDecided_kept : (markDecided t n q).measured = (markTaken n q).measured ∧
    (markDecided t n q).integrator = (markTaken n q).integrator :=
  ⟨(flyDecided_kept _).1.trans (phaseDecided_kept t _).1, (flyDecided_kept _).2.trans (phaseDecided_kept t _).2.2⟩

theorem stabilityDecided_phase : (stabilityDecided t q).phase = .locked ∨ (stabilityDecided t q).phase = q.phase := by
  unfold stabilityDecided
  split
  · exact .inl rfl
  · exact .inr rfl

/-- The phases that the checks lead to, and the duty of a stop. -/
theorem markDecided_phase (h : (markTaken n q).phase ≠ .starting) (h' : (markTaken n q).phase ≠ .stopping) :
    (markDecided t n q).phase ≠ .starting ∧
      ((markDecided t n q).phase = .stopping → (markDecided t n q).dutyStaging = 0) := by
  generalize hm : markTaken n q = m at h h'
  have hphase : (phaseDecided t m).phase ≠ .starting ∧ (phaseDecided t m).phase ≠ .stopping := by
    unfold phaseDecided
    split
    · obtain hl | hl := stabilityDecided_phase (t := t) (q := m) <;> rw [hl]
      · exact ⟨nofun, nofun⟩
      · exact ⟨h, h'⟩
    · split
      · exact ⟨nofun, nofun⟩
      · exact ⟨h, h'⟩
  unfold markDecided
  rw [hm]
  unfold flyDecided
  split
  · exact ⟨nofun, fun _ => rfl⟩
  · exact ⟨hphase.1, fun hs => absurd hs hphase.2⟩

/-- R32: the mark that fills the history counts at most one mark in the band, which is not yet enough. -/
theorem markDecided_filled (h : q.phase = .starting) (hl : ¬ (markBase n q).history.length < 8) :
    markDecided t n q = stabilityCounted t (markTaken n q) := by
  have hp : (markTaken n q).phase = .accelerating := by rw [markTaken_filled h hl]
  have hband : (stabilityCounted t (markTaken n q)).inBand ≤ 1 := by
    rw [markTaken_filled h hl]
    unfold stabilityCounted
    dsimp only
    split
    · exact Nat.le_refl 1
    · exact Nat.zero_le 1
  have hunmet : ¬ stabilityMet t (stabilityCounted t (markTaken n q)) = true := by
    rw [stabilityMet_iff]
    have : 1 ≤ 2 ^ t.stability := Nat.one_le_two_pow
    omega
  have hcounted : phaseDecided t (markTaken n q) = stabilityCounted t (markTaken n q) := by
    rw [phaseDecided_counting (.inl hp), stabilityDecided, if_neg hunmet]
  rw [markDecided, hcounted, flyDecided_other]
  change (markTaken n q).phase ≠ .drifting
  rw [hp]
  exact nofun

/-- A mark that leaves the spindle STARTING or STOPPING as it was passes the checks. -/
theorem markDecided_still (h : (markTaken n q).phase = .starting ∨ (markTaken n q).phase = .stopping) :
    markDecided t n q = markTaken n q := by
  have hidle : phaseDecided t (markTaken n q) = markTaken n q := by
    apply phaseDecided_idle <;> rcases h with h | h <;> rw [h] <;> exact nofun
  rw [markDecided, hidle, flyDecided_other (by rcases h with h | h <;> rw [h] <;> exact nofun)]

/-- Which of its cases a mark is. -/
theorem markTaken_cases (n : Nat) (q : Spindle) :
    (q.phase = .starting ∧ (markBase n q).history.length < 8 ∧ (markTaken n q).phase = .starting) ∨
    (q.phase = .starting ∧ ¬ (markBase n q).history.length < 8 ∧ (markTaken n q).phase = .accelerating) ∨
    (q.phase = .stopping ∧ (markTaken n q).phase = .stopping) ∨
    (q.phase ≠ .starting ∧ q.phase ≠ .stopping ∧ markTaken n q = markBase n q) := by
  have hbase : (markBase n q).phase = q.phase := by rw [markBase_eq]
  by_cases h : q.phase = .starting
  · by_cases hl : (markBase n q).history.length < 8
    · exact .inl ⟨h, hl, by rw [markTaken_starting h hl]; exact hbase.trans h⟩
    · exact .inr (.inl ⟨h, hl, by rw [markTaken_filled h hl]⟩)
  · by_cases h' : q.phase = .stopping
    · exact .inr (.inr (.inl ⟨h', by rw [markTaken_stopping h']; exact hbase.trans h'⟩))
    · exact .inr (.inr (.inr ⟨h, h', markTaken_other h h'⟩))

/-- R32: the Integrator that the law of a mark begins from. -/
theorem markTaken_integrator (h : (markTaken n q).phase ≠ .starting) :
    (markTaken n q).integrator = if q.phase = .starting then 0 else q.integrator := by
  have hbase : (markBase n q).integrator = q.integrator := by rw [markBase_eq]
  obtain ⟨-, -, hp⟩ | ⟨hq, hl, -⟩ | ⟨hq, -⟩ | ⟨hq, -, hm⟩ := markTaken_cases n q
  · exact absurd hp h
  · rw [if_pos hq, markTaken_filled hq hl]
  · rw [if_neg (by rw [hq]; exact nofun), markTaken_stopping hq]
    exact hbase
  · rw [if_neg hq, hm]
    exact hbase

/-! ### The law of a mark (R34, R35) -/

theorem lawRun_runs (h : q.phase.runsLaw = true) :
    lawRun t q = { q with
      dutyStaging := lawDuty t q.integrator (clampedError (errorOf q))
      integrator := lawIntegrator t q.integrator (clampedError (errorOf q)) } := if_pos h

theorem lawRun_idle (h : q.phase.runsLaw = false) : lawRun t q = q := if_neg (by simp [h])

theorem rawDuty_eq (i ec : Int) : rawDuty t i ec =
    (t.bias : Int) + (t.kp : Int) * ec / 64 + max (-1048576) (min 1048575 (i + (t.ki : Int) * ec)) / 1024 := by
  unfold rawDuty candidateIntegral floorDiv
  rw [clampInt_eq _ (by omega), Int.fdiv_eq_ediv_of_nonneg _ (by omega), Int.fdiv_eq_ediv_of_nonneg _ (by omega)]

theorem lawDuty_eq (i ec : Int) (h : t.dutyFloor ≤ t.dutyCeiling) :
    (lawDuty t i ec : Int) = max (t.dutyFloor : Int) (min (t.dutyCeiling : Int) (rawDuty t i ec)) := by
  unfold lawDuty
  rw [clampInt_eq _ (by omega)]
  omega

theorem lawIntegrator_eq (i ec : Int) : lawIntegrator t i ec =
    if ((t.dutyCeiling : Int) < rawDuty t i ec ∧ 0 < ec) ∨ (rawDuty t i ec < (t.dutyFloor : Int) ∧ ec < 0) then i
    else max (-1048576) (min 1048575 (i + (t.ki : Int) * ec)) := by
  unfold lawIntegrator candidateIntegral
  rw [clampInt_eq _ (by omega)]

end

section

variable {s : State} {b : Bay}

theorem takesMarks_iff (p : Phase) : p.takesMarks = true ↔ p ≠ .stopped ∧ p ≠ .pending := by
  cases p <;> simp [Phase.takesMarks]

/-- Settles O33: the record of the mark, and the speed law of the phase that its checks leave. -/
theorem markIsRecordedAndRegulated : Obligations.MarkIsRecordedAndRegulated := by
  intro s b n hwaits q
  refine ⟨fun h => next_instantEnd (if_neg ?_), fun h1 h2 => ?_⟩
  · change ¬ q.phase.takesMarks = true
    rw [takesMarks_iff]
    exact fun k => h.elim k.1 k.2
  have htakes : (s.nextInstant.spindle b).phase.takesMarks = true := (takesMarks_iff _).2 ⟨h1, h2⟩
  have hw : s.nextInstant.permitWaiting ≠ some b := fun hb => h2 (hwaits b hb)
  have hrecord : (takeMark b n s.nextInstant).spindle b = lawRun s.settings (markDecided s.settings n q) :=
    takeMark_spindle n htakes hw
  obtain ⟨houter, hbay, hpositioner, hmap⟩ := takeMark_frame n htakes hw
  refine ⟨_, rfl, ?_⟩
  rw [hrecord]
  generalize takeMark b n s.nextInstant = t at *
  set T := s.settings with hT
  obtain ⟨hmeasured, hintegrator⟩ := markDecided_kept (t := T) (n := n) (q := q)
  obtain ⟨hlaw, hphase, -⟩ := lawRun_kept T (markDecided T n q)
  have hall := hlaw.trans (hmeasured.trans markTaken_measured)
  simp only [Spindle.measured, Prod.mk.injEq] at hall
  obtain ⟨htarget, hactive, hpwm, hspeed, hhistory, hcount, htimer⟩ := hall
  have hspeed' : (markDecided T n q).speed = (markBase n q).speed :=
    congrArg (·.2.2.2.1) (hmeasured.trans markTaken_measured)
  have htarget' : (markDecided T n q).activeTarget = q.activeTarget :=
    congrArg (·.1) (hmeasured.trans markTaken_measured)
  intro r e ec i candidate draw
  refine ⟨htimer, hcount, fun h => ?_, fun m h => ?_, fun h hrange => ?_, fun h => ?_, fun h => ?_, htarget, hactive,
    hpwm, congrArg (·.1) houter, congrArg (·.2.1) houter, congrArg (·.2.2.1) houter, congrArg (·.2.2.2.1) houter,
    hbay, hpositioner, hmap⟩
  · obtain ⟨hh, hs⟩ := markBase_first (n := n) h
    exact ⟨hhistory.trans hh, hspeed.trans hs⟩
  · obtain ⟨hh, hs⟩ := markBase_next (n := n) h
    refine ⟨hhistory.trans ?_, hspeed.trans ?_⟩
    · rw [hh, pushPeriod, markPeriod, Nat.min_comm]
      split <;> rfl
    · rw [hs, measuredSpeed, show r.history = (markBase n q).history from hhistory, List.sum_eq_foldl]
      rfl
  · have hruns : (markDecided T n q).phase.runsLaw = true := by
      rw [← hphase]
      rcases h with h | h | h <;> rw [show (lawRun T (markDecided T n q)).phase = _ from h] <;> rfl
    have hturning : (markTaken n q).phase ≠ .starting := fun hs => by
      rw [markDecided_still (.inl hs), hs] at hruns
      exact nomatch hruns
    have hi : (markDecided T n q).integrator = i := hintegrator.trans (markTaken_integrator hturning)
    have he : errorOf (markDecided T n q) = e := by
      change (((markDecided T n q).activeTarget : Int) * 16 - ((markDecided T n q).speed : Int)) = e
      rw [htarget', hspeed']
      exact congrArg (fun x : Nat => (q.activeTarget : Int) * 16 - (x : Int)) hspeed.symm
    have hclamped : clampedError (errorOf (markDecided T n q)) = ec := by
      rw [he]
      exact clampInt_eq _ (by omega)
    have hr : r = _ := lawRun_runs hruns
    rw [hi, hclamped] at hr
    have hdraw : rawDuty T i ec = draw := rawDuty_eq i ec
    rw [hr]
    exact ⟨(lawDuty_eq i ec hrange).trans (by rw [hdraw]), (lawIntegrator_eq i ec).trans (by rw [hdraw])⟩
  · have hstarting : (markDecided T n q).phase = .starting := hphase.symm.trans h
    have hbase : (markBase n q).dutyStaging = q.dutyStaging ∧ (markBase n q).integrator = q.integrator := by
      rw [markBase_eq]
      exact ⟨rfl, rfl⟩
    obtain ⟨hq, hl, hm⟩ | ⟨hq, hl, -⟩ | ⟨-, hm⟩ | ⟨hq, hq', hm⟩ := markTaken_cases n q
    · have hr : r = { markBase n q with startTimer := some 0 } := by
        change lawRun T (markDecided T n q) = _
        rw [lawRun_idle (by rw [hstarting]; rfl), markDecided_still (.inl hm), markTaken_starting hq hl]
      rw [hr]
      exact hbase
    · rw [markDecided_filled hq hl, markTaken_filled hq hl] at hstarting
      exact nomatch hstarting
    · rw [markDecided_still (.inr hm), hm] at hstarting
      exact nomatch hstarting
    · have hp : (markTaken n q).phase = q.phase := by rw [hm, markBase_eq]
      exact absurd hstarting (markDecided_phase (by rwa [hp]) (by rwa [hp])).1
  · have hstopping : (markDecided T n q).phase = .stopping := hphase.symm.trans h
    have hr : r = markDecided T n q := lawRun_idle (by rw [hstopping]; rfl)
    have hbase : (markBase n q).dutyStaging = q.dutyStaging ∧ (markBase n q).integrator = q.integrator := by
      rw [markBase_eq]
      exact ⟨rfl, rfl⟩
    rw [hr]
    obtain ⟨-, -, hm⟩ | ⟨hq, hl, -⟩ | ⟨hq, hm⟩ | ⟨hq, hq', hm⟩ := markTaken_cases n q
    · rw [markDecided_still (.inl hm), hm] at hstopping
      exact nomatch hstopping
    · rw [markDecided_filled hq hl, markTaken_filled hq hl] at hstopping
      exact nomatch hstopping
    · rw [markDecided_still (.inr hm), markTaken_stopping hq]
      exact ⟨hbase.2, .inr hbase.1⟩
    · have hp : (markTaken n q).phase = q.phase := by rw [hm, markBase_eq]
      refine ⟨?_, .inl ((markDecided_phase (by rwa [hp]) (by rwa [hp])).2 hstopping)⟩
      rw [hintegrator, hm]
      exact hbase.2

/-! ### The phase after a mark (R32, R37 to R39, R42) -/

theorem State.markPhase_counting (h : (s.spindle b).phase = .accelerating ∨ (s.spindle b).phase = .drifting) :
    s.markPhase b = s.markStability b := by rw [State.markPhase_eq, if_pos h]

theorem State.markPhase_left (h : (s.spindle b).phase = .locked) (hb : bandLeft s.settings (s.spindle b) = true) :
    s.markPhase b = s.enterDrifting b := by
  rw [State.markPhase_eq, if_neg (by rw [h]; simp), if_pos ⟨h, hb⟩]

theorem State.markFly_still (h : (s.spindle b).phase ≠ .drifting) : s.markFly b = s := if_neg fun k => h k.1

theorem State.markFly_fault (h : (s.spindle b).phase = .drifting) (hl : speedLost (s.spindle b) = true) :
    s.markFly b = s.spinFault b .speedLost := if_pos ⟨h, hl⟩

/-- R39: what the check against Fly Speed does to the channel and the bay. -/
theorem State.markFly_spec (hw : (s.spindle b).phase = .drifting → s.permitWaiting ≠ some b) :
    (s.channel.grant ≠ some b → (s.markFly b).channel.grant ≠ some b) ∧
    ((s.spindle b).phase = .drifting → speedLost (s.spindle b) = true →
      ((s.markFly b).bay b).faultClass = .speedLost) := by
  by_cases h : (s.spindle b).phase = .drifting ∧ speedLost (s.spindle b) = true
  · have hfault := spinFault_faulted (f := .speedLost) (hw h.1)
    rw [State.markFly_fault h.1 h.2]
    exact ⟨fun _ => hfault.channel.1, fun _ _ => hfault.faultClass.1⟩
  · have hstill : s.markFly b = s := if_neg h
    rw [hstill]
    exact ⟨fun hg => hg, fun h1 h2 => absurd ⟨h1, h2⟩ h⟩

theorem stabilityDecided_met {T : Settings} {q : Spindle} (h : stabilityMet T (stabilityCounted T q) = true) :
    stabilityDecided T q = lockedEntered (stabilityCounted T q) := if_pos h

theorem stabilityDecided_unmet {T : Settings} {q : Spindle} (h : ¬ stabilityMet T (stabilityCounted T q) = true) :
    stabilityDecided T q = stabilityCounted T q := if_neg h

/-- R37: the count of a mark, as the manual states it, and whether it is enough. -/
theorem stabilityCounted_met {T : Settings} {q m : Spindle} (hm : m.inBand = q.inBand) (e : Int)
    (he : errorOf m = e) :
    let counted := if e.natAbs ≤ T.hysteresis then min 255 (q.inBand + 1) else 0
    (min 255 (32 * 2 ^ T.stability) ≤ counted → stabilityMet T (stabilityCounted T m) = true) ∧
    (counted < min 255 (32 * 2 ^ T.stability) → q.inBand ≤ 255 →
      ¬ stabilityMet T (stabilityCounted T m) = true ∧ (stabilityCounted T m).inBand = counted) := by
  have hin : (stabilityCounted T m).inBand = if e.natAbs ≤ T.hysteresis then raiseTo 255 q.inBand else 0 := by
    simp only [stabilityCounted, he, hm]
  have hle : min 255 (q.inBand + 1) ≤ raiseTo 255 q.inBand := by
    unfold raiseTo
    split <;> omega
  have heq : q.inBand ≤ 255 → raiseTo 255 q.inBand = min 255 (q.inBand + 1) := by
    unfold raiseTo
    intro h
    split <;> omega
  rw [stabilityMet_iff, hin]
  split
  · exact ⟨fun h => h.trans hle, fun h hq => ⟨by rw [heq hq]; omega, heq hq⟩⟩
  · exact ⟨fun h => h, fun h _ => ⟨by omega, rfl⟩⟩

/-- Settles O35: the phase that the checks of a mark leave, and what they do to the permit and the channel. -/
theorem markDecidesThePhase : Obligations.MarkDecidesThePhase := by
  intro s b n hwaits h1 h2
  have htakes : (s.nextInstant.spindle b).phase.takesMarks = true := (takesMarks_iff _).2 ⟨h1, h2⟩
  have hw : s.nextInstant.permitWaiting ≠ some b := fun hb => h2 (hwaits b hb)
  have hrecord : (takeMark b n s.nextInstant).spindle b = lawRun s.settings (markDecided s.settings n (s.spindle b)) :=
    takeMark_spindle n htakes hw
  have htake := takeMark_eq n htakes
  obtain ⟨htold, hbays, hpositioners, hholder, hwaiting, hsettings, -⟩ :=
    State.markTold_frame (s := s.nextInstant) (b := b) n
  refine ⟨_, rfl, ?_⟩
  intro q r e counted needed slow
  have hw' : (s.nextInstant.markTold b n).permitWaiting ≠ some b := by rwa [hwaiting]
  have hfly := State.markPhase_waiting hw'
  have hspindle := State.markPhase_spindle hw'
  rw [htold, hsettings] at hspindle
  let T := s.settings
  let u := s.nextInstant.markTold b n
  replace htold : u.spindle b = markTaken n q := htold
  replace hsettings : u.settings = T := hsettings
  replace hspindle : (u.markPhase b).spindle b = phaseDecided T (markTaken n q) := hspindle
  have hr : r = lawRun T (markDecided T n q) := hrecord
  obtain ⟨hgrant, hfault⟩ := State.markFly_spec hfly
  have htbay : ((takeMark b n s.nextInstant).bay b).faultClass = (((u.markPhase b).markFly b).bay b).faultClass := by
    rw [htake, State.bay_congr (State.modSpindle_bays ..)]
  have htholder : (takeMark b n s.nextInstant).permitHolder = ((u.markPhase b).markFly b).permitHolder := by
    rw [htake, State.modSpindle_permitHolder]
  have htgrant : (takeMark b n s.nextInstant).channel = ((u.markPhase b).markFly b).channel := by
    rw [htake, State.modSpindle_channel]
  have htpos : (takeMark b n s.nextInstant).positioner b = ((u.markPhase b).markFly b).positioner b := by
    rw [htake, State.positioner_congr (State.modSpindle_positioners ..)]
  obtain ⟨hmeasured, -⟩ := markDecided_kept (t := T) (n := n) (q := q)
  obtain ⟨hlaw, hphase, hinBand, hstart, hspin, hdrift, hstop, harmed, hsince, hmiss⟩ :=
    lawRun_kept T (markDecided T n q)
  rw [← hr] at hlaw hphase hinBand hstart hspin hdrift hstop harmed hsince hmiss
  have hrm := hlaw.trans (hmeasured.trans markTaken_measured)
  have hspeed : r.speed = (markBase n q).speed := congrArg (·.2.2.2.1) hrm
  have hhistory : r.history = (markBase n q).history := congrArg (·.2.2.2.2.1) hrm
  have hbaseErr (m : Spindle) (hs : m.speed = (markBase n q).speed) (ht : m.activeTarget = q.activeTarget) :
      errorOf m = e := by
    change ((m.activeTarget : Int) * 16 - (m.speed : Int)) = (q.activeTarget : Int) * 16 - (r.speed : Int)
    rw [hs, ht, hspeed]
  have hslow (m : Spindle) (hs : m.speed = (markBase n q).speed) (ht : m.activeTarget = q.activeTarget) :
      speedLost m = true ↔ slow := by
    change decide (m.speed < m.activeTarget * 16 * 7 / 8) = true ↔ r.speed < q.activeTarget * 16 * 7 / 8
    rw [decide_eq_true_iff, hs, ht, hspeed]
  have hbase : (markBase n q).phase = q.phase ∧ (markBase n q).inBand = q.inBand ∧
      (markBase n q).activeTarget = q.activeTarget := by
    rw [markBase_eq]
    exact ⟨rfl, rfl, rfl⟩
  refine ⟨fun hq => ⟨fun hl => ?_, fun hl => ?_⟩, fun hq => ?_, fun hq => ?_, fun hq => ?_, fun hq => ?_⟩
  · rw [hhistory] at hl
    have hm := markTaken_starting hq hl
    have hd : markDecided T n q = { markBase n q with startTimer := some 0 } := by
      rw [markDecided_still (.inl (by rw [hm]; exact hbase.1.trans hq)), hm]
    rw [hphase, hstart, hd]
    exact ⟨hbase.1.trans hq, rfl⟩
  · rw [hhistory] at hl
    have hm := markTaken_filled hq (Nat.not_lt.2 hl)
    have hd : markDecided T n q = stabilityCounted T (markTaken n q) := markDecided_filled hq (Nat.not_lt.2 hl)
    have herr : errorOf (markTaken n q) = e := hbaseErr _ (by rw [hm]) (by rw [hm]; exact hbase.2.2)
    rw [hphase, hstart, hinBand, hd]
    refine ⟨by rw [hm]; rfl, by rw [hm]; rfl, ?_⟩
    simp only [stabilityCounted, herr]
    rw [hm]
    rfl
  · have hm : markTaken n q = markBase n q := markTaken_other (by rw [hq]; exact nofun) (by rw [hq]; exact nofun)
    have hmp : (markBase n q).phase = .accelerating := hbase.1.trans hq
    obtain ⟨hmet, hunmet⟩ := stabilityCounted_met (T := T) hbase.2.1 e (hbaseErr _ rfl hbase.2.2)
    have hmark : u.markPhase b = u.markStability b := State.markPhase_counting (.inl (by rw [htold, hm]; exact hmp))
    rw [State.markStability_eq, hsettings, htold, hm] at hmark
    rw [hm, phaseDecided_counting (.inl hmp)] at hspindle
    have hd : markDecided T n q = flyDecided (stabilityDecided T (markBase n q)) := by
      rw [markDecided, hm, phaseDecided_counting (.inl hmp)]
    refine ⟨fun h => ?_, fun h hle => ?_⟩
    · have hdone := hmet h
      rw [stabilityDecided_met hdone] at hspindle hd
      rw [if_pos hdone] at hmark
      rw [flyDecided_other (show Phase.locked ≠ .drifting from nofun)] at hd
      rw [hphase, hinBand, hspin, harmed, hmiss, hsince, hd, htholder,
        State.markFly_still (by rw [hspindle]; exact nofun), hmark]
      exact ⟨rfl, rfl, rfl, rfl, rfl, rfl, (State.enterSpindleLocked_spindle (by simpa using hw')).2⟩
    · obtain ⟨hnot, hband⟩ := hunmet h hle
      have hcp : (stabilityCounted T (markBase n q)).phase ≠ .drifting := by
        change (markBase n q).phase ≠ .drifting
        rw [hmp]
        exact nofun
      rw [stabilityDecided_unmet hnot] at hspindle hd
      rw [if_neg hnot] at hmark
      rw [flyDecided_other hcp] at hd
      rw [hphase, hinBand, hd, htholder, State.markFly_still (by rw [hspindle]; exact hcp), hmark,
        State.modSpindle_permitHolder, hholder]
      exact ⟨hmp, hband, rfl⟩
  · have hm : markTaken n q = markBase n q := markTaken_other (by rw [hq]; exact nofun) (by rw [hq]; exact nofun)
    have hmp : (markBase n q).phase = .locked := hbase.1.trans hq
    have hleft : bandLeft T (markBase n q) = true ↔ 2 * T.hysteresis < e.natAbs := by
      rw [bandLeft, hbaseErr _ rfl hbase.2.2, decide_eq_true_iff]
    rw [hm, phaseDecided_locked hmp] at hspindle
    have hd : markDecided T n q = flyDecided (if bandLeft T (markBase n q) = true then driftingEntered (markBase n q)
        else markBase n q) := by
      rw [markDecided, hm, phaseDecided_locked hmp]
    refine ⟨fun h => ?_, fun h => ?_⟩
    · rw [if_neg fun k => Nat.not_lt.2 h (hleft.1 k), flyDecided_other (by rw [hmp]; exact nofun)] at hd
      rw [hphase, hd, hmp]
    · have hl := hleft.2 h
      rw [if_pos hl] at hspindle hd
      have hmark : u.markPhase b = u.enterDrifting b := by
        have htoldm : u.spindle b = markBase n q := htold.trans hm
        exact State.markPhase_left (by rw [htoldm]; exact hmp) (by rw [hsettings, htoldm]; exact hl)
      have hcut : (u.markPhase b).channel.grant ≠ some b := by
        rw [hmark]
        exact State.interruptChannel_grant _ _
      have hlost := hslow (driftingEntered (markBase n q)) rfl hbase.2.2
      refine ⟨by rw [htgrant]; exact hgrant hcut, fun hs => ?_, fun hs => ?_⟩
      · have hkeep : ¬ speedLost (driftingEntered (markBase n q)) = true := fun k => hs (hlost.1 k)
        have hstill : (u.markPhase b).markFly b = u.markPhase b :=
          if_neg fun k => hkeep (hspindle ▸ k.2)
        have hd' : markDecided T n q = driftingEntered (markBase n q) := hd.trans (if_neg fun k => hkeep k.2)
        rw [hphase, hinBand, hdrift, harmed, hd', htpos, hstill, hmark]
        refine ⟨rfl, rfl, rfl, rfl, ?_⟩
        have hpos : (u.enterDrifting b).positioners = u.positioners := by simp [State.enterDrifting]
        rw [State.positioner_congr hpos, State.positioner_congr hpositioners]
        rfl
      · have hgone := hlost.2 hs
        have hd' : markDecided T n q = stoppingEntered (driftingEntered (markBase n q)) := hd.trans (if_pos ⟨rfl, hgone⟩)
        rw [hphase, hstop, hd', htbay]
        exact ⟨rfl, rfl, hfault (by rw [hspindle]; rfl) (by rw [hspindle]; exact hgone)⟩
  · have hm : markTaken n q = markBase n q := markTaken_other (by rw [hq]; exact nofun) (by rw [hq]; exact nofun)
    have hmp : (markBase n q).phase = .drifting := hbase.1.trans hq
    obtain ⟨hmet, hunmet⟩ := stabilityCounted_met (T := T) hbase.2.1 e (hbaseErr _ rfl hbase.2.2)
    rw [hm, phaseDecided_counting (.inr hmp)] at hspindle
    have hd : markDecided T n q = flyDecided (stabilityDecided T (markBase n q)) := by
      rw [markDecided, hm, phaseDecided_counting (.inr hmp)]
    refine ⟨fun h => ?_, fun h hle => ?_⟩
    · rw [stabilityDecided_met (hmet h), flyDecided_other (show Phase.locked ≠ .drifting from nofun)] at hd
      rw [hphase, hinBand, hdrift, harmed, hd]
      exact ⟨rfl, rfl, rfl, rfl⟩
    · obtain ⟨hnot, hband⟩ := hunmet h hle
      rw [stabilityDecided_unmet hnot] at hspindle hd
      have hlost := hslow (stabilityCounted T (markBase n q)) rfl hbase.2.2
      refine ⟨fun hs => ?_, fun hs => ?_⟩
      · have hd' : markDecided T n q = stabilityCounted T (markBase n q) :=
          hd.trans (if_neg fun k => hs (hlost.1 k.2))
        rw [hphase, hinBand, hd']
        exact ⟨hmp, hband⟩
      · have hgone := hlost.2 hs
        have hd' : markDecided T n q = stoppingEntered (stabilityCounted T (markBase n q)) :=
          hd.trans (if_pos ⟨hmp, hgone⟩)
        rw [hphase, hstop, hd', htbay]
        exact ⟨rfl, rfl, hfault (by rw [hspindle]; exact hmp) (by rw [hspindle]; exact hgone)⟩
  · have hm : markTaken n q = { markBase n q with stopTimer := some 0 } := markTaken_stopping hq
    have hd : markDecided T n q = { markBase n q with stopTimer := some 0 } := by
      rw [markDecided_still (.inr (by rw [hm]; exact hbase.1.trans hq)), hm]
    rw [hphase, hstop, hd]
    exact ⟨hbase.1.trans hq, rfl⟩

end

end Sys2Proof.Machine

/-!
PROOFS. The failures of an attempt (R93, R94, R110), counted for the task or the mount that uses the channel.
-/

namespace Sys2Proof.Machine

section

variable {s : State} {b : Bay} {id : Nat} {e : Entry}

theorem State.modMap_id {f : DefectMap → DefectMap} (h : f (s.map b) = s.map b) : s.modMap b f = s := by
  rw [State.modMap_quiet (by rw [h]) (by rw [h]), PerBay.update_same h]

/-! ### The user of the channel (R89) -/

theorem State.entry?_mem (he : s.entry? id = some e) : e ∈ s.entries ∧ e.id = id :=
  ⟨List.mem_of_find?_eq_some he, by simpa using List.find?_some he⟩

/-- R89: the task that uses the channel on a bay is started, and waits there with its run. -/
theorem client_task (hc : s.client? b = some (.task id)) (hn : (s.entries.map Entry.id).Nodup)
    (he : s.entry? id = some e) :
    e.state = .active ∧ e.stage = .atChannel ∧ e.atChannelOn b = true ∧ (s.map b).mountStage ≠ .atChannel := by
  unfold State.client? at hc
  split at hc
  · cases hc
  next hmount =>
    obtain ⟨x, hx, hg⟩ := Option.map_eq_some_iff.1 hc
    have hid : x.id = id := by simpa using hg
    obtain ⟨hmem, heid⟩ := State.entry?_mem he
    have hxe : x = e := mem_unique hn (List.mem_of_find?_eq_some hx) hmem (hid.trans heid.symm)
    have hat : e.atChannelOn b = true := by
      have h := List.find?_some hx
      rwa [hxe] at h
    have hparts := hat
    simp only [Entry.atChannelOn, Bool.and_eq_true, beq_iff_eq] at hparts
    exact ⟨hparts.1.1, hparts.1.2, hat, hmount⟩

/-! ### The count of a failure -/

/-- R93: the sector retry count of a bay after one more failure. -/
def State.retriesNext (s : State) (b : Bay) : Nat := min 8 (s.channel.retryCount.get b + 1)

theorem raiseTo_eq (top n : Nat) : raiseTo top n = min top (n + 1) := by
  unfold raiseTo
  split <;> omega

/-- R93: the channel with one more failure counted. -/
def State.failedChannel (s : State) (b : Bay) : Channel :=
  { s.channel with retryCount := s.channel.retryCount.update b fun _ => s.retriesNext b }

/-- R93: the failure counted on the channel, before it reaches its user. -/
theorem State.failCounted_eq : (s.modChannel fun c => { c with retryCount := c.retryCount.update b (raiseTo 8) }) =
    s.modChannel fun _ => s.failedChannel b := by
  have h : s.channel.retryCount.update b (raiseTo 8) = s.channel.retryCount.update b fun _ => s.retriesNext b :=
    PerBay.update_congr (raiseTo_eq ..)
  simp only [State.modChannel, State.failedChannel, h]

theorem turnsAborted_exhausted (k j : Option TaskKind) (f : FailKind) :
    turnsAborted k (exhaustedResult j f) = false := by
  unfold exhaustedResult
  split <;> [rfl; rfl; rfl; split] <;> rfl

/-- R94, R102, R115: the result of a task whose search or field has failed. -/
theorem exhaustedResult_eq (k : Option TaskKind) (f : FailKind) : exhaustedResult k f =
    if k = some .reassign ∨ k = some .resetRecord ∨ k = some .formatTrack ∨ f = .data then .dataError
    else .idNotFound := by
  unfold exhaustedResult
  split <;> simp_all

theorem decided_plain {e : Entry} {r : Result} {d : Nat} (ha : e.state = .active)
    (hr : turnsAborted e.kind r = false) : ∃ n, decided r d e =
      { e with ending := if e.ending = none then some r else e.ending, detail := n } := by
  unfold decided
  by_cases hn : e.ending = none
  · exact ⟨d, by simp [ha, hn, hr]⟩
  · exact ⟨e.detail, by simp [hn]⟩

theorem retryCounted_eq (e : Entry) : retryCounted e = { e with retriesUsed := min 255 (e.retriesUsed + 1) } := by
  rw [retryCounted, raiseTo_eq]

/-! ### A task's attempt that fails -/

theorem State.failAttempt_task (f : FailKind) (ha : e.state = .active) (he : s.entry? id = some e) :
    (s.failAttempt b (.task id) f).channel = s.failedChannel b ∧
    (s.failAttempt b (.task id) f).maps = s.maps ∧ (s.failAttempt b (.task id) f).slots = s.slots ∧
    ∃ d, (s.failAttempt b (.task id) f).entry? id = some { e with
      retriesUsed := min 255 (e.retriesUsed + 1), detail := d
      ending := if e.ending = none ∧ s.allowance e < s.retriesNext b then some (exhaustedResult e.kind f)
        else e.ending } := by
  let counted := (s.modChannel fun _ => s.failedChannel b).modEntry id retryCounted
  have hcounted : counted.entry? id = some (retryCounted e) := State.entry?_modEntry (fun _ => rfl) he
  have hn : counted.channel.retryCount.get b = s.retriesNext b := by
    change (s.channel.retryCount.update b fun _ => s.retriesNext b).get b = _
    rw [PerBay.get_update_same]
  have hallow : s.allowanceOf (.task id) = s.allowance e := by simp [State.allowanceOf, he]
  have hfail : s.failAttempt b (.task id) f =
      if s.retriesNext b ≤ s.allowance e then counted else counted.exhausted b (.task id) f := by
    unfold State.failAttempt
    rw [State.failCounted_eq]
    change (if counted.channel.retryCount.get b ≤ s.allowanceOf (.task id) then counted else _) = _
    rw [hn, hallow]
    rfl
  rw [hfail]
  split
  next hle =>
    refine ⟨rfl, rfl, rfl, e.detail, ?_⟩
    rw [hcounted, retryCounted_eq, if_neg fun h => Nat.not_lt.2 hle h.2]
  next hgt =>
    obtain ⟨d, hd⟩ := decided_plain (e := retryCounted e) (d := exhaustedDetail (retryCounted e))
      (by exact ha) (turnsAborted_exhausted (retryCounted e).kind e.kind f)
    refine ⟨rfl, rfl, rfl, d, ?_⟩
    refine (State.entry?_modEntry (fun x => (decided_step ..).id) hcounted).trans (congrArg some ?_)
    refine hd.trans ?_
    rw [retryCounted_eq]
    simp [Nat.not_le.1 hgt]

/-! ### The mount's attempt that fails -/

theorem State.mountReadEnd_spec (st : MountStatus) (tbl : List RemapEntry) (n : Nat) :
    (s.mountReadEnd b st tbl n).map b =
      { s.map b with status := st, table := tbl, nextSpare := n, mountStage := .idle, mountOrder := .idle } ∧
    (s.mountReadEnd b st tbl n).channel =
      (if s.channel.grant = some b then releasedChannel s.channel else s.channel) ∧
    (s.mountReadEnd b st tbl n).entries = s.entries := by
  let u := (s.modMap b fun m =>
    { m with status := st, table := tbl, nextSpare := n, mountStage := .idle, mountOrder := .idle }).freeMountSlots b
  have hchannel : u.channel = s.channel := by simp [u]
  have hmaps : (s.mountReadEnd b st tbl n).maps = (s.modMap b fun m =>
      { m with status := st, table := tbl, nextSpare := n, mountStage := .idle, mountOrder := .idle }).maps := by
    simp [State.mountReadEnd]
  refine ⟨?_, ?_, by simp [State.mountReadEnd]⟩
  · rw [State.map_congr hmaps, State.map_modMap, if_pos rfl]
  · change (u.releaseOf b).channel = _
    unfold State.releaseOf
    rw [hchannel]
    split <;> simp [State.releaseChannel, hchannel]

theorem mountRetryCounted_eq {m : DefectMap} (h : m.mountStage ≠ .idle) :
    mountRetryCounted m = { m with mountRetries := min 255 (m.mountRetries + 1) } := by
  rw [mountRetryCounted, if_neg h, raiseTo_eq]

theorem State.failAttempt_mount (f : FailKind) (hm : (s.map b).mountStage ≠ .idle) :
    (s.retriesNext b ≤ s.settings.retryLimit →
      (s.failAttempt b .mount f).channel = s.failedChannel b ∧
      (s.failAttempt b .mount f).slots = s.slots ∧
      (s.failAttempt b .mount f).map b =
        { s.map b with mountRetries := min 255 ((s.map b).mountRetries + 1) }) ∧
    (s.settings.retryLimit < s.retriesNext b →
      (s.failAttempt b .mount f).channel =
        (if s.channel.grant = some b then releasedChannel (s.failedChannel b) else s.failedChannel b) ∧
      (s.failAttempt b .mount f).map b =
        { s.map b with
          mountRetries := min 255 ((s.map b).mountRetries + 1), status := if f = .data then .damaged else .absent
          table := [], nextSpare := 0, mountStage := .idle, mountOrder := .idle }) := by
  let counted := (s.modChannel fun _ => s.failedChannel b).modMap b mountRetryCounted
  have hchannel : counted.channel = s.failedChannel b := by simp [counted]
  have hmap : counted.map b = { s.map b with mountRetries := min 255 ((s.map b).mountRetries + 1) } := by
    rw [State.map_modMap, if_pos rfl]
    exact mountRetryCounted_eq hm
  have hn : counted.channel.retryCount.get b = s.retriesNext b := by
    rw [hchannel]
    exact PerBay.get_update_same ..
  have hfail : s.failAttempt b .mount f =
      if s.retriesNext b ≤ s.settings.retryLimit then counted else counted.exhausted b .mount f := by
    unfold State.failAttempt
    rw [State.failCounted_eq]
    change (if counted.channel.retryCount.get b ≤ s.settings.retryLimit then counted else _) = _
    rw [hn]
    rfl
  refine ⟨fun h => ?_, fun h => ?_⟩
  · rw [hfail, if_pos h]
    exact ⟨hchannel, by simp [counted], hmap⟩
  · obtain ⟨hmap', hchannel', -⟩ := State.mountReadEnd_spec (s := counted) (b := b)
      (if f = .data then .damaged else .absent) [] 0
    rw [hfail, if_neg (Nat.not_le.2 h)]
    refine ⟨hchannel'.trans (by rw [hchannel]; rfl), hmap'.trans (by rw [hmap])⟩

end

end Sys2Proof.Machine

/-!
PROOFS. The revolution events of a LOCKED spindle (R27, R92, R96, R100).
-/

namespace Sys2Proof.Machine

section

variable {s : State} {b : Bay} {id : Nat} {e : Entry}

/-! ### What a revolution event does -/

/-- R96: the slips of a bay ended. -/
def State.slid (s : State) (b : Bay) : State :=
  (s.modEntries (slipOver b)).modMap b fun m =>
    if m.mountStage = .slip then { m with mountStage := .atChannel } else m

theorem State.revolution_eq : s.revolution b =
    if s.channel.grant = some b ∧ s.channel.search = .searching then (s.slid b).searchRevolution b
    else if s.channel.grant = some b ∧ s.channel.search = .formatting then (s.slid b).formatRevolution b
    else s.slid b := by
  unfold State.revolution
  by_cases hg : s.channel.grant = some b
  · cases hs : s.channel.search <;> simp [hg, State.slid]
  · simp [hg, State.slid]

theorem slipOver_eq (e : Entry) : slipOver b e =
    if e.state = .active ∧ e.stage = .slip ∧ e.run.map Run.bay = some b then { e with stage := .atChannel } else e := by
  unfold slipOver
  cases e.run <;> simp

theorem State.slid_spec : (s.slid b).channel = s.channel ∧ (s.slid b).slots = s.slots ∧
    (s.slid b).entries = s.entries.map (slipOver b) ∧
    ((s.slid b).map b).mountStage = if (s.map b).mountStage = .slip then .atChannel else (s.map b).mountStage := by
  refine ⟨by simp [State.slid], by simp [State.slid], by simp [State.slid], ?_⟩
  have hmap : (s.modEntries (slipOver b)).map b = s.map b := rfl
  rw [State.slid, State.map_modMap, if_pos rfl, hmap]
  split <;> rfl

/-- R96: with nothing that slips there is nothing to end. -/
theorem State.slid_still (he : ∀ e ∈ s.entries, e.stage ≠ .slip) (hm : (s.map b).mountStage ≠ .slip) : s.slid b = s := by
  have hentries : s.entries.map (slipOver b) = s.entries := by
    refine (List.map_congr_left fun e h => ?_).trans (List.map_id _)
    exact if_neg fun k => he e h k.2.1
  have hmod : s.modEntries (slipOver b) = s := by
    unfold State.modEntries
    rw [hentries]
  rw [State.slid, hmod]
  exact State.modMap_id (if_neg hm)

theorem State.searchRevolution_first (h : s.channel.searchRevs = 0) :
    s.searchRevolution b = s.modChannel fun c => { c with searchRevs := 1 } := by
  simp [State.searchRevolution, h]

theorem State.searchRevolution_second {g : Giver} (h : 1 ≤ s.channel.searchRevs) (hc : s.client? b = some g) :
    s.searchRevolution b = (s.modChannel fun c => { c with searchRevs := 0 }).failAttempt b g .id := by
  unfold State.searchRevolution
  rw [if_pos (by omega), hc]

theorem State.formatRevolution_first (h : s.channel.formatRevs = 0) :
    s.formatRevolution b = s.modChannel fun c => { c with formatRevs := 1 } := by
  simp [State.formatRevolution, h]

theorem State.formatRevolution_second (h : 1 ≤ s.channel.formatRevs) : s.formatRevolution b = s.indexFault b :=
  if_pos (by omega)

/-- R100: a format that ends with Index Fault. -/
theorem State.indexFault_spec (hc : s.client? b = some (.task id)) (hn : (s.entries.map Entry.id).Nodup)
    (he : s.entry? id = some e) :
    (s.indexFault b).channel = releasedChannel s.channel ∧
    ((s.indexFault b).entry? id).map (fun y => y.ending) = some (some (e.ending.getD .indexFault)) := by
  obtain ⟨ha, -, -, -⟩ := client_task hc hn he
  have hfault : s.indexFault b = ((s.cutField b).modEntry id (decided .indexFault 0)).releaseChannel := by
    unfold State.indexFault
    rw [hc]
  have hcut : (s.cutField b).entry? id = some e := (State.entry?_congr (State.cutField_frame ..).2.2.2.2.2.2.2 id).trans he
  obtain ⟨d, hd⟩ := decided_plain (r := .indexFault) (d := 0) ha rfl
  have hentry := State.entry?_modEntry (f := decided .indexFault 0) (fun x => (decided_step ..).id) hcut
  rw [hfault]
  refine ⟨by simp [State.releaseChannel], ?_⟩
  have hsame : (((s.cutField b).modEntry id (decided .indexFault 0)).releaseChannel).entry? id = _ := hentry
  rw [hsame, hd]
  cases e.ending <;> rfl

/-! ### The mark of a LOCKED spindle -/

/-- The state in which a mark has been recorded, before its revolution event. -/
def State.markNext (s : State) (b : Bay) (n : Nat) : State := s.nextInstant.modSpindle b (markTaken n)

theorem State.markNext_frame (n : Nat) : (s.markNext b n).channel = s.channel ∧ (s.markNext b n).entries = s.entries ∧
    (s.markNext b n).maps = s.maps ∧ (s.markNext b n).slots = s.slots ∧ (s.markNext b n).settings = s.settings := by
  simp [State.markNext]

/-- R39: a spindle that a stop hands its permit on shows no higher speed than before. -/
theorem State.spinFault_speed (f : FaultClass) :
    ((s.spinFault b f).spindle b).speed ≤ (s.spindle b).speed := by
  have hspindles : (s.spinFault b f).spindles = (s.spinStopped b f).spindles := by
    rw [State.spinFault_eq]
    split <;> simp
  obtain ⟨hcut, -⟩ := State.spinCut_frame (s := s) (b := b) (f := f)
  let c := s.spinCut b f
  have hrelease : (c.enterStopping b).spindles = ((c.modSpindle b stoppingEntered).releasePermit b).spindles := by
    simp [State.enterStopping]
  have hspeed : ((c.modSpindle b stoppingEntered).spindle b).speed = (s.spindle b).speed := by
    rw [State.spindle_modSpindle, if_pos rfl, State.spindle_congr hcut]
    rfl
  rw [State.spindle_congr hspindles, State.spindle_congr State.spinStopped_frame.2.1, State.spindle_congr hrelease,
    ← hspeed]
  generalize c.modSpindle b stoppingEntered = x
  unfold State.releasePermit
  split
  · split
    next w _ =>
      rw [State.grantPermit, State.spindle_modSpindle]
      split
      · exact Nat.zero_le _
      · exact Nat.le_refl _
    · exact Nat.le_refl _
  · exact Nat.le_refl _

/-- R38: a mark in LOCKED that leaves Measured Speed in band leaves the channel to its revolution event. -/
theorem takeMark_inBand (n : Nat) (hq : (s.spindle b).phase = .locked)
    (hin : (((s.spindle b).activeTarget : Int) * 16 - (((takeMark b n s).spindle b).speed : Int)).natAbs ≤
      2 * s.settings.hysteresis) :
    takeMark b n s = (s.markTold b n).modSpindle b (lawRun s.settings) := by
  have htake := takeMark_eq n (s := s) (b := b) (by rw [hq]; rfl)
  obtain ⟨htold, -, -, -, -, hsettings, -⟩ := State.markTold_frame (s := s) (b := b) n
  have hm : markTaken n (s.spindle b) = markBase n (s.spindle b) :=
    markTaken_other (by rw [hq]; exact nofun) (by rw [hq]; exact nofun)
  have hmp : (markBase n (s.spindle b)).phase = .locked := by rw [markBase_eq]; exact hq
  have hmt : (markBase n (s.spindle b)).activeTarget = (s.spindle b).activeTarget := by rw [markBase_eq]
  rw [hm] at htold
  by_cases hleft : bandLeft s.settings (markBase n (s.spindle b)) = true
  · have hmark : (s.markTold b n).markPhase b = (s.markTold b n).enterDrifting b :=
      State.markPhase_left (by rw [htold]; exact hmp) (by rw [htold, hsettings]; exact hleft)
    have hdrift : ((s.markTold b n).enterDrifting b).spindle b = driftingEntered (markBase n (s.spindle b)) := by
      rw [State.enterDrifting_spindle, htold]
    have hspeed : ((takeMark b n s).spindle b).speed =
        ((((s.markTold b n).enterDrifting b).markFly b).spindle b).speed := by
      rw [htake, hmark, State.spindle_modSpindle, if_pos rfl]
      exact congrArg (·.2.2.2.1) (lawRun_kept ..).1
    rw [hspeed] at hin
    simp only [bandLeft, errorOf, speedError, hmt, decide_eq_true_iff] at hleft
    by_cases hfly : (((s.markTold b n).enterDrifting b).spindle b).phase = .drifting ∧
        speedLost (((s.markTold b n).enterDrifting b).spindle b) = true
    · rw [State.markFly_fault hfly.1 hfly.2] at hin
      have hle := State.spinFault_speed (s := (s.markTold b n).enterDrifting b) (b := b) .speedLost
      have hlost := hfly.2
      rw [hdrift] at hle hlost
      simp only [speedLost, flySpeed, decide_eq_true_iff, driftingEntered, hmt] at hlost hle
      omega
    · have hstill : ((s.markTold b n).enterDrifting b).markFly b = (s.markTold b n).enterDrifting b := if_neg hfly
      rw [hstill, hdrift] at hin
      simp only [driftingEntered] at hin
      omega
  · have hphase : (s.markTold b n).markPhase b = s.markTold b n := by
      rw [State.markPhase_eq, htold, hmp, hsettings, if_neg (by simp), if_neg fun h => hleft h.2]
    rw [htake, hphase, State.markFly_still (by rw [htold, hmp]; exact nofun)]

/-- What of the state a mark in band shows beside its spindle. -/
theorem State.markTold_lawRun (n : Nat) (T : Settings) :
    (((s.nextInstant.markTold b n).modSpindle b (lawRun T)).channel = (s.nextInstant.markTold b n).channel ∧
      ((s.nextInstant.markTold b n).modSpindle b (lawRun T)).entries = (s.nextInstant.markTold b n).entries ∧
      ((s.nextInstant.markTold b n).modSpindle b (lawRun T)).maps = (s.nextInstant.markTold b n).maps ∧
      ((s.nextInstant.markTold b n).modSpindle b (lawRun T)).slots = (s.nextInstant.markTold b n).slots) := by
  simp

theorem State.markTold_eq (n : Nat) : s.nextInstant.markTold b n =
    if (s.spindle b).revCount = 7 then (s.markNext b n).revolution b else s.markNext b n := by
  unfold State.markTold State.markRevolution markTurns
  simp only [beq_iff_eq]
  rfl

/-- Settles O34: a mark in band that is the eighth is a revolution event, which ends the slips, counts for the
search or the format of the bay, and at the second fails it. -/
theorem revolutionEventsReachTheChannel : Obligations.RevolutionEventsReachTheChannel := by
  intro s b n hq
  refine ⟨_, rfl, ?_⟩
  intro c inBand slid slips m failed
  obtain ⟨hchannel, hentries, hmaps, hslots, hsettings⟩ := State.markNext_frame (s := s) (b := b) n
  have hin (h : inBand) : let t := takeMark b n s.nextInstant
      t.channel = (s.nextInstant.markTold b n).channel ∧ t.entries = (s.nextInstant.markTold b n).entries ∧
      t.maps = (s.nextInstant.markTold b n).maps ∧ t.slots = (s.nextInstant.markTold b n).slots := by
    intro t
    rw [show t = _ from takeMark_inBand n (s := s.nextInstant) hq h]
    exact State.markTold_lawRun n _
  have hslid : slid = slipOver b := funext fun e => (slipOver_eq e).symm
  have hclient := State.client?_congr hentries hmaps b
  have hentry := State.entry?_congr hentries
  have hmap : (s.markNext b n).map b = s.map b := State.map_congr hmaps b
  have hretries (u : State) (h : u.channel.retryCount = c.retryCount) : u.retriesNext b = m := by
    rw [State.retriesNext, h]
  refine ⟨fun h h7 => ?_, fun h h7 => ?_⟩
  · obtain ⟨h1, h2, h3, h4⟩ := hin h
    rw [State.markTold_eq, if_neg h7] at h1 h2 h3 h4
    exact ⟨h1.trans hchannel, h2.trans hentries, h3.trans hmaps, h4.trans hslots⟩
  obtain ⟨h1, h2, h3, h4⟩ := hin h
  rw [State.markTold_eq, if_pos h7, State.revolution_eq, hchannel] at h1 h2 h3 h4
  generalize takeMark b n s.nextInstant = t at h1 h2 h3 h4
  generalize s.markNext b n = u at *
  obtain ⟨hsc, hss, hse, hsm⟩ := State.slid_spec (s := u) (b := b)
  have hstill (h : ¬slips) : u.slid b = u :=
    State.slid_still (fun e he hs => h (.inl ⟨e, hentries ▸ he, hs⟩)) fun hs => h (.inr (hmap ▸ hs))
  refine ⟨fun hidle => ?_, fun hg hs hrevs => ?_, fun hg hs hrevs hslips => ?_, fun hg hs hrevs => ?_,
    fun hg hs hrevs hslips id hc hn e he => ?_⟩
  · have hno (x : Search) (hx : x = .searching ∨ x = .formatting) : ¬(c.grant = some b ∧ c.search = x) := by
      rintro ⟨hg, hs⟩
      rcases hidle with k | ⟨k, k'⟩
      · exact k hg
      · rcases hx with rfl | rfl
        · exact k hs
        · exact k' hs
    rw [if_neg (hno _ (.inl rfl)), if_neg (hno _ (.inr rfl))] at h1 h2 h3 h4
    rw [hmap] at hsm
    exact ⟨h1.trans (hsc.trans hchannel), by rw [h2, hse, hentries, hslid], h4.trans (hss.trans hslots),
      by rw [State.map_congr h3, hsm]⟩
  · rw [if_pos ⟨hg, hs⟩, State.searchRevolution_first (by rw [hsc, hchannel]; exact hrevs)] at h1 h2
    refine ⟨h1.trans ?_, h2.trans ?_⟩
    · rw [State.modChannel_channel, hsc, hchannel]
    · rw [State.modChannel_entries, hse, hentries, hslid]
  · let v := u.modChannel fun c => { c with searchRevs := 0 }
    have hvc : v.channel = { c with searchRevs := 0 } := by rw [State.modChannel_channel, hchannel]
    have hn : v.retriesNext b = m := hretries v (by rw [hvc])
    have hfailed : v.failedChannel b = failed := by rw [State.failedChannel, hn, hvc]
    have hevent {g : Giver} (hc : s.client? b = some g) :
        (u.slid b).searchRevolution b = v.failAttempt b g .id := by
      rw [hstill hslips, State.searchRevolution_second (by rw [hchannel]; exact hrevs) (hclient.trans hc)]
    refine ⟨fun id hc hnd e he => ?_, fun hc => ?_⟩
    · obtain ⟨ha, -, -, -⟩ := client_task hc hnd he
      obtain ⟨hfc, -, -, d, hfe⟩ := State.failAttempt_task (s := v) (b := b) .id ha ((hentry id).trans he)
      rw [if_pos ⟨hg, hs⟩, hevent hc] at h1 h2
      refine ⟨h1.trans (hfc.trans hfailed), ?_⟩
      have hallow : v.allowance e = s.allowance e := by
        simp only [State.allowance, v, State.modChannel_settings, hsettings]
      rw [State.entry?_congr h2, hfe, hn, hallow, exhaustedResult_eq]
      simp
    · have hstage : (s.map b).mountStage = .atChannel := client_mount hc
      have hvmap : v.map b = s.map b := hmap
      have hvset : v.settings = s.settings := by simp only [v, State.modChannel_settings, hsettings]
      obtain ⟨hagain, hover⟩ := State.failAttempt_mount (s := v) (b := b) .id (by rw [hvmap, hstage]; exact nofun)
      rw [hn, hvset, hfailed, hvmap, hvc] at hover
      rw [hn, hvset, hfailed, hvmap] at hagain
      rw [if_pos ⟨hg, hs⟩, hevent hc] at h1 h3
      have htmap := State.map_congr h3 b
      rw [htmap, h1]
      by_cases hle : m ≤ s.settings.retryLimit
      · obtain ⟨hac, -, ham⟩ := hagain hle
        rw [ham, hac]
        exact ⟨rfl, fun _ => ⟨rfl, hstage, rfl⟩, fun hgt => absurd hle (Nat.not_le.2 hgt)⟩
      · obtain ⟨hoc, hom⟩ := hover (Nat.not_le.1 hle)
        rw [if_pos hg] at hoc
        rw [if_neg (by exact nofun)] at hom
        rw [hom, hoc]
        exact ⟨rfl, fun hle' => absurd hle' hle, fun _ => ⟨rfl, rfl, rfl, rfl⟩⟩
  · have hnot : ¬(c.grant = some b ∧ c.search = .searching) := fun k => by simp [hs] at k
    rw [if_neg hnot, if_pos ⟨hg, hs⟩, State.formatRevolution_first (by rw [hsc, hchannel]; exact hrevs)] at h1 h2
    refine ⟨h1.trans ?_, h2.trans ?_⟩
    · rw [State.modChannel_channel, hsc, hchannel]
    · rw [State.modChannel_entries, hse, hentries, hslid]
  · have hnot : ¬(c.grant = some b ∧ c.search = .searching) := fun k => by simp [hs] at k
    rw [if_neg hnot, if_pos ⟨hg, hs⟩, hstill hslips,
      State.formatRevolution_second (by rw [hchannel]; exact hrevs)] at h1 h2
    obtain ⟨hfc, hfe⟩ := State.indexFault_spec (hclient.trans hc) (by rw [hentries]; exact hn) ((hentry id).trans he)
    rw [h1, hfc, State.entry?_congr h2, hfe]
    exact ⟨rfl, rfl, rfl, rfl⟩

end

end Sys2Proof.Machine

/-!
PROOFS. An order given (R59), as far as the tasks and the maps see it, and the ID fields (R92, R95 to R98).
-/

namespace Sys2Proof.Machine

/-! ### An order given leaves the tasks and the maps but for outcomes told -/

section

variable (s : State) (b : Bay)

@[simp] theorem State.progress_endSeekIfThere : (s.endSeekIfThere b).progress = s.progress := by
  unfold State.endSeekIfThere
  dsimp only
  repeat' split
  all_goals simp

@[simp] theorem State.progress_selectHead (h : Nat) : (s.selectHead b h).progress = s.progress :=
  State.progress_congr (by simp)

@[simp] theorem State.progress_carryOut (o : Order) : (s.carryOut b o).progress = s.progress := by
  unfold State.carryOut
  dsimp only
  repeat' split
  all_goals simp

@[simp] theorem State.progress_loadFor (o : Order) : (s.loadFor b o).progress = s.progress := by
  unfold State.loadFor
  dsimp only
  split <;> simp

@[simp] theorem State.progress_holdOrder (o : Order) : (s.holdOrder b o).progress = s.progress := by
  unfold State.holdOrder
  split <;> simp

@[simp] theorem State.progress_giveOrder (o : Order) : (s.giveOrder b o).progress = s.progress := by
  unfold State.giveOrder
  repeat' split
  all_goals simp

/-- A bay's map but for the outcome that its mount awaits. -/
def State.told (c : Bay) : DefectMap := (s.map c).told

variable (c : Bay)

theorem State.told_congr {s t : State} (h : t.maps = s.maps) (c : Bay) : t.told c = s.told c :=
  congrArg DefectMap.told (State.map_congr h c)

@[simp] theorem State.told_modPositioner (f : Positioner → Positioner) : (s.modPositioner b f).told c = s.told c :=
  State.told_congr (State.modPositioner_maps ..) c

@[simp] theorem State.told_handBack? (o : Option Order) (x : OrderState) : (s.handBack? b o x).told c = s.told c :=
  State.handBack?_told ..

@[simp] theorem State.told_handBack (o : Order) (x : OrderState) : (s.handBack b o x).told c = s.told c :=
  State.told_handBack? s b c (some o) x

@[simp] theorem State.told_endSeekIfThere : (s.endSeekIfThere b).told c = s.told c := by
  unfold State.endSeekIfThere State.endOrder
  dsimp only
  repeat' split
  all_goals simp

@[simp] theorem State.told_selectHead (h : Nat) : (s.selectHead b h).told c = s.told c :=
  State.told_congr (by simp) c

@[simp] theorem State.told_beginRetract : (s.beginRetract b).told c = s.told c := State.told_congr (by simp) c

@[simp] theorem State.told_giveOrder (o : Order) : (s.giveOrder b o).told c = s.told c := by
  unfold State.giveOrder State.holdOrder State.carryOut State.loadFor
  dsimp only
  repeat' split
  all_goals simp

end

section

variable {s t : State} {b : Bay} {id : Nat} {e : Entry}

/-- An entry as an order's outcome leaves it. -/
theorem State.entry?_of_progress (h : t.progress = s.progress) (id : Nat) :
    (t.entry? id).map Entry.progress = (s.entry? id).map Entry.progress := by
  have hfind (u : State) : (u.entry? id).map Entry.progress = u.progress.find? fun e => e.id == id := by
    simp only [State.entry?, State.progress, List.find?_map]
    rfl
  rw [hfind, hfind, h]

/-! ### ID fields (R92) -/

theorem takeIdField_still (f : IdField) (h : s.channel.search ≠ .searching ∨ idPasses f = false ∨
    s.channel.grant = none ∨ s.channel.target = none) : takeIdField f s = s := by
  unfold takeIdField
  split
  next b w hg ht =>
    refine if_neg fun k => ?_
    rcases h with h | h | h | h
    · exact h k.1
    · exact absurd (h.symm.trans k.2) nofun
    · exact absurd (h.symm.trans hg) nofun
    · exact absurd (h.symm.trans ht) nofun
  · rfl

/-- R92: what a field that passes is taken for. -/
theorem takeIdField_eq {f : IdField} {w : Sector} {g : Giver} {r : Run} (hg : s.channel.grant = some b)
    (ht : s.channel.target = some w) (hs : s.channel.search = .searching) (hp : idPasses f = true)
    (hc : s.client? b = some g) (hr : s.clientRun? b g = some r) : takeIdField f s =
      if 256 * f.cylinderHigh.toNat + f.cylinderLow.toNat = w.cylinder then
        if f.head.toNat = w.head ∧ f.sector.toNat = w.sector then s.targetMatched b g r else s
      else s.wrongCylinder b g := by
  have hrun : s.channelRun b = some r := by rw [State.channelRun, hc]; exact hr
  unfold takeIdField
  rw [hg, ht]
  dsimp only
  rw [if_pos ⟨hs, hp⟩, hc, hrun]
  simp only [ne_eq, ite_not]
  rfl

theorem slotSector_eq (x : RunSector) : slotSector x = x.lsn.elim .record .lsn := by
  unfold slotSector
  split <;> simp_all

theorem State.clientRun?_task (he : s.entry? id = some e) : s.clientRun? b (.task id) = e.run := by
  simp [State.clientRun?, he]

/-! ### The Target matched -/

/-- R96: a slip of a task. -/
def State.SlippedFor (s t : State) (id : Nat) : Prop :=
  t.channel.grant = none ∧ t.channel.search = .idle ∧ t.channel.readGate = false ∧
    t.channel.retryCount = s.channel.retryCount ∧ t.slots = s.slots ∧
    t.entries = s.entries.map fun e => if e.id = id then { e with stage := .slip } else e

theorem State.slip_task : s.SlippedFor (s.slip b (.task id)) id := ⟨rfl, rfl, rfl, rfl, rfl, rfl⟩

theorem State.readInto_none {g : Giver} {o : Owner} {p : Purpose} {x : SlotSector} {h : Option Nat}
    (hn : s.slotForTake o = none) : s.readInto b g o p x h = s.slip b g := by
  unfold State.readInto
  rw [hn]

theorem State.readInto_some {g : Giver} {o : Owner} {p : Purpose} {x : SlotSector} {h : Option Nat} {i : Nat}
    (hi : s.slotForTake o = some i) : s.readInto b g o p x h =
      (s.takeSlot i .filling o p b x h).modChannel fun c => { c with search := .reading, slot := some i } := by
  unfold State.readInto
  rw [hi]

theorem State.writeFrom_none {cylinder : Nat} {x : SlotSector} (h : s.slotFor? id x = none) :
    s.writeFrom b id cylinder x = s.slip b (.task id) := by
  unfold State.writeFrom
  rw [h]

theorem State.writeFrom_some {cylinder i : Nat} {x : SlotSector} (h : s.slotFor? id x = some i) :
    s.writeFrom b id cylinder x =
      if (s.slots[i]?.map Slot.state) = some .full ∧ s.gateAllowed b cylinder = true then
        (s.modSlot i (fun x => { x with state := .draining })).modChannel (fun c =>
          { c with search := .writing, slot := some i, writeGate := true, readGate := false })
      else s.slip b (.task id) := by
  unfold State.writeFrom
  rw [h]
  have hfull : (s.slots[i]?.any fun x => x.state == .full) = true ↔ (s.slots[i]?.map Slot.state) = some .full := by
    cases s.slots[i]? <;> simp
  simp only [Bool.and_eq_true, hfull]

theorem State.targetMatched_read {r : Run} {x : RunSector} {p : Purpose} (hx : r.sectors.head? = some x)
    (he : s.entry? id = some e) (hp : readPurpose e = some p) : s.targetMatched b (.task id) r =
      s.readInto b (.task id) (.task id) p (slotSector x)
        (if p = .read then x.lsn.map (hostPlace e.block) else none) := by
  obtain ⟨l, hl⟩ := List.head?_eq_some_iff.1 hx
  simp [State.targetMatched, hl, he, hp]

theorem State.targetMatched_write {r : Run} {x : RunSector} (hx : r.sectors.head? = some x)
    (he : s.entry? id = some e) (hp : readPurpose e = none) : s.targetMatched b (.task id) r =
      s.writeFrom b id r.cylinder (slotSector x) := by
  obtain ⟨l, hl⟩ := List.head?_eq_some_iff.1 hx
  simp [State.targetMatched, hl, he, hp]

theorem State.targetMatched_mount : s.targetMatched b .mount (recordRun b) =
    s.readInto b .mount (.mount b) .recordRead .record none := rfl

/-! ### A Wrong Cylinder (R95) -/

theorem State.releaseOf_spec (h : s.channel.grant = some b) :
    s.releaseOf b = s.modChannel releasedChannel := if_pos h

/-- R95: the failure counted, and the channel released. -/
def State.cylinderLost (s : State) (b : Bay) (g : Giver) : State := (s.failAttempt b g .id).releaseOf b

theorem State.wrongCylinder_eq (g : Giver) : s.wrongCylinder b g =
    if (s.cylinderLost b g).stillTrying g then (s.cylinderLost b g).recalibrateFor b g
    else s.cylinderLost b g := rfl

/-- R95: the entry that a Wrong Cylinder leaves of a task. -/
theorem State.wrongCylinder_task (ha : e.state = .active) (he : s.entry? id = some e)
    (hg : s.channel.grant = some b) : let t := s.wrongCylinder b (.task id)
    t.channel = releasedChannel (s.failedChannel b) ∧ t.slots = s.slots ∧
    (t.entry? id).map (fun y => (y.retriesUsed, y.stage, y.ending)) = some (min 255 (e.retriesUsed + 1),
      if e.ending.isSome then (e.stage, e.ending)
      else if s.retriesNext b ≤ s.allowance e then (.recalibrating, none)
      else (e.stage, some (exhaustedResult e.kind .id))) := by
  intro t
  obtain ⟨hchannel, -, hslots, d, hentry⟩ := State.failAttempt_task (b := b) .id ha he
  have hgrant : (s.failAttempt b (.task id) .id).channel.grant = some b := by rw [hchannel]; exact hg
  have hlost : s.cylinderLost b (.task id) = _ := State.releaseOf_spec hgrant
  have hfound : (s.cylinderLost b (.task id)).entry? id = _ := (congrArg (·.entry? id) hlost).trans hentry
  have hreleased : (s.cylinderLost b (.task id)).channel = releasedChannel (s.failedChannel b) := by
    rw [hlost, State.modChannel_channel, hchannel]
  have hkept : (s.cylinderLost b (.task id)).slots = s.slots := by rw [hlost, State.modChannel_slots, hslots]
  have ht : t = _ := State.wrongCylinder_eq (.task id)
  generalize s.cylinderLost b (.task id) = u at hfound hreleased hkept ht
  have hstill : u.stillTrying (.task id) =
      (if e.ending = none ∧ s.allowance e < s.retriesNext b then some (exhaustedResult e.kind .id)
        else e.ending).isNone := by
    simp only [State.stillTrying, hfound]
  by_cases hgo : e.ending = none ∧ s.retriesNext b ≤ s.allowance e
  · have hnot : ¬(e.ending = none ∧ s.allowance e < s.retriesNext b) := fun k => absurd hgo.2 (Nat.not_le.2 k.2)
    rw [if_neg hnot, hgo.1] at hfound
    rw [hstill, if_neg hnot, hgo.1, Option.isNone_none, if_pos rfl] at ht
    let x : Entry := { e with retriesUsed := min 255 (e.retriesUsed + 1), detail := d, ending := none }
    have hid : x.id = id := (State.entry?_mem he).2
    have hrecal : u.recalibrateFor b (.task id) =
        (u.modEntry id (fun f => { f with stage := .recalibrating })).orderFor x b .recalibrate := by
      simp only [State.recalibrateFor, hfound]
      rfl
    rw [State.orderFor, hid] at hrecal
    let v := (u.modEntry id (fun f => { f with stage := .recalibrating })).modEntry id
      fun f => { f with order := .outstanding, orderBay := b }
    have hv : v.entry? id = some { x with stage := .recalibrating, order := .outstanding, orderBay := b } := by
      have h1 := State.entry?_modEntry (f := fun f : Entry => { f with stage := .recalibrating }) (fun _ => rfl) hfound
      exact State.entry?_modEntry (f := fun f : Entry => { f with order := .outstanding, orderBay := b })
        (fun _ => rfl) h1
    have horder : t = v.giveOrder b ⟨.recalibrate, .task id⟩ := ht.trans hrecal
    have hprogress := State.entry?_of_progress (State.progress_giveOrder v b ⟨.recalibrate, .task id⟩) id
    rw [hv] at hprogress
    obtain ⟨-, -, -, hc, hs, -⟩ := State.giveOrder_frame v b ⟨.recalibrate, .task id⟩
    rw [horder]
    refine ⟨hc.trans hreleased, hs.trans hkept, ?_⟩
    obtain ⟨y, hy, hyp⟩ := Option.map_eq_some_iff.1 hprogress
    rw [hy, Option.map_some]
    have hyr : y.retriesUsed = x.retriesUsed := (congrArg Entry.retriesUsed hyp :)
    have hys : y.stage = .recalibrating := (congrArg Entry.stage hyp :)
    have hye : y.ending = none := (congrArg Entry.ending hyp :)
    simp [hyr, hys, hye, hgo.1, hgo.2, x]
  · have hnone : u.stillTrying (.task id) = false := by
      rw [hstill]
      split
      · rfl
      next h =>
        cases he' : e.ending with
        | some r => rfl
        | none => exact absurd ⟨he', Nat.not_lt.1 fun k => h ⟨he', k⟩⟩ hgo
    rw [hnone, if_neg nofun] at ht
    rw [ht]
    refine ⟨hreleased, hkept, ?_⟩
    rw [hfound]
    cases he' : e.ending with
    | some r => simp
    | none =>
      have hgt : ¬ s.retriesNext b ≤ s.allowance e := fun k => hgo ⟨he', k⟩
      simp [hgt, Nat.not_le.1 hgt]

/-- R95, R110: what a Wrong Cylinder leaves of a mount. -/
theorem State.wrongCylinder_mount (hm : (s.map b).mountStage ≠ .idle) (hg : s.channel.grant = some b) :
    let t := s.wrongCylinder b .mount
    t.channel = releasedChannel (s.failedChannel b) ∧
    (s.retriesNext b ≤ s.settings.retryLimit → (t.map b).mountStage = .recalibrating ∧
      (t.map b).mountRetries = min 255 ((s.map b).mountRetries + 1) ∧
      (t.map b).status = (s.map b).status ∧ (t.map b).table = (s.map b).table) ∧
    (s.settings.retryLimit < s.retriesNext b → (t.map b).mountStage = .idle ∧
      (t.map b).mountRetries = min 255 ((s.map b).mountRetries + 1) ∧
      (t.map b).status = .absent ∧ (t.map b).table = [] ∧ (t.map b).nextSpare = 0) ∧
    BayKept s t b.other := by
  intro t
  obtain ⟨hagain, hover⟩ := State.failAttempt_mount (b := b) .id hm
  obtain ⟨hrb, hrs, -, hrp, hrm, -⟩ := State.releaseOf_frame (s.failAttempt b .mount .id) b
  have hside : BayKept s (s.cylinderLost b .mount) b.other :=
    (BayKept.failAttempt .mount .id).trans (.of_blocks hrb hrs hrp hrm)
  have ht : t = _ := State.wrongCylinder_eq .mount
  have htry : (s.cylinderLost b .mount).stillTrying .mount = true := rfl
  rw [htry, if_pos rfl] at ht
  have hmaps : (s.cylinderLost b .mount).map b = (s.failAttempt b .mount .id).map b := State.map_congr hrm b
  by_cases hle : s.retriesNext b ≤ s.settings.retryLimit
  · obtain ⟨hc, -, hmap⟩ := hagain hle
    have hreleased : (s.cylinderLost b .mount).channel = releasedChannel (s.failedChannel b) := by
      rw [State.cylinderLost, State.releaseOf_spec (by rw [hc]; exact hg), State.modChannel_channel, hc]
    generalize s.cylinderLost b .mount = u at *
    have hstage : (u.map b).mountStage ≠ .idle := by rw [hmaps, hmap]; exact hm
    let v := u.modMap b fun m => { m with mountStage := .recalibrating, mountOrder := .outstanding }
    have hrecal : t = v.giveOrder b ⟨.recalibrate, .mount⟩ := ht.trans (if_neg hstage)
    have htold := State.told_giveOrder v b b ⟨.recalibrate, .mount⟩
    have hv : v.map b = { u.map b with mountStage := .recalibrating, mountOrder := .outstanding } := by
      rw [State.map_modMap, if_pos rfl]
    rw [← hrecal, State.told, State.told, hv, hmaps, hmap] at htold
    refine ⟨?_, fun _ => ⟨?_, ?_, ?_, ?_⟩, fun k => absurd hle (Nat.not_le.2 k), ?_⟩
    · rw [hrecal, (State.giveOrder_frame ..).2.2.2.1, State.modMap_channel, hreleased]
    · exact (congrArg DefectMap.mountStage htold :)
    · exact (congrArg DefectMap.mountRetries htold :)
    · exact (congrArg DefectMap.status htold :)
    · exact (congrArg DefectMap.table htold :)
    · rw [hrecal]
      exact (hside.trans (BayKept.modMap _)).trans (BayKept.giveOrder _)
  · obtain ⟨hc, hmap⟩ := hover (Nat.not_le.1 hle)
    rw [if_pos hg] at hc
    rw [if_neg (by exact nofun)] at hmap
    have hkept : s.cylinderLost b .mount = s.failAttempt b .mount .id :=
      if_neg (by rw [hc]; exact nofun)
    rw [hkept] at ht hmaps hside
    have hidle : t = s.failAttempt b .mount .id := ht.trans (if_pos (by rw [hmap]))
    rw [hidle]
    refine ⟨hc, fun k => absurd k hle, fun _ => ?_, hside⟩
    rw [hmap]
    exact ⟨rfl, rfl, rfl, rfl, rfl⟩

theorem State.cylinderLost_spindles (g : Giver) : (s.wrongCylinder b g).spindles = s.spindles := by
  have hlost : (s.cylinderLost b g).spindles = s.spindles := by simp [State.cylinderLost]
  rw [State.wrongCylinder_eq]
  generalize s.cylinderLost b g = u at *
  rw [← hlost]
  unfold State.recalibrateFor State.orderFor
  repeat' split
  all_goals simp

theorem failedChannel_retries : (releasedChannel (s.failedChannel b)).retryCount.get b = s.retriesNext b :=
  PerBay.get_update_same ..

/-- Settles O39: a field that passes is passed over, matched or a Wrong Cylinder, for the task or the mount whose
search it meets. -/
theorem idFieldsAreMatched : Obligations.IdFieldsAreMatched := by
  intro s f next
  refine ⟨fun h => next_instantEnd (takeIdField_still f (s := s.nextInstant) h), ?_, ?_⟩
  · intro b hg w hw hs hp id hc hn e he r hr x hx here target sector slipped
    obtain ⟨ha, -, -, -⟩ := client_task hc hn he
    have htake := takeIdField_eq (s := s.nextInstant) hg hw hs hp hc
      ((State.clientRun?_task (s := s.nextInstant) he).trans hr)
    have hsector : slotSector x = sector := slotSector_eq x
    refine ⟨fun hh ht => next_instantEnd (htake.trans ((if_pos hh).trans (if_neg fun k => ht ⟨hh, k⟩))),
      fun ht p hread => ⟨_, next_instantEnd (htake.trans ((if_pos ht.1).trans (if_pos ht.2))), ?_, fun i hi => ?_⟩,
      fun ht hwrite => ⟨_, next_instantEnd (htake.trans ((if_pos ht.1).trans (if_pos ht.2))), ?_, fun i hi => ?_⟩,
      fun hh => ⟨_, next_instantEnd (htake.trans (if_neg hh)), ?_⟩⟩
    · rw [State.targetMatched_read (s := s.nextInstant) hx he hread]
      intro hnone
      rw [State.readInto_none (s := s.nextInstant) (o := .task id) hnone]
      exact State.slip_task
    · rw [State.targetMatched_read (s := s.nextInstant) hx he hread, State.readInto_some (s := s.nextInstant) (o := .task id) hi, hsector]
      exact ⟨rfl, rfl, hg, rfl, rfl⟩
    · rw [State.targetMatched_write (s := s.nextInstant) hx he hwrite, hsector]
      intro hnone
      rw [State.writeFrom_none (s := s.nextInstant) hnone]
      exact State.slip_task
    · rw [State.targetMatched_write (s := s.nextInstant) hx he hwrite, hsector,
        State.writeFrom_some (s := s.nextInstant) hi]
      by_cases hfull : (s.slots[i]?.map Slot.state) = some .full ∧ s.gateAllowed b r.cylinder = true
      · rw [if_pos hfull, if_pos (by exact hfull)]
        exact ⟨rfl, rfl, rfl, rfl, hg, rfl, rfl⟩
      · rw [if_neg hfull, if_neg (by exact hfull)]
        exact State.slip_task
    · obtain ⟨hchannel, hslots, hentry⟩ := State.wrongCylinder_task (s := s.nextInstant) (b := b) ha he hg
      obtain ⟨y, hy, hfields⟩ := Option.map_eq_some_iff.1 hentry
      simp only [Prod.mk.injEq] at hfields
      obtain ⟨hretries, hstage⟩ := hfields
      refine ⟨congrArg Channel.grant hchannel, ?_, ?_, ?_, hslots, State.cylinderLost_spindles _⟩
      · rw [hchannel]
        exact failedChannel_retries
      · rw [hy, Option.map_some, hretries]
      · rw [hy, Option.map_some, hstage, exhaustedResult_eq]
        have hallow : s.nextInstant.allowance e = s.allowance e := rfl
        have hnext : s.nextInstant.retriesNext b = min 8 (s.channel.retryCount.get b + 1) := rfl
        rw [hallow, hnext]
        simp only [reduceCtorEq, or_false]
        split <;> [rfl; split] <;> rfl
  · intro b hg w hw hs hp hc here target n
    have hstage : (s.map b).mountStage = .atChannel := client_mount hc
    have htake := takeIdField_eq (s := s.nextInstant) hg hw hs hp hc
      (show s.nextInstant.clientRun? b .mount = some (recordRun b) from rfl)
    rw [State.targetMatched_mount] at htake
    refine ⟨fun hh ht => next_instantEnd (htake.trans ((if_pos hh).trans (if_neg fun k => ht ⟨hh, k⟩))),
      fun ht => ⟨_, next_instantEnd (htake.trans ((if_pos ht.1).trans (if_pos ht.2))), fun hnone => ?_, fun i hi => ?_⟩,
      fun hh => ⟨_, next_instantEnd (htake.trans (if_neg hh)), ?_⟩⟩
    · rw [State.readInto_none (s := s.nextInstant) (o := .mount b) hnone]
      have hmap : (s.nextInstant.slip b .mount).map b = { s.map b with mountStage := .slip } :=
        (State.map_modMap ..).trans (if_pos rfl)
      rw [hmap]
      exact ⟨rfl, rfl, by simp [State.slip, State.releaseChannel, releasedChannel, State.nextInstant],
        by simp [State.slip, State.nextInstant], rfl, rfl⟩
    · rw [State.readInto_some (s := s.nextInstant) (o := .mount b) hi]
      exact ⟨rfl, rfl, hg, rfl, rfl⟩
    · obtain ⟨hchannel, hagain, hover, hside⟩ := State.wrongCylinder_mount (s := s.nextInstant) (b := b)
        (by rw [State.nextInstant_map, hstage]; exact nofun) hg
      refine ⟨congrArg Channel.grant hchannel, ?_, ?_, fun hle => ?_, fun hgt => ?_, hside.map,
        State.cylinderLost_spindles _⟩
      · rw [hchannel]
        exact failedChannel_retries
      · by_cases hle : n ≤ s.settings.retryLimit
        · exact (hagain hle).2.1
        · exact (hover (Nat.not_le.1 hle)).2.1
      · obtain ⟨h1, -, h2, h3⟩ := hagain hle
        exact ⟨h1, h2, h3⟩
      · obtain ⟨h1, -, h2, h3, h4⟩ := hover hgt
        exact ⟨h1, h2, h3, h4⟩

end

end Sys2Proof.Machine

/-!
PROOFS. The end of a data field that a task reads (R93, R94, R96, R121, R123, R126).
-/

namespace Sys2Proof.Machine

section

variable {s : State} {b : Bay} {id : Nat} {e : Entry} {f : Entry → Entry}

/-! ### The sector in hand done -/

/-- R93: the channel as a new Target of a bay finds it. -/
def State.targetChannel (s : State) (b : Bay) : Channel :=
  { s.channel with retryCount := s.channel.retryCount.update b fun _ => 0 }

/-- The state in which the sector in hand has been counted, before the channel takes its next Target. -/
def State.sectorTold (s : State) (b : Bay) (id : Nat) (f : Entry → Entry) : State :=
  (((s.countSoftError b).newTarget b).modEntry id f).modEntry id runPopped

theorem State.sectorTold_channel : (s.sectorTold b id f).channel = s.targetChannel b := by
  simp [State.sectorTold, State.newTarget, State.targetChannel]

theorem State.sectorDone_eq : s.sectorDone b id f = (s.sectorTold b id f).nextTarget b id := rfl

theorem runPopped_id (e : Entry) : (runPopped e).id = e.id := (runPopped_step e).id

theorem runPopped_last {r : Run} (hr : e.run = some r) (h : r.sectors.length ≤ 1) :
    runPopped e = { e with run := none, stage := .positioning, order := .idle } := by
  rw [runPopped, hr]
  exact if_pos h

theorem runPopped_more {r : Run} (hr : e.run = some r) (h : 1 < r.sectors.length) :
    runPopped e = { e with run := some { r with sectors := r.sectors.tail } } := by
  rw [runPopped, hr]
  exact if_neg (Nat.not_le.2 h)

/-- What the end of a sector leaves of a task's progress: only its run is taken further. -/
theorem runPopped_kept (e : Entry) : (runPopped e).next = e.next ∧ (runPopped e).sectorsDone = e.sectorsDone ∧
    (runPopped e).ending = e.ending := by
  unfold runPopped
  split <;> [exact ⟨rfl, rfl, rfl⟩; split] <;> exact ⟨rfl, rfl, rfl⟩

theorem State.sectorTold_entry (hid : ∀ x, (f x).id = x.id) (he : s.entry? id = some e) :
    (s.sectorTold b id f).entry? id = some (runPopped (f e)) := by
  have hkept : ((s.countSoftError b).newTarget b).entry? id = some e :=
    (State.entry?_congr (by simp) id).trans he
  exact State.entry?_modEntry runPopped_id (State.entry?_modEntry hid hkept)

theorem State.sectorDone_entry (hid : ∀ x, (f x).id = x.id) (he : s.entry? id = some e) :
    (s.sectorDone b id f).entry? id = some (runPopped (f e)) := by
  have hentries : ((s.sectorTold b id f).nextTarget b id).entries = (s.sectorTold b id f).entries := by simp
  exact (State.entry?_congr hentries id).trans (State.sectorTold_entry hid he)

/-- R91: with the run over the channel is released. -/
theorem State.sectorDone_last (hid : ∀ x, (f x).id = x.id) (he : s.entry? id = some e)
    (hr : (runPopped (f e)).run = none) (hg : s.channel.grant = some b) :
    (s.sectorDone b id f).channel = releasedChannel (s.targetChannel b) := by
  have htold := State.sectorTold_entry (s := s) (b := b) hid he
  have hchannel := State.sectorTold_channel (s := s) (b := b) (id := id) (f := f)
  have hnext : s.sectorDone b id f = (s.sectorTold b id f).releaseOf b := by
    rw [State.sectorDone_eq, State.nextTarget, htold, Option.bind_some, hr]
  rw [hnext, State.releaseOf_spec (by rw [hchannel]; exact hg), State.modChannel_channel, hchannel]

/-- R91, R92: the channel while it searches for the first sector of a run. -/
def searchOf (r : Run) (c : Channel) : Channel :=
  { c with
    search := .searching, searchRevs := 0, slot := none, writeGate := false, readGate := true
    target := r.sectors.head?.map fun x => ⟨r.cylinder, r.head, x.sector⟩ }

theorem State.beginSearch_channel (r : Run) : (s.beginSearch r).channel = searchOf r s.channel := rfl

theorem State.sectorDone_more {r : Run} (hid : ∀ x, (f x).id = x.id) (he : s.entry? id = some e)
    (hr : (runPopped (f e)).run = some r) :
    (s.sectorDone b id f).channel = searchOf r (s.targetChannel b) := by
  have htold := State.sectorTold_entry (s := s) (b := b) hid he
  have hnext : s.sectorDone b id f = (s.sectorTold b id f).beginSearch r := by
    rw [State.sectorDone_eq, State.nextTarget, htold, Option.bind_some, hr]
  rw [hnext, State.beginSearch_channel, State.sectorTold_channel]

/-- R94, R117: the map of the bay with the soft error of a sector that took a retry. -/
theorem State.sectorDone_map : (s.sectorDone b id f).map b =
    if 0 < s.channel.retryCount.get b then softErrorRaised s.settings.softThreshold (s.map b) else s.map b := by
  have hmaps : (s.sectorDone b id f).maps = (s.countSoftError b).maps := by simp [State.sectorDone]
  rw [State.map_congr hmaps, State.countSoftError]
  split
  · rw [State.map_modMap, if_pos rfl]
  · rfl

theorem State.sectorDone_softErrors : ((s.sectorDone b id f).map b).softErrors =
    if 0 < s.channel.retryCount.get b then min 255 ((s.map b).softErrors + 1) else (s.map b).softErrors := by
  rw [State.sectorDone_map]
  split
  · exact raiseTo_eq ..
  · rfl

/-! ### The counts of a sector -/

/-- R145: a decision touches the ending and the Detail alone. -/
theorem decided_only (r : Result) (d : Nat) (e : Entry) :
    ∃ x y, decided r d e = { e with ending := x, detail := y } := by
  unfold decided
  split
  · split <;> exact ⟨_, _, rfl⟩
  · exact ⟨e.ending, e.detail, rfl⟩

theorem completed_ending (ha : e.state = .active) : (completed e).ending =
    if e.ending = none then some (if e.aborted then .aborted else if 0 < e.retriesUsed then .recovered else .complete)
    else e.ending := by
  by_cases hn : e.ending = none
  · have h := congrArg Prod.fst (decided_complete (r := if 0 < e.retriesUsed then .recovered else .complete) (n := 0)
      ha hn (by split <;> rfl))
    rw [if_pos hn]
    refine h.trans ?_
    split <;> rfl
  · rw [if_neg hn, completed, decided, if_neg fun h => hn h.2]

theorem completed_kept (e : Entry) : (completed e).run = e.run ∧ (completed e).id = e.id ∧
    (completed e).next = e.next ∧ (completed e).sectorsDone = e.sectorsDone := by
  obtain ⟨r, d, h⟩ := decided_only (if 0 < e.retriesUsed then .recovered else .complete) 0 e
  rw [completed, h]
  exact ⟨rfl, rfl, rfl, rfl⟩

theorem sectorCounted_false (e : Entry) : sectorCounted false e = { e with next := e.next + 1 } := rfl

theorem sectorCounted_true (e : Entry) : sectorCounted true e =
    if e.sectorsDone + 1 = e.block.count then completed { e with next := e.next + 1, sectorsDone := e.sectorsDone + 1 }
    else { e with next := e.next + 1, sectorsDone := e.sectorsDone + 1 } := by
  unfold sectorCounted
  by_cases h : e.sectorsDone + 1 = e.block.count
  · simp [h]
  · simp [h]

theorem sectorCounted_kept (p : Bool) (e : Entry) : (sectorCounted p e).run = e.run ∧ (sectorCounted p e).id = e.id := by
  cases p
  case false => exact ⟨rfl, rfl⟩
  case true =>
    rw [sectorCounted_true]
    split
    · exact ⟨(completed_kept _).1, (completed_kept _).2.1⟩
    · exact ⟨rfl, rfl⟩

/-- R123, R125: a sector counted, and with the last one the task's end. -/
theorem sectorCounted_spec (ha : e.state = .active) :
    ((sectorCounted true e).sectorsDone, (sectorCounted true e).next, (sectorCounted true e).ending) =
      (e.sectorsDone + 1, e.next + 1, if e.sectorsDone + 1 = e.block.count then (completed e).ending else e.ending) := by
  rw [sectorCounted_true]
  split
  · obtain ⟨-, -, hn, hd⟩ := completed_kept { e with next := e.next + 1, sectorsDone := e.sectorsDone + 1 }
    have hend : (completed { e with next := e.next + 1, sectorsDone := e.sectorsDone + 1 }).ending =
        (completed e).ending := by
      rw [completed_ending ha, completed_ending (by exact ha)]
    rw [hn, hd, hend]
  · rfl

/-! ### The end of a field that is read -/

/-- R96: the bytes of a field kept in its slot, and the search taken up again. -/
def State.fieldStored (s : State) (i : Nat) (data : List Byte) : State :=
  (s.modSlot i fun x => { x with data := data }).modChannel fun c => { c with search := .searching, slot := none }

theorem takeReadEnd_still (f : DataField) (h : s.channel.search ≠ .reading ∨ s.channel.grant = none ∨
    s.channel.slot = none) : takeReadEnd f s = s := by
  unfold takeReadEnd
  split
  next hs hg hi => simp [hs, hg, hi] at h
  · rfl

theorem takeReadEnd_task {i : Nat} (f : DataField) (hg : s.channel.grant = some b) (hi : s.channel.slot = some i)
    (hs : s.channel.search = .reading) (hc : s.client? b = some (.task id)) : takeReadEnd f s =
      if dataPasses f then (s.fieldStored i f.bytes.toList).sectorRead b id i
      else (s.fieldStored i f.bytes.toList).fieldFailed b (.task id) i := by
  unfold takeReadEnd
  rw [hs, hg, hi]
  dsimp only
  rw [hc]
  rfl

theorem takeReadEnd_mount {i : Nat} (f : DataField) (hg : s.channel.grant = some b) (hi : s.channel.slot = some i)
    (hs : s.channel.search = .reading) (hc : s.client? b = some .mount) : takeReadEnd f s =
      if dataPasses f then (s.fieldStored i f.bytes.toList).recordRead b f.bytes.toList
      else (s.fieldStored i f.bytes.toList).fieldFailed b .mount i := by
  unfold takeReadEnd
  rw [hs, hg, hi]
  dsimp only
  rw [hc]
  rfl

/-- A slot freed has no owner. -/
theorem State.freeSlot_spec (i : Nat) : ((s.freeSlot i).slots[i]?.map fun y => (y.state, y.owner)) =
    s.slots[i]?.map fun _ => (SlotState.free, none) := by
  simp only [State.freeSlot, State.modSlot, List.getElem?_modify_eq]
  cases s.slots[i]? <;> rfl

theorem State.fieldStored_channel (i : Nat) (l : List Byte) :
    (s.fieldStored i l).channel = { s.channel with search := .searching, slot := none } := rfl

theorem State.fieldStored_slots (i : Nat) (l : List Byte) :
    (s.fieldStored i l).slots = s.slots.modify i fun x => { x with data := l } := rfl

theorem State.fieldStored_freed (i : Nat) (l : List Byte) :
    (((s.fieldStored i l).freeSlot i).slots[i]?.map fun y => (y.state, y.owner)) =
      s.slots[i]?.map fun _ => (SlotState.free, none) := by
  rw [State.freeSlot_spec, State.fieldStored_slots, List.getElem?_modify_eq]
  cases s.slots[i]? <;> rfl

/-! ### The end of a field that passes -/

theorem State.sectorRead_read {i : Nat} (he : s.entry? id = some e) (hp : readPurpose e = some .read) :
    s.sectorRead b id i = (s.modSlot i fun x => { x with state := .full, age := s.instant }).sectorDone b id
      (sectorCounted false) := by
  rw [State.sectorRead, he, Option.bind_some, hp]

theorem State.sectorRead_verify {i : Nat} (he : s.entry? id = some e) (hp : readPurpose e = some .verify) :
    s.sectorRead b id i = (s.freeSlot i).sectorDone b id (sectorCounted true) := by
  rw [State.sectorRead, he, Option.bind_some, hp]

theorem State.sectorRead_copy {i : Nat} (he : s.entry? id = some e) (hv : readPurpose e ≠ some .verify)
    (hr : readPurpose e ≠ some .read) : s.sectorRead b id i =
      (s.modSlot i fun x => { x with state := .full }).sectorDone b id fun e => e := by
  rw [State.sectorRead, he, Option.bind_some]
  split
  next h => exact absurd h hv
  next h => exact absurd h hr
  · rfl

/-- What the end of a sector leaves of the state after the field, whatever the purpose of the field. -/
theorem State.sectorDone_spec {r : Run} (hid : ∀ x, (f x).id = x.id)
    (hrun : (f e).run = e.run) (hr : e.run = some r) (he : s.entry? id = some e) (hg : s.channel.grant = some b) :
    let t := s.sectorDone b id f
    t.channel.retryCount.get b = 0 ∧ t.channel.slot = none ∧
    (t.map b).softErrors = (if 0 < s.channel.retryCount.get b then min 255 ((s.map b).softErrors + 1)
      else (s.map b).softErrors) ∧
    (r.sectors.length ≤ 1 → t.channel.grant = none ∧
      (t.entry? id).map (fun y => (y.run, y.stage)) = some (none, .positioning)) ∧
    (1 < r.sectors.length → t.channel.grant = some b ∧ t.channel.search = .searching ∧
      (t.entry? id).map (fun y => y.run) = some (some { r with sectors := r.sectors.tail })) ∧
    (t.entry? id).map (fun y => (y.sectorsDone, y.next, y.ending)) =
      some ((f e).sectorsDone, (f e).next, (f e).ending) := by
  intro t
  obtain ⟨knext, kdone, kend⟩ := runPopped_kept (f e)
  have hfr : (f e).run = some r := hrun.trans hr
  have hentry : t.entry? id = _ := State.sectorDone_entry hid he
  have hzero : (s.targetChannel b).retryCount.get b = 0 := PerBay.get_update_same ..
  by_cases hlen : r.sectors.length ≤ 1
  · have hpop := runPopped_last hfr hlen
    have hchannel : t.channel = _ := State.sectorDone_last hid he (by rw [hpop]) hg
    rw [hentry, hchannel, hpop]
    exact ⟨hzero, rfl, State.sectorDone_softErrors, fun _ => ⟨rfl, rfl⟩, fun h => absurd hlen (Nat.not_le.2 h),
      by rw [Option.map_some, ← hpop, knext, kdone, kend]⟩
  · have hpop := runPopped_more hfr (Nat.not_le.1 hlen)
    have hchannel : t.channel = _ := State.sectorDone_more (b := b) hid he (congrArg Entry.run hpop)
    rw [hentry, hchannel, hpop]
    exact ⟨hzero, rfl, State.sectorDone_softErrors, fun h => absurd h hlen, fun _ => ⟨hg, rfl, rfl⟩,
      by rw [Option.map_some, ← hpop, knext, kdone, kend]⟩

/-! ### The end of a field that fails -/

theorem State.fieldFailed_task {i : Nat} {r : Run} (hc : s.client? b = some (.task id)) (he : s.entry? id = some e)
    (hr : e.run = some r) : s.fieldFailed b (.task id) i =
      ((s.freeSlot i).beginSearch r).failAttempt b (.task id) .data := by
  have hrun : s.channelRun b = some r := by
    rw [State.channelRun, hc]
    exact (State.clientRun?_task (b := b) he).trans hr
  rw [State.fieldFailed, hrun]

/-- A reading of what is known of an entry. -/
theorem entry_progress {α β γ : Type} {o : Option α} {k : α → β} {x : β} {g : β → γ} (h : o.map k = some x) :
    o.map (g ∘ k) = some (g x) := by
  rw [← Option.map_map, h, Option.map_some]

/-- Settles O40: a field that passes ends its sector by the purpose of the task, and one that fails is an attempt
that fails, with the search begun again. -/
theorem readFieldsEnd : Obligations.ReadFieldsEnd := by
  intro s f next
  refine ⟨fun h => next_instantEnd (takeReadEnd_still f (s := s.nextInstant) h), ?_⟩
  intro b hg i hi hs id hc hn e he r hr n
  obtain ⟨ha, -, -, -⟩ := client_task hc hn he
  have htake := takeReadEnd_task f (s := s.nextInstant) hg hi hs hc
  let u := s.nextInstant.fieldStored i f.bytes.toList
  have hu : u.entry? id = some e := he
  refine ⟨fun hp => ⟨_, next_instantEnd (htake.trans (if_pos hp)), ?_⟩,
    fun hp => ⟨_, next_instantEnd (htake.trans (if_neg (by simp [hp]))), ?_⟩⟩
  · have hcounted (p : Bool) (x : Entry) : (sectorCounted p x).id = x.id := (sectorCounted_kept p x).2
    by_cases hread : readPurpose e = some .read
    · rw [State.sectorRead_read hu hread]
      obtain ⟨h1, h2, h3, h4, h5, h6⟩ := State.sectorDone_spec
        (s := u.modSlot i fun x => { x with state := .full, age := s.instant + 1 }) (hcounted false) rfl hr hu hg
      refine ⟨h1, h2, h3, h4, h5, fun _ => ⟨?_, ?_⟩, fun h => ?_, fun h => ?_⟩
      · exact entry_progress h6 (g := fun x => (x.2.1, x.1, x.2.2))
      · exact (State.sectorDone_frame ..).2.2.2.2.1.trans (List.modify_modify_eq ..)
      · exact absurd (hread.symm.trans h) nofun
      · exact absurd (hread.symm.trans h) nofun
    by_cases hverify : readPurpose e = some .verify
    · rw [State.sectorRead_verify hu hverify]
      obtain ⟨h1, h2, h3, h4, h5, h6⟩ := State.sectorDone_spec (s := u.freeSlot i) (hcounted true)
        (sectorCounted_kept true e).1 hr hu hg
      rw [sectorCounted_spec ha, completed_ending ha] at h6
      refine ⟨h1, h2, h3, h4, h5, fun h => absurd h hread, fun _ => ⟨?_, ?_⟩, fun h => ?_⟩
      · refine (entry_progress h6 (g := fun x => (x.2.1, x.1, x.2.2))).trans ?_
        by_cases hn : e.ending = none <;> simp [hn]
      · rw [(State.sectorDone_frame ..).2.2.2.2.1]
        exact State.fieldStored_freed (s := s.nextInstant) ..
      · exact absurd (hverify.symm.trans h) nofun
    · rw [State.sectorRead_copy hu hverify hread]
      obtain ⟨h1, h2, h3, h4, h5, h6⟩ := State.sectorDone_spec (s := u.modSlot i fun x => { x with state := .full })
        (f := fun e => e) (fun _ => rfl) rfl hr hu hg
      refine ⟨h1, h2, h3, h4, h5, fun h => absurd h hread, fun h => absurd h hverify, fun _ => ⟨?_, ?_⟩⟩
      · exact entry_progress h6 (g := fun x => (x.1, x.2.2))
      · exact (State.sectorDone_frame ..).2.2.2.2.1.trans (List.modify_modify_eq ..)
  · rw [State.fieldFailed_task (s := u) hc hu hr]
    let v := (u.freeSlot i).beginSearch r
    obtain ⟨hchannel, -, hslots, d, hentry⟩ := State.failAttempt_task (s := v) (b := b) .data ha hu
    have hsearch : v.channel = searchOf r u.channel := rfl
    rw [hchannel, hslots, hentry]
    refine ⟨hg, rfl, rfl, PerBay.get_update_same .., State.fieldStored_freed (s := s.nextInstant) .., rfl, ?_⟩
    rw [exhaustedResult_eq]
    have hnext : v.retriesNext b = min 8 (n + 1) := rfl
    have hallow : v.allowance e = s.allowance e := rfl
    rw [hnext, hallow]
    simp

end

end Sys2Proof.Machine

/-!
PROOFS. The mount sequence (R107, R109, R110, R112): the wait for it, its beginning and its read.
-/

namespace Sys2Proof.Machine

section

variable {s : State} {b : Bay} {id : Nat} {e : Entry}

/-! ### Where nothing more follows in an instant -/

theorem State.Settled.wait (h : s.Settled) {f : State → Option State} (hf : f ∈ waits) : f s = none :=
  (firstWait_none s waits).1 h f hf

theorem eachBay_none {f : Bay → State → Option State} : eachBay f s = none ↔ ∀ b, f b s = none := by
  rw [eachBay, Option.or_eq_none_iff]
  exact ⟨fun h b => by cases b <;> [exact h.1; exact h.2], fun h => ⟨h _, h _⟩⟩

theorem firstEntry_none {f : State → Entry → Option State} :
    firstEntry f s = none ↔ ∀ e ∈ s.entries, f s e = none := List.findSome?_eq_none_iff

/-- What of one bay a settled state has no more to do. -/
theorem State.Settled.bay (h : s.Settled) {f : Bay → State → Option State} (hf : eachBay f ∈ waits) (b : Bay) :
    f b s = none := eachBay_none.1 (h.wait hf) b

/-- What of one entry a settled state has no more to do. -/
theorem State.Settled.entry (h : s.Settled) {f : State → Entry → Option State} (hf : firstEntry f ∈ waits)
    (he : e ∈ s.entries) : f s e = none := firstEntry_none.1 (h.wait hf) e he

/-! ### The wait for the mount (R144, R112) -/

theorem mem_bayOrder {t : TaskBlock} {b : Bay} : b ∈ bayOrder t ↔ b ∈ namedBays t := by
  cases b <;> simp [bayOrder]

theorem Entry.names_iff : e.names b = true ↔ b ∈ bayOrder e.block := by
  rw [mem_bayOrder, Entry.names, decide_eq_true_iff]

/-- R143, R144: a task whose waits have nothing to do waits on each of its bays that it has not passed. -/
theorem waitBays_none (h : s.waitBays e = none) (hb : e.names b = true) : s.waitBay e b = none := by
  unfold State.waitBays at h
  split at h
  · cases h
  · exact List.findSome?_eq_none_iff.1 h b (Entry.names_iff.1 hb)

/-- R112: a task that goes on waiting for a mount waits where none may begin. -/
theorem waitMount_none (h : s.waitMount e b = none) (hn : (s.map b).status = .none) : s.mountable b = false := by
  have hmounted : (s.map b).status.mounted = false := by rw [hn]; rfl
  unfold State.waitMount at h
  rw [hmounted, if_neg nofun] at h
  split at h
  · cases h
  split at h
  · cases h
  next hm => simpa using hm

theorem advanceEntry_bayWait (ha : e.state = .active) (hn : e.ending = none) (hs : e.stage = .bayWait) :
    s.advanceEntry e = s.waitBays e := by
  rw [State.advanceEntry, if_pos ⟨ha, hn⟩, hs]

/-! ### A mount sequence begins (R109) -/

/-- R59: an order handed back to any block but the mount tells the mount nothing. -/
theorem State.handBack?_maps {o : Option Order} {x : OrderState} (h : ∀ y, o = some y → y.giver ≠ .mount) :
    (s.handBack? b o x).maps = s.maps := by
  unfold State.handBack? State.handBack
  split
  · rfl
  next y =>
    split
    · rfl
    next hg => exact absurd hg (h y rfl)
    · rfl

/-- R59: an order held leaves the mount's wait, where no order behind the mount's back is the mount's own. -/
theorem State.holdOrder_spec (o : Order) (hh : ∀ y, (s.positioner b).held = some y → y.giver ≠ .mount)
    (hk : ∀ y, (s.positioner b).heldBehind = some y → y.giver ≠ .mount) : (s.holdOrder b o).maps = s.maps ∧
    ((s.holdOrder b o).positioner b = { s.positioner b with held := some o } ∨
      (s.holdOrder b o).positioner b = { s.positioner b with heldBehind := some o }) := by
  unfold State.holdOrder
  split
  · exact ⟨(State.modPositioner_maps ..).trans (State.handBack?_maps hk), .inr (by simp)⟩
  · exact ⟨(State.modPositioner_maps ..).trans (State.handBack?_maps hh), .inl (by simp)⟩

/-- R59: where the order of a mount goes that is not refused. -/
theorem State.giveOrder_load (o : Order) (ho : o.kind = .loadRecalibrate) (hs : s.supply.accepted = false)
    (hf : (s.positioner b).state ≠ .fault) (hh : ∀ y, (s.positioner b).held = some y → y.giver ≠ .mount)
    (hk : ∀ y, (s.positioner b).heldBehind = some y → y.giver ≠ .mount) : let t := s.giveOrder b o
    t.maps = s.maps ∧ (t.positioner b).reseekUsed = (s.positioner b).reseekUsed ∧
    ((t.positioner b).order = some o ∨ (t.positioner b).held = some o ∨ (t.positioner b).heldBehind = some o) := by
  have hheld : (s.holdOrder b o).maps = s.maps ∧
      ((s.holdOrder b o).positioner b).reseekUsed = (s.positioner b).reseekUsed ∧
      (((s.holdOrder b o).positioner b).order = some o ∨ ((s.holdOrder b o).positioner b).held = some o ∨
        ((s.holdOrder b o).positioner b).heldBehind = some o) := by
    obtain ⟨hm, hp | hp⟩ := State.holdOrder_spec (s := s) (b := b) o hh hk
    · exact ⟨hm, by rw [hp], .inr (.inl (by rw [hp]))⟩
    · exact ⟨hm, by rw [hp], .inr (.inr (by rw [hp]))⟩
  unfold State.giveOrder
  rw [hs, if_neg nofun]
  split
  next h => exact absurd h hf
  · split
    · have hcarry : s.carryOut b o = (s.modPositioner b fun p => { p with order := some o }).modPositioner b
          (recalibrateBegun s.settings) := by
        rw [State.carryOut, ho]
      rw [hcarry]
      refine ⟨by simp, ?_, .inl ?_⟩ <;> simp [recalibrateBegun, demandComputed, motionTimersStopped]
    · exact hheld
  · split
    · have hload : s.loadFor b o = s.modPositioner b fun p => loadBegun { p with order := some o } := by
        rw [State.loadFor, ho]
      rw [hload]
      refine ⟨by simp, ?_, .inl ?_⟩ <;> simp [loadBegun, motionTimersStopped]
    · exact hheld
  · exact hheld

/-- An order that an ended sequence has left is the mount's no more. -/
theorem orderLeft_giver {o : Option Order} {y : Order} (h : o.map orderLeft = some y) : y.giver ≠ .mount := by
  obtain ⟨x, -, rfl⟩ := Option.map_eq_some_iff.1 h
  unfold orderLeft
  split
  · exact nofun
  · assumption

/-- The state in which a mount sequence has begun, before its order is given. -/
def State.mountBegun (s : State) (b : Bay) : State :=
  (s.modMap b fun m => { m with mountStage := .loading, mountRetries := 0, mountOrder := .outstanding }).modPositioner b
    mountAwaited

theorem State.mountBegun_spec : (s.mountBegun b).map b =
      { s.map b with mountStage := .loading, mountRetries := 0, mountOrder := .outstanding } ∧
    (s.mountBegun b).positioner b = mountAwaited (s.positioner b) ∧ (s.mountBegun b).supply = s.supply := by
  refine ⟨?_, by simp [State.mountBegun], by simp [State.mountBegun]⟩
  rw [State.mountBegun, State.map_congr (State.modPositioner_maps ..), State.map_modMap, if_pos rfl]

/-! ### The mount's read (R110) -/

theorem State.countSoftError_told : ((s.countSoftError b).map b).mountStage = (s.map b).mountStage := by
  unfold State.countSoftError
  split
  · rw [State.map_modMap, if_pos rfl]
    rfl
  · rfl

theorem State.recordRead_eq (data : List Byte) : s.recordRead b data = (s.countSoftError b).mountReadEnd b
    (if (readRecord data).isSome then .valid else .damaged) ((readRecord data).getD ([], 0)).1
    ((readRecord data).getD ([], 0)).2 := by
  unfold State.recordRead
  dsimp only
  split
  next h => rw [h]; rfl
  next h => rw [h]; rfl

theorem State.fieldFailed_mount {i : Nat} (hc : s.client? b = some .mount) : s.fieldFailed b .mount i =
    ((s.freeSlot i).beginSearch (recordRun b)).failAttempt b .mount .data := by
  have hrun : s.channelRun b = some (recordRun b) := by rw [State.channelRun, hc]; rfl
  rw [State.fieldFailed, hrun]

/-- Settles O41: a wait that has nothing to do stands where no mount may begin, a mount that begins gives its
order, and its read ends by the check of its field. -/
theorem mountBeginsAndItsReadDecides : Obligations.MountBeginsAndItsReadDecides := by
  refine ⟨?_, ?_, ?_⟩
  · intro s hset b hsup hreset hbay hspin hnone e hmem ha hn hs hnames hw hidle
    have hadv := hset.entry (f := State.advanceEntry) (by simp [waits]) hmem
    rw [advanceEntry_bayWait ha hn hs] at hadv
    have hwait := waitBays_none hadv hnames
    rw [State.waitBay, hw] at hwait
    have hnot := waitMount_none hwait hnone
    have hmount : s.mountable b = true := by
      simp [State.mountable, State.ready, hbay, hspin, hnone, hidle, hreset, hsup]
    exact absurd (hnot.symm.trans hmount) nofun
  · intro s b hmount t given
    simp only [State.mountable, Bool.and_eq_true, beq_iff_eq, Bool.not_eq_true'] at hmount
    obtain ⟨⟨⟨⟨-, hnone⟩, -⟩, -⟩, hsup⟩ := hmount
    obtain ⟨hmap, hpos, hsupply⟩ := State.mountBegun_spec (s := s) (b := b)
    have ht : t = (s.mountBegun b).giveOrder b ⟨.loadRecalibrate, .mount⟩ := rfl
    obtain ⟨hbays, hspindles, -, hchannel, hslots, -⟩ := State.beginMount_frame s b
    have hside : BayKept s t b.other :=
      ((BayKept.modMap _).trans (BayKept.modPositioner _)).trans (BayKept.giveOrder _)
    have houter := State.outer_of_standing (standing_beginMount s b)
    simp only [State.outer, Prod.mk.injEq] at houter
    obtain ⟨hsettings, hcounts, -, hmem, -, -⟩ := houter
    refine and_assoc.1 (and_assoc.1 (and_assoc.1 (and_assoc.1 (and_assoc.1 ⟨?_, hbays, hspindles, hchannel, hslots,
      hside.map, hside.positioner, hcounts, hsettings, hmem⟩))))
    have hsup' : (s.mountBegun b).supply.accepted = false := by rw [hsupply]; exact hsup
    have hstate : ((s.mountBegun b).positioner b).state = (s.positioner b).state := by rw [hpos]; rfl
    by_cases hf : (s.positioner b).state = .fault
    · have hrefused : t = (s.mountBegun b).handBack b ⟨.loadRecalibrate, .mount⟩ .refused := by
        rw [ht, State.giveOrder, hsup', if_neg nofun, hstate, hf]
      have htm : t.map b = { (s.mountBegun b).map b with mountOrder := .refused } := by
        rw [hrefused, State.handBack, State.map_modMap, if_pos rfl, hmap, if_pos rfl]
      have htp : t.positioner b = mountAwaited (s.positioner b) := by
        rw [hrefused, State.positioner_handBack, hpos]
      rw [htm, htp, hmap]
      exact ⟨⟨⟨⟨⟨rfl, rfl⟩, hnone⟩, rfl⟩, fun _ => rfl⟩, fun h => absurd hf h⟩
    · obtain ⟨hmaps, hreseek, horder⟩ := State.giveOrder_load (s := s.mountBegun b) (b := b) ⟨.loadRecalibrate, .mount⟩
        rfl hsup' (by rw [hstate]; exact hf) (fun y hy => orderLeft_giver ((congrArg Positioner.held hpos).symm.trans hy))
        fun y hy => orderLeft_giver ((congrArg Positioner.heldBehind hpos).symm.trans hy)
      rw [← ht] at hmaps hreseek horder
      rw [State.map_congr hmaps, hmap, hreseek, hpos]
      exact ⟨⟨⟨⟨⟨rfl, rfl⟩, hnone⟩, rfl⟩, fun h => absurd h hf⟩, fun _ => ⟨rfl, horder⟩⟩
  · intro s f b hg hs hm i hi
    have hc : s.client? b = some .mount := if_pos hm
    have htake := takeReadEnd_mount f (s := s.nextInstant) hg hi hs hc
    let u := s.nextInstant.fieldStored i f.bytes.toList
    have humap : u.map b = s.map b := rfl
    by_cases hp : dataPasses f = true
    · refine ⟨_, next_instantEnd (htake.trans (if_pos hp)), ?_⟩
      intro n
      let data := f.bytes.toList
      have hside : BayKept u (u.recordRead b data) b.other := by
        rw [State.recordRead_eq]
        exact BayKept.countSoftError.trans (BayKept.mountReadEnd ..)
      have houter : (u.recordRead b data).outer = u.outer := State.outer_of_standing (by
        rw [State.recordRead_eq]
        exact (standing_mountReadEnd ..).trans (standing_countSoftError ..))
      simp only [State.outer, Prod.mk.injEq] at houter
      obtain ⟨hsettings, -, -, hmem, -, -⟩ := houter
      have hframe : (u.recordRead b data).bays = s.bays ∧ (u.recordRead b data).spindles = s.spindles := by
        rw [State.recordRead_eq]
        exact ⟨by simp [u, State.fieldStored, State.nextInstant], by simp [u, State.fieldStored, State.nextInstant]⟩
      obtain ⟨hmap, hchannel, -⟩ := State.mountReadEnd_spec (s := u.countSoftError b) (b := b)
        (if (readRecord data).isSome then .valid else .damaged) ((readRecord data).getD ([], 0)).1
        ((readRecord data).getD ([], 0)).2
      rw [← State.recordRead_eq] at hmap hchannel
      have hgrant : (u.countSoftError b).channel.grant = some b := by
        rw [(State.countSoftError_frame ..).2.2.2.2.1]
        exact hg
      rw [if_pos hgrant] at hchannel
      refine ⟨fun _ => ⟨congrArg Channel.grant hchannel, congrArg DefectMap.mountStage hmap, fun x hx => ?_,
        fun hx => ?_⟩, fun h => absurd (hp.symm.trans h) nofun, fun h => absurd (hp.symm.trans h) nofun,
        hframe.2, hframe.1, hside.map, hmem, hsettings⟩
      · rw [hmap, show readRecord data = some x from hx]
        exact ⟨rfl, rfl, rfl, readRecord_tableLaw hx _⟩
      · rw [hmap, show readRecord data = none from hx]
        exact ⟨rfl, rfl, rfl⟩
    · refine ⟨_, next_instantEnd (htake.trans (if_neg hp)), ?_⟩
      intro n
      rw [State.fieldFailed_mount (s := u) hc]
      obtain ⟨v, hv, hkept, hvouter, hvc, hvm, hvb, hvs⟩ : ∃ v, (u.freeSlot i).beginSearch (recordRun b) = v ∧
          BayKept s v b.other ∧ v.outer = s.outer ∧ v.channel = searchOf (recordRun b) u.channel ∧ v.map b = s.map b ∧
          v.bays = s.bays ∧ v.spindles = s.spindles :=
        ⟨_, rfl, .of_blocks rfl rfl rfl rfl, rfl, rfl, rfl, rfl, rfl⟩
      have hside := hkept.trans (BayKept.failAttempt .mount .data)
      have houter := (State.outer_of_standing (standing_failAttempt v b .mount .data)).trans hvouter
      simp only [State.outer, Prod.mk.injEq] at houter hvouter
      obtain ⟨hsettings, -, -, hmem, -, -⟩ := houter
      obtain ⟨hbays, hspindles, -, -⟩ := State.failAttempt_frame v b .mount .data
      obtain ⟨hagain, hover⟩ := State.failAttempt_mount (s := v) (b := b) .data (by rw [hvm, hm]; exact nofun)
      have hn : v.retriesNext b = n := by rw [State.retriesNext, hvc]; rfl
      have hgrant : v.channel.grant = some b := by rw [hvc]; exact hg
      rw [hn, hvouter.1, hvm] at hagain hover
      rw [hv]
      refine ⟨fun h => absurd h hp, fun _ hle => ?_, fun _ hgt => ?_, hspindles.trans hvs, hbays.trans hvb, hside.map,
        hmem, hsettings⟩
      · obtain ⟨hchannel, -, hmap⟩ := hagain hle
        rw [hchannel, hmap, State.failedChannel, hvc]
        exact ⟨hg, rfl, hm, rfl, rfl⟩
      · obtain ⟨hchannel, hmap⟩ := hover hgt
        rw [hchannel, hmap, if_pos hgrant]
        exact ⟨rfl, rfl, rfl, rfl, rfl⟩

end

end Sys2Proof.Machine

/-!
PROOFS. A press delivered as the write gate falls (R10, R97, R98): what it leaves of the field that has ended and of
the task that wrote it.
-/

namespace Sys2Proof.Machine

/-! ### An entry but for its order -/

/-- An entry but for the order it waits for, which a Stop order withdraws. -/
def Entry.core (e : Entry) : Entry := { e with order := .idle, awaitStop := none }

/-- R10: what an eject makes of a task. -/
def ejectedOn (b : Bay) (e : Entry) : Entry := if e.names b && !e.releases then decided .ejected 0 e else e

theorem decided_core (r : Result) (d : Nat) (e : Entry) : (decided r d e).core = decided r d e.core := by
  by_cases h : e.state = .active ∧ e.ending = none
  · have hc : e.core.state = .active ∧ e.core.ending = none := h
    rw [decided, decided, if_pos h, if_pos hc]
    have hk : (e.core.aborted && turnsAborted e.core.kind r) = (e.aborted && turnsAborted e.kind r) := rfl
    rw [hk]
    split <;> rfl
  · have hc : ¬(e.core.state = .active ∧ e.core.ending = none) := h
    rw [decided, decided, if_neg h, if_neg hc]

theorem ejectedOn_core (b : Bay) (e : Entry) : (ejectedOn b e).core = ejectedOn b e.core := by
  have hn : (e.core.names b && !e.core.releases) = (e.names b && !e.releases) := rfl
  rw [ejectedOn, ejectedOn, hn]
  split
  · exact decided_core ..
  · rfl

theorem ejectedOn_id (b : Bay) (e : Entry) : (ejectedOn b e).id = e.id := by
  unfold ejectedOn
  split
  · exact (decided_step ..).id
  · rfl

section

variable {s t : State} {b : Bay} {id : Nat} {e : Entry}

theorem State.entry?_map {f : Entry → Entry} (hid : ∀ x, (f x).id = x.id) (h : t.entries = s.entries.map f) (id : Nat) :
    t.entry? id = (s.entry? id).map f := by
  have hcomp : ((fun x : Entry => x.id == id) ∘ f) = fun x => x.id == id := funext fun x => by simp [hid]
  rw [State.entry?, h, List.find?_map, hcomp, State.entry?]

theorem State.entry?_core (h : t.entries.map Entry.core = s.entries.map Entry.core) (id : Nat) :
    (t.entry? id).map Entry.core = (s.entry? id).map Entry.core := by
  have hfind (u : State) : (u.entry? id).map Entry.core = (u.entries.map Entry.core).find? fun e => e.id == id := by
    rw [State.entry?, List.find?_map]
    rfl
  rw [hfind, hfind, h]

theorem State.stopTask_core (x : Entry) : (s.stopTask x).entries.map Entry.core = s.entries.map Entry.core := by
  unfold State.stopTask
  split
  · rw [State.modEntry_entries, (State.stopOrder_frame ..).2.2.2.2.2.2.2, List.map_map]
    refine List.map_congr_left fun y _ => ?_
    simp only [Function.comp]
    split <;> rfl
  · rfl

theorem State.ejectTasks_entries : ∃ u : State, u.entries.map Entry.core = s.entries.map Entry.core ∧
    (s.ejectTasks b).entries = u.entries.map (ejectedOn b) :=
  ⟨_, State.foldl_field (fun u : State => u.entries.map Entry.core) _ (fun _ _ => State.stopTask_core _) _ _, rfl⟩

/-- R10: an eject leaves a task as it was, but for the order it waits for, or with its end decided. -/
theorem State.enterReleasing_entry (d : Destination) (he : s.entry? id = some e) :
    ∃ y, (s.enterReleasing b d).entry? id = some y ∧ y.core = (ejectedOn b e).core := by
  obtain ⟨u, hu, hentries⟩ := State.ejectTasks_entries (b := b) (s := (s.modBay b fun c =>
    { c with
      state := .releasing d, prevent := false, idle := none, idleStop := false
      ejectRequested := if d = .ejecting then false else c.ejectRequested }).clearMount b)
  have hsame : u.entries.map Entry.core = s.entries.map Entry.core := by
    rw [hu, (State.clearMount_frame ..).2.2.2.2, State.modBay_entries]
  have hcore := State.entry?_core hsame id
  rw [he] at hcore
  obtain ⟨x, hx, hxe⟩ := Option.map_eq_some_iff.1 hcore
  have hfound := State.entry?_map (ejectedOn_id b) hentries id
  rw [hx] at hfound
  exact ⟨_, hfound, by rw [ejectedOn_core, hxe, ejectedOn_core]⟩

/-- R2: a press changes nothing, or the Bay Controller alone, or begins the release of the bay. -/
theorem State.press_cases : s.press b = s ∨ (∃ f, s.press b = s.modBay b f) ∨
    s.press b = s.enterReleasing b .ejecting := by
  unfold State.press
  split
  · exact .inl rfl
  split
  · exact .inl rfl
  · exact .inr (.inl ⟨_, rfl⟩)
  · split
    · exact .inr (.inl ⟨_, rfl⟩)
    · exact .inr (.inr rfl)
  · exact .inr (.inl ⟨_, rfl⟩)
  · exact .inl rfl
  · exact .inl rfl
  · exact .inr (.inl ⟨_, rfl⟩)

/-! ### The channel and the medium once a field is over -/

/-- The channel after a field, before anything uses it again, with the medium as it stands. -/
structure State.FieldOver (s : State) (m : Option MediumWrite) : Prop where
  gate : s.channel.writeGate = false
  press : s.channel.heldPress = none
  search : s.channel.search = .searching ∨ s.channel.search = .idle
  medium : s.mediumOut = m

variable {m : Option MediumWrite}

namespace State.FieldOver

theorem congr (h : s.FieldOver m) (hc : t.channel = s.channel) (hm : t.mediumOut = s.mediumOut) : t.FieldOver m where
  gate := by rw [hc, h.gate]
  press := by rw [hc, h.press]
  search := by rw [hc]; exact h.search
  medium := by rw [hm, h.medium]

theorem loseChannel (h : s.FieldOver m) : (s.loseChannel b).FieldOver m := by
  unfold State.loseChannel
  split
  · have hcut : s.cutField b = s := by
      unfold State.cutField
      rcases h.search with hs | hs <;> rw [hs]
    rw [hcut]
    exact ⟨rfl, h.press, .inr rfl, h.medium⟩
  · exact h

theorem withdrawWaiting (h : s.FieldOver m) : (s.withdrawWaiting b).FieldOver m := by
  unfold State.withdrawWaiting
  split
  · exact ⟨h.gate, h.press, h.search, h.medium⟩
  · exact h

theorem freeMountSlots (h : s.FieldOver m) : (s.freeMountSlots b).FieldOver m := by
  refine h.congr (by simp [State.freeMountSlots]) ?_
  refine State.foldl_field (fun u : State => u.mediumOut) _ (fun u i => ?_) _ _
  unfold State.dropSlot
  split <;> rfl

theorem clearMount (h : s.FieldOver m) : (s.clearMount b).FieldOver m := by
  have hcut : (s.endMount b).FieldOver m := by
    unfold State.endMount
    dsimp only
    split
    · exact h
    · refine congr (s := (if (s.map b).mountStage = .atChannel then (s.loseChannel b).withdrawWaiting b
        else s).freeMountSlots b) ?_ (State.modMap_channel ..) (State.modMap_mediumOut ..)
      split
      · exact h.loseChannel.withdrawWaiting.freeMountSlots
      · exact h.freeMountSlots
  exact hcut.congr (State.modMap_channel ..) (State.modMap_mediumOut ..)

theorem ejectTasks (h : s.FieldOver m) : (s.ejectTasks b).FieldOver m := by
  refine h.congr (State.ejectTasks_frame ..).2.2.2.2.1 ?_
  refine State.foldl_field (fun u : State => u.mediumOut) _ (fun u x => ?_) _ _
  unfold State.stopTask State.stopOrder State.stopMotion State.controlledStop
  repeat' split
  all_goals simp

theorem modBay (h : s.FieldOver m) (f : BayControl → BayControl) : (s.modBay b f).FieldOver m :=
  h.congr (State.modBay_channel ..) (State.modBay_mediumOut ..)

theorem enterReleasing (h : s.FieldOver m) (d : Destination) : (s.enterReleasing b d).FieldOver m :=
  ((h.modBay _).clearMount).ejectTasks

theorem pressed (h : s.FieldOver m) : (s.press b).FieldOver m := by
  obtain hp | ⟨f, hp⟩ | hp := State.press_cases (s := s) (b := b) <;> rw [hp]
  · exact h
  · exact h.modBay f
  · exact h.enterReleasing _

end State.FieldOver

/-- R2, R10: a press leaves a task as it was, but for the order it waits for, or ends it Ejected. -/
theorem State.press_entry (he : s.entry? id = some e) :
    ∃ y, (s.press b).entry? id = some y ∧ (y.core = e.core ∨ y.core = (ejectedOn b e).core) := by
  obtain hp | ⟨f, hp⟩ | hp := State.press_cases (s := s) (b := b) <;> rw [hp]
  · exact ⟨e, he, .inl rfl⟩
  · exact ⟨e, (State.entry?_congr (State.modBay_entries ..) id).trans he, .inl rfl⟩
  · obtain ⟨y, hy, hcore⟩ := State.enterReleasing_entry (b := b) .ejecting he
    exact ⟨y, hy, .inr hcore⟩

end

end Sys2Proof.Machine

/-!
PROOFS. The end of a data field that a task writes (R97, R114, R116, R125).
-/

namespace Sys2Proof.Machine

section

variable {s t : State} {b : Bay} {id i : Nat} {e : Entry} {f : Entry → Entry} {m : Option MediumWrite}

/-! ### The table a record establishes (R114, R116) -/

/-- Whether a task writes the Defect Record. -/
def Entry.writesRecord (e : Entry) : Prop := e.kind = some .reassign ∨ e.kind = some .resetRecord

theorem State.recordWritten_cases : s.recordWritten b e = s ∨ ∃ g, s.recordWritten b e = s.modMap b g := by
  unfold State.recordWritten
  split
  · split
    · exact .inr ⟨_, rfl⟩
    · exact .inl rfl
  · split
    · exact .inr ⟨_, rfl⟩
    · exact .inl rfl
  · exact .inl rfl

theorem State.recordWritten_plain (h : ¬e.writesRecord) : s.recordWritten b e = s := by
  unfold State.recordWritten
  split
  next hk => exact absurd (.inl hk) h
  next hk => exact absurd (.inr hk) h
  · rfl

theorem State.recordWritten_reassign (hk : e.kind = some .reassign) : s.recordWritten b e =
    if reassignResult e.block.address (s.map b) = none then s.modMap b (reassigned e.block.address) else s := by
  rw [State.recordWritten, hk]

theorem State.recordWritten_reset (hk : e.kind = some .resetRecord) : s.recordWritten b e =
    if (s.bay b).state = .locked then s.modMap b recordReset else s := by
  rw [State.recordWritten, hk]

/-- What a record established leaves of the state beside the map of its bay. -/
theorem State.recordWritten_frame : (s.recordWritten b e).entries = s.entries ∧
    (s.recordWritten b e).slots = s.slots ∧ (s.recordWritten b e).bays = s.bays ∧
    (s.recordWritten b e).spindles = s.spindles ∧ (s.recordWritten b e).positioners = s.positioners ∧
    (s.recordWritten b e).mediumOut = s.mediumOut ∧ (s.recordWritten b e).outer = s.outer := by
  obtain h | ⟨g, h⟩ := State.recordWritten_cases (s := s) (b := b) (e := e) <;> rw [h]
  · exact ⟨rfl, rfl, rfl, rfl, rfl, rfl, rfl⟩
  · exact ⟨State.modMap_entries .., State.modMap_slots .., State.modMap_bays .., State.modMap_spindles ..,
      State.modMap_positioners .., State.modMap_mediumOut .., State.outer_modMap ..⟩

/-! ### What is left where a sector is done -/

theorem State.sectorDone_channel : let t := s.sectorDone b id f
    t.channel = s.targetChannel b ∨ (∃ r, t.channel = searchOf r (s.targetChannel b)) ∨
      t.channel = releasedChannel (s.targetChannel b) := by
  intro t
  have hchannel := State.sectorTold_channel (s := s) (b := b) (id := id) (f := f)
  have ht : t = (s.sectorTold b id f).nextTarget b id := rfl
  generalize s.sectorTold b id f = u at hchannel ht
  rw [ht, ← hchannel]
  unfold State.nextTarget State.releaseOf
  split
  · exact .inr (.inl ⟨_, rfl⟩)
  · split
    · exact .inr (.inr rfl)
    · exact .inl rfl

theorem State.sectorDone_mediumOut : (s.sectorDone b id f).mediumOut = s.mediumOut := by
  unfold State.sectorDone State.nextTarget State.countSoftError State.newTarget State.releaseOf
  repeat' split
  all_goals simp [State.beginSearch, State.releaseChannel]

theorem State.sectorDone_outer : (s.sectorDone b id f).outer = s.outer := by
  unfold State.sectorDone State.nextTarget State.countSoftError State.newTarget State.releaseOf
  repeat' split
  all_goals simp [State.outer, State.beginSearch, State.releaseChannel]

/-- R94: the soft error of a sector leaves the Remap Table and its status. -/
theorem State.sectorDone_table : ((s.sectorDone b id f).map b).table = (s.map b).table ∧
    ((s.sectorDone b id f).map b).nextSpare = (s.map b).nextSpare ∧
    ((s.sectorDone b id f).map b).status = (s.map b).status := by
  rw [State.sectorDone_map]
  split <;> exact ⟨rfl, rfl, rfl⟩

/-! ### A field of a task written whole (R97, R125, R127) -/

/-- The end of a field in the counts of the task that wrote it. -/
def writtenCount (record : Bool) (e : Entry) : Entry := if record then completed e else sectorCounted true e

theorem writtenCount_id (record : Bool) (e : Entry) : (writtenCount record e).id = e.id := by
  unfold writtenCount
  split
  · exact (completed_kept e).2.1
  · exact (sectorCounted_kept true e).2

theorem State.sectorWritten_eq (he : s.entry? id = some e) : ∃ record : Bool, (record = true ↔ e.writesRecord) ∧
    s.sectorWritten b id i = ((s.recordWritten b e).freeSlot i).sectorDone b id (writtenCount record) := by
  unfold State.sectorWritten
  rw [he]
  dsimp only
  split
  next h => exact ⟨true, iff_of_true rfl h, rfl⟩
  next h =>
    refine ⟨false, iff_of_false nofun h, ?_⟩
    rw [State.recordWritten_plain h]
    rfl

/-- What the end of a written field leaves, from the state in which a press held over it has been delivered. -/
structure State.FieldDone (s t : State) (b : Bay) (id i : Nat) (e : Entry) (m : Option MediumWrite) : Prop where
  gate : t.channel.writeGate = false
  press : t.channel.heldPress = none
  retries : t.channel.retryCount.get b = 0
  slot : (t.slots[i]?.map fun y => (y.state, y.owner)) = s.slots[i]?.map fun _ => (SlotState.free, none)
  medium : t.mediumOut = m
  bays : t.bays = s.bays
  spindles : t.spindles = s.spindles
  positioners : t.positioners = s.positioners
  outer : t.outer = s.outer
  table : (t.map b).table = ((s.recordWritten b e).map b).table
  spare : (t.map b).nextSpare = ((s.recordWritten b e).map b).nextSpare
  status : (t.map b).status = ((s.recordWritten b e).map b).status
  record : e.writesRecord → (t.entry? id).map (fun y => y.ending) = some (completed e).ending
  plain : ¬e.writesRecord → (t.entry? id).map (fun y => (y.sectorsDone, y.next, y.ending)) =
    some (e.sectorsDone + 1, e.next + 1, if e.sectorsDone + 1 = e.block.count then (completed e).ending else e.ending)

theorem State.sectorWritten_done (hm : s.FieldOver m) (he : s.entry? id = some e) (ha : e.state = .active) :
    s.FieldDone (s.sectorWritten b id i) b id i e m := by
  obtain ⟨record, hrecord, ht⟩ := State.sectorWritten_eq (b := b) (i := i) he
  obtain ⟨hentries, hslots, hbays, hspindles, hpositioners, hmedium, houter⟩ :=
    State.recordWritten_frame (s := s) (b := b) (e := e)
  have hchannel := State.recordWritten_channel s b e
  generalize hu : s.recordWritten b e = u at hentries hslots hbays hspindles hpositioners hmedium houter hchannel ht
  have hfound : (u.freeSlot i).entry? id = some e := (State.entry?_congr hentries id).trans he
  obtain ⟨hdb, hds, -, hdp, hdslots, -⟩ := State.sectorDone_frame (u.freeSlot i) b id (writtenCount record)
  have hentry := State.sectorDone_entry (b := b) (writtenCount_id record) hfound
  obtain ⟨hnext, hdone, hend⟩ := runPopped_kept (writtenCount record e)
  obtain ⟨htable, hspare, hstatus⟩ := State.sectorDone_table (s := u.freeSlot i) (b := b) (id := id)
    (f := writtenCount record)
  have hgate : (u.freeSlot i).channel = s.channel := hchannel
  have hzero : ((u.freeSlot i).targetChannel b).retryCount.get b = 0 := PerBay.get_update_same ..
  have hdown : ((u.freeSlot i).targetChannel b).writeGate = false := (congrArg Channel.writeGate hgate).trans hm.gate
  have hheld : ((u.freeSlot i).targetChannel b).heldPress = none := (congrArg Channel.heldPress hgate).trans hm.press
  have hafter : (s.sectorWritten b id i).channel.writeGate = false ∧ (s.sectorWritten b id i).channel.heldPress = none ∧
      (s.sectorWritten b id i).channel.retryCount.get b = 0 := by
    rw [ht]
    obtain h | ⟨r, h⟩ | h := State.sectorDone_channel (s := u.freeSlot i) (b := b) (id := id)
      (f := writtenCount record) <;> rw [h]
    · exact ⟨hdown, hheld, hzero⟩
    · exact ⟨rfl, hheld, hzero⟩
    · exact ⟨rfl, hheld, hzero⟩
  rw [← ht] at hdb hds hdp hdslots hentry htable hspare hstatus
  exact {
    gate := hafter.1
    press := hafter.2.1
    retries := hafter.2.2
    slot := by rw [hdslots, State.freeSlot_spec, hslots]
    medium := by rw [ht, State.sectorDone_mediumOut, ← hm.medium, ← hmedium]; rfl
    bays := hdb.trans hbays
    spindles := hds.trans hspindles
    positioners := hdp.trans hpositioners
    outer := by rw [ht, State.sectorDone_outer, ← houter]; rfl
    table := htable.trans (by rw [hu]; rfl)
    spare := hspare.trans (by rw [hu]; rfl)
    status := hstatus.trans (by rw [hu]; rfl)
    record := fun h => by rw [hentry, Option.map_some, hend, hrecord.2 h]; rfl
    plain := fun h => by
      have hr : record = false := Bool.eq_false_iff.2 fun k => h (hrecord.1 k)
      rw [hentry, Option.map_some, hnext, hdone, hend, hr]
      exact congrArg some (sectorCounted_spec ha) }

/-! ### The press delivered as the gate falls -/

theorem State.pressDelivered_none (h : s.channel.heldPress = none) : s.pressDelivered = s := by
  rw [State.pressDelivered, deliverPress, h]
  rfl

theorem State.pressDelivered_some (h : s.channel.heldPress = some b) (hg : s.channel.writeGate = false) :
    s.pressDelivered = (s.modChannel fun c => { c with heldPress := none }).press b := by
  rw [State.pressDelivered, deliverPress, h]
  dsimp only
  rw [hg, if_neg (fun k => nomatch k.2)]
  rfl

theorem takeWriteEnd_task (hg : s.channel.grant = some b) (hs : s.channel.search = .writing)
    (hi : s.channel.slot = some i) (hc : s.client? b = some (.task id)) :
    takeWriteEnd s = (s.fieldWritten b i).pressDelivered.sectorWritten b id i := by
  unfold takeWriteEnd
  rw [hg]
  dsimp only
  rw [if_pos hs, hi, hc]

theorem State.modChannel_id {g : Channel → Channel} (h : g s.channel = s.channel) : s.modChannel g = s := by
  rw [State.modChannel, h]

theorem unheld {c : Channel} (h : c.heldPress = none) : { c with heldPress := none } = c := by
  cases c
  cases h
  rfl

/-- R97: the state once the gate has fallen and any press held over the field has left its wait. -/
def State.fieldFallen (s : State) (b : Bay) (i : Nat) : State :=
  (s.fieldWritten b i).modChannel fun c => { c with heldPress := none }

theorem State.fieldFallen_over : (s.fieldFallen b i).FieldOver (s.fieldWritten b i).mediumOut :=
  ⟨rfl, rfl, .inl rfl, rfl⟩

theorem State.fieldFallen_eq :
    s.channel.heldPress = none ∧ (s.fieldWritten b i).pressDelivered = s.fieldFallen b i ∨
    ∃ c, s.channel.heldPress = some c ∧ (s.fieldWritten b i).pressDelivered = (s.fieldFallen b i).press c := by
  cases h : s.channel.heldPress with
  | none =>
    have hsame : s.fieldFallen b i = s.fieldWritten b i :=
      State.modChannel_id (unheld (c := (s.fieldWritten b i).channel) h)
    exact .inl ⟨rfl, (State.pressDelivered_none (s := s.fieldWritten b i) h).trans hsame.symm⟩
  | some c => exact .inr ⟨c, rfl, State.pressDelivered_some (s := s.fieldWritten b i) h rfl⟩

/-- What the fallen gate leaves of the state before the field's end. -/
theorem State.fieldFallen_frame : (s.fieldFallen b i).entries = s.entries ∧ (s.fieldFallen b i).bays = s.bays ∧
    (s.fieldFallen b i).maps = s.maps ∧ (s.fieldFallen b i).spindles = s.spindles ∧
    (s.fieldFallen b i).positioners = s.positioners ∧ (s.fieldFallen b i).slots = s.slots ∧
    (s.fieldFallen b i).outer = s.outer := ⟨rfl, rfl, rfl, rfl, rfl, rfl, rfl⟩

/-- R10: the press of a bay that the task names and does not release ends the task Ejected. -/
theorem ejectedOn_ends (hn : e.names b = true) (hr : e.releases = false) (ha : e.state = .active) :
    ∃ d, ejectedOn b e = { e with ending := some (e.ending.getD .ejected), detail := d } := by
  obtain ⟨d, hd⟩ := decided_plain (r := .ejected) (d := 0) ha rfl
  refine ⟨d, ?_⟩
  rw [ejectedOn, hn, hr]
  refine hd.trans ?_
  cases e.ending <;> rfl

theorem ejectedOn_kept : (ejectedOn b e).state = e.state ∧ (ejectedOn b e).block = e.block := by
  unfold ejectedOn
  split
  · exact ⟨(decided_step ..).state, (decided_step ..).block⟩
  · exact ⟨rfl, rfl⟩

/-- A press leaves the task that wrote the field started, with its block. -/
theorem State.pressDelivered_entry (he : s.entry? id = some e) (ha : e.state = .active) :
    ∃ y, (s.fieldWritten b i).pressDelivered.entry? id = some y ∧ y.state = .active := by
  have hfallen : (s.fieldFallen b i).entry? id = some e := he
  obtain ⟨-, h⟩ | ⟨c, -, h⟩ := State.fieldFallen_eq (s := s) (b := b) (i := i) <;> rw [h]
  · exact ⟨e, hfallen, ha⟩
  · obtain ⟨y, hy, hcore | hcore⟩ := State.press_entry (b := c) hfallen
    · exact ⟨y, hy, (congrArg Entry.state hcore).trans ha⟩
    · exact ⟨y, hy, (congrArg Entry.state hcore).trans (ejectedOn_kept.1.trans ha)⟩

theorem State.pressDelivered_over :
    (s.fieldWritten b i).pressDelivered.FieldOver (s.fieldWritten b i).mediumOut := by
  obtain ⟨-, h⟩ | ⟨c, -, h⟩ := State.fieldFallen_eq (s := s) (b := b) (i := i) <;> rw [h]
  · exact State.fieldFallen_over
  · exact State.fieldFallen_over.pressed

/-- What a press leaves beside the bays, the channel and the slots' states. -/
theorem State.pressDelivered_kept : (s.fieldWritten b i).pressDelivered.spindles = s.spindles ∧
    (s.fieldWritten b i).pressDelivered.outer = s.outer ∧
    (s.fieldWritten b i).pressDelivered.slots.length = s.slots.length := by
  obtain ⟨-, h⟩ | ⟨c, -, h⟩ := State.fieldFallen_eq (s := s) (b := b) (i := i) <;> rw [h]
  · exact ⟨rfl, rfl, rfl⟩
  · have hstanding := standing_press (s.fieldFallen b i) c
    exact ⟨(State.press_frame ..).1, State.outer_of_standing hstanding, congrArg Standing.slotCount hstanding⟩

theorem State.fieldWritten_medium {w : Sector} {y : Slot} (hw : s.channel.target = some w)
    (hy : s.slots[i]? = some y) : (s.fieldWritten b i).mediumOut = some (.field b w (dataFieldBytes y.data)) := by
  simp [State.fieldWritten, hw, hy]

/-- R10, R114, R116: a bay that enters RELEASING keeps its table empty. -/
theorem State.recordWritten_releasing (hm : (s.map b).status = .none) (hb : (s.bay b).state ≠ .locked) :
    s.recordWritten b e = s := by
  by_cases hk : e.kind = some .reassign
  · rw [State.recordWritten_reassign hk, if_neg]
    simp [reassignResult, hm]
  by_cases hk' : e.kind = some .resetRecord
  · rw [State.recordWritten_reset hk', if_neg hb]
  · exact State.recordWritten_plain fun h => h.elim hk hk'

/-- Settles O42: the field written, the press held over it delivered, and the sector counted for its task. -/
theorem writtenFieldsEnd : Obligations.WrittenFieldsEnd := by
  intro s b hg hs i hi id hc hnd e he
  obtain ⟨ha, -, -, -⟩ := client_task hc hnd he
  let u := s.nextInstant
  obtain ⟨y, hy, hya⟩ := State.pressDelivered_entry (s := u) (b := b) (i := i) he ha
  obtain ⟨t, ht, hdone⟩ : ∃ t : State, exec .dataFieldWriteEnd s = .next t.instantEnd ∧
      (u.fieldWritten b i).pressDelivered.FieldDone t b id i y (u.fieldWritten b i).mediumOut :=
    ⟨(u.fieldWritten b i).pressDelivered.sectorWritten b id i, next_instantEnd (takeWriteEnd_task (s := u) hg hs hi hc),
      State.sectorWritten_done State.pressDelivered_over hy hya⟩
  refine ⟨t, ht, ?_⟩
  intro m ends plain record
  obtain ⟨hspindles, houter, hlength⟩ := State.pressDelivered_kept (s := u) (b := b) (i := i)
  have hcases := State.fieldFallen_eq (s := u) (b := b) (i := i)
  have hends : (completed e).ending = ends := completed_ending ha
  have hslot : (t.slots[i]?.map fun y => (y.state, y.owner)) = s.slots[i]?.map fun _ => (SlotState.free, none) := by
    rw [hdone.slot, ← List.getElem?_map, ← List.getElem?_map, List.map_const', List.map_const', hlength]
    rfl
  have hsame := hdone.outer.trans houter
  simp only [State.outer, Prod.mk.injEq] at hsame
  obtain ⟨hsettings, hcounts, -, hmem, -, -⟩ := hsame
  refine ⟨hdone.gate, hdone.press, hdone.retries, hslot,
    fun w hw z hz => hdone.medium.trans (State.fieldWritten_medium (s := u) hw hz), fun hheld => ?_,
    fun hheld hreset hsup hpresent hlocked hnames => ?_, hdone.spindles.trans hspindles, hmem, hsettings, hcounts⟩
  · obtain ⟨-, hv⟩ | ⟨c, hc', -⟩ := hcases
    swap
    · exact absurd (hheld.symm.trans hc') nofun
    rw [hv] at hy hdone
    cases hy.symm.trans (show (u.fieldFallen b i).entry? id = some e from he)
    have hmap : (u.fieldFallen b i).map b = m := rfl
    have htable := hdone.table
    have hspare := hdone.spare
    have hstatus := hdone.status
    refine ⟨fun hr => ?_, fun hk hnone => ?_, fun hk hbay => ?_, hdone.bays, hdone.positioners⟩
    · rw [State.recordWritten_plain hr, hmap] at htable hspare hstatus
      exact ⟨(hdone.plain hr).trans (by rw [hends]), htable, hspare, hstatus⟩
    · rw [State.recordWritten_reassign hk, hmap, if_pos hnone, State.map_modMap, if_pos rfl, hmap] at htable hspare hstatus
      exact ⟨(hdone.record (.inl hk)).trans (by rw [hends]), hstatus, htable, hspare⟩
    · rw [State.recordWritten_reset hk, if_pos (by exact hbay), State.map_modMap, if_pos rfl, hmap] at htable hspare hstatus
      exact ⟨(hdone.record (.inr hk)).trans (by rw [hends]), hstatus, htable, hspare⟩
  · obtain ⟨hc', -⟩ | ⟨c, hc', hv⟩ := hcases
    · exact absurd (hheld.symm.trans hc') nofun
    cases hheld.symm.trans hc'
    rw [hv] at hy hdone
    have hx : (u.fieldFallen b i).entry? id = some e := he
    have hdeaf : ((u.fieldFallen b i).resetInProgress || ((u.fieldFallen b i).bay b).presentUndecided ||
        (u.fieldFallen b i).supply.accepted) = false := by
      change (s.resetInProgress || (s.bay b).presentUndecided || s.supply.accepted) = false
      rw [hreset, hpresent, hsup]
      rfl
    have hstate : ((u.fieldFallen b i).bay b).state = .locked := hlocked
    refine ⟨fun hp => ?_, fun hp hrel => ?_⟩
    · have hmod : (u.fieldFallen b i).press b = (u.fieldFallen b i).modBay b fun c => { c with ejectRequested := true } := by
        have hprevent : ((u.fieldFallen b i).bay b).prevent = true := hp
        simp [State.press, hdeaf, hstate, hprevent]
      rw [hmod] at hy hdone
      cases hy.symm.trans ((State.entry?_congr (State.modBay_entries ..) id).trans hx)
      have hbay : t.bay b = { s.bay b with ejectRequested := true } := by
        rw [State.bay_congr hdone.bays, State.bay_modBay, if_pos rfl]
        rfl
      rw [hbay]
      exact ⟨hlocked, rfl, fun hr => (hdone.plain hr).trans (by rw [hends])⟩
    · have hrelease : (u.fieldFallen b i).press b = (u.fieldFallen b i).enterReleasing b .ejecting := by
        have hprevent : ((u.fieldFallen b i).bay b).prevent = false := hp
        simp [State.press, hdeaf, hstate, hprevent]
      rw [hrelease] at hy hdone
      obtain ⟨z, hz, hcore⟩ := State.enterReleasing_entry (b := b) .ejecting hx
      cases hy.symm.trans hz
      obtain ⟨d, hd⟩ := ejectedOn_ends hnames hrel ha
      rw [hd] at hcore
      have hzend : y.ending = some (e.ending.getD .ejected) := (congrArg Entry.ending hcore :)
      have hzblock : y.block = e.block := (congrArg Entry.block hcore :)
      have hzdone : y.sectorsDone = e.sectorsDone := (congrArg Entry.sectorsDone hcore :)
      have hkind : y.writesRecord ↔ record := by rw [Entry.writesRecord, Entry.kind, hzblock]; rfl
      have hcompleted : (completed y).ending = y.ending := by
        rw [completed_ending hya, hzend]
        rfl
      have hbay := enterReleasing_bay (s := u.fieldFallen b i) (b := b) .ejecting
      obtain ⟨hnone, hempty, hspare⟩ := enterReleasing_map (s := u.fieldFallen b i) (b := b) .ejecting
      have hrecord := State.recordWritten_releasing (e := y) hnone (by rw [hbay]; exact nofun)
      refine ⟨?_, ?_, ?_, ?_, ?_, fun hr => ?_⟩
      · rw [State.bay_congr hdone.bays, hbay]
      · rw [hdone.status, hrecord, hnone]
      · rw [hdone.table, hrecord, hempty]
      · rw [hdone.spare, hrecord, hspare]
      · by_cases hr : y.writesRecord
        · rw [hdone.record hr, hcompleted, hzend]
        · have hplain := entry_progress (hdone.plain hr) (g := fun x => x.2.2)
          refine hplain.trans ?_
          rw [hcompleted, ite_self, hzend]
      · have hplain := entry_progress (hdone.plain fun h => hr (hkind.1 h)) (g := fun x => x.1)
        exact hplain.trans (by rw [hzdone])

end

end Sys2Proof.Machine

/-!
PROOFS. Format Track (R48, R49, R100 to R102): the arming, the laying and the closing index.
-/

namespace Sys2Proof.Machine

section

variable {s t : State} {b : Bay} {id : Nat} {e : Entry} {r : Run}

/-! ### The end of the laying, and of one position (R100, R153) -/

theorem takeLayingEnd_task (hg : s.channel.grant = some b) (hs : s.channel.search = .formatting)
    (hf : s.channel.format = .laying) (hc : s.client? b = some (.task id)) (he : s.entry? id = some e) :
    takeLayingEnd s = s.trackLaid b e := by
  unfold takeLayingEnd
  rw [hg]
  dsimp only
  rw [if_pos ⟨hs, hf⟩, hc]
  dsimp only
  rw [he]

/-- R100: the track laid whole, with the gate down and the sequencer waiting for the closing index. -/
theorem State.trackLaid_spec : let t := s.trackLaid b e
    t.channel = { s.channel with format := .closing, writeGate := false, readGate := true } ∧
    t.mediumOut = some (.track b e.block.cylinder e.block.head
      (trackBytes e.block.cylinder e.block.head e.block.interleave e.block.fill)) ∧
    t.slots = s.slots ∧ t.bays = s.bays ∧ t.spindles = s.spindles ∧ t.maps = s.maps := by
  intro t
  have ht : t = s.trackLaid b e := rfl
  unfold State.trackLaid at ht
  rw [ht]
  dsimp only
  split <;> exact ⟨rfl, rfl, rfl, rfl, rfl, rfl⟩

theorem takeWriteEnd_laying (hg : s.channel.grant = some b) (hs : s.channel.search = .formatting)
    (hf : s.channel.format = .laying) : takeWriteEnd s = s.positionLaid b := by
  unfold takeWriteEnd
  rw [hg]
  dsimp only
  rw [if_neg (by rw [hs]; exact nofun), if_pos ⟨hs, hf⟩]

/-- R100: the channel with one more position laid. -/
def State.positionNext (s : State) : State :=
  s.modChannel fun c => { c with formatPosition := min 31 (c.formatPosition + 1) }

theorem State.positionLaid_on (hc : s.client? b = some (.task id)) (he : s.entry? id = some e)
    (ha : e.aborted = false) (hn : e.ending = none) : s.positionLaid b = s.positionNext := by
  unfold State.positionLaid
  rw [hc]
  dsimp only
  rw [he, Option.any_some, ha, hn]
  rfl

/-- R153: a marked format stops at the end of a position. -/
theorem State.positionLaid_marked (hc : s.client? b = some (.task id)) (he : s.entry? id = some e)
    (ha : e.aborted = true) : s.positionLaid b =
      ((s.positionNext.cutField b).releaseOf b).modEntry id (decided .aborted 0) := by
  unfold State.positionLaid
  rw [hc]
  dsimp only
  rw [he, Option.any_some, ha]
  rfl

/-! ### An index pulse (R48, R49) -/

/-- The state once an index pulse has been taken by the spindle. -/
def State.indexNext (s : State) (b : Bay) (elapsed : Nat) : State := s.nextInstant.modSpindle b (indexTaken elapsed)

theorem indexTaken_phase (elapsed : Nat) (q : Spindle) : (indexTaken elapsed q).phase = q.phase := by
  unfold indexTaken
  split <;> [split; skip] <;> rfl

theorem State.indexNext_frame (elapsed : Nat) : (s.indexNext b elapsed).channel = s.channel ∧
    (s.indexNext b elapsed).entries = s.entries ∧ (s.indexNext b elapsed).maps = s.maps ∧
    (s.indexNext b elapsed).bays = s.bays ∧ (s.indexNext b elapsed).positioners = s.positioners ∧
    (s.indexNext b elapsed).supply = s.supply := by
  simp [State.indexNext]

theorem State.indexNext_gate (elapsed c : Nat) : (s.indexNext b elapsed).gateAllowed b c = s.gateAllowed b c := by
  obtain ⟨hc, -, -, hb, hp, hsup⟩ := State.indexNext_frame (s := s) (b := b) elapsed
  have hphase : ((s.indexNext b elapsed).spindle b).phase = (s.spindle b).phase := by
    rw [State.indexNext, State.spindle_modSpindle, if_pos rfl, indexTaken_phase]
    rfl
  simp only [State.gateAllowed, hc, hsup, hphase, State.bay_congr hb, State.positioner_congr hp]

/-- R48: an accepted pulse is the new reference instant. -/
theorem indexTaken_accepted {elapsed : Nat} {q : Spindle} (h : indexAccepted q elapsed = true) :
    indexTaken elapsed q = if q.indexArmed then { q with indexSince := some 0, missCount := 0 } else q := by
  rw [indexTaken, h]
  simp

theorem takeIndex_accepted {elapsed : Nat} (h : indexAccepted (s.spindle b) elapsed = true) :
    takeIndex b elapsed s.nextInstant = (s.indexNext b elapsed).formatIndex b := if_pos h

theorem indexAccepted_of {elapsed : Nat} {q : Spindle} (h : q.indexArmed = false ∨ ∀ n, q.indexSince = some n →
    60000000 / q.activeTarget - 60000000 / q.activeTarget / 16 ≤ n + elapsed ∧
      n + elapsed ≤ 60000000 / q.activeTarget + 60000000 / q.activeTarget / 16) : indexAccepted q elapsed = true := by
  rcases h with h | h
  · rw [indexAccepted, h]
    rfl
  · unfold indexAccepted
    cases hn : q.indexSince with
    | none => simp
    | some n =>
      have hin : indexPeriod q.activeTarget - indexHalf q.activeTarget ≤ n + elapsed ∧
          n + elapsed ≤ indexPeriod q.activeTarget + indexHalf q.activeTarget := h n hn
      simp [hin]

/-! ### The index at the channel of a format (R100, R102) -/

theorem State.formatIndex_arming (hg : s.channel.grant = some b) (hs : s.channel.search = .formatting)
    (hf : s.channel.format = .arming) (hr : s.channelRun b = some r) : s.formatIndex b = s.beginLaying b r := by
  rw [State.formatIndex, if_pos ⟨hg, hs⟩, hf, hr]

theorem State.formatIndex_laying (hg : s.channel.grant = some b) (hs : s.channel.search = .formatting)
    (hf : s.channel.format = .laying) : s.formatIndex b = s.indexFault b := by
  rw [State.formatIndex, if_pos ⟨hg, hs⟩, hf]

theorem State.formatIndex_closing (hg : s.channel.grant = some b) (hs : s.channel.search = .formatting)
    (hf : s.channel.format = .closing) (hc : s.client? b = some (.task id)) :
    s.formatIndex b = (s.modEntry id completed).releaseChannel := by
  rw [State.formatIndex, if_pos ⟨hg, hs⟩, hf, hc]

/-- R100: the channel from the arming index on. -/
def layingBegun (c : Channel) : Channel :=
  { c with format := .laying, formatRevs := 0, formatPosition := 0, writeGate := true, readGate := false }

theorem State.beginLaying_spec (h : s.gateAllowed b r.cylinder = true) : let t := s.beginLaying b r
    t.channel = layingBegun s.channel ∧ t.entries = s.entries ∧
    (r.cylinder = 638 → r.head = 0 →
      (t.map b).status = .absent ∧ (t.map b).table = [] ∧ (t.map b).nextSpare = 0) ∧
    (¬(r.cylinder = 638 ∧ r.head = 0) → t.map b = s.map b) := by
  intro t
  have ht : t = if r.cylinder = 638 ∧ r.head = 0 then (s.modChannel layingBegun).modMap b fun m =>
      { m with status := .absent, table := [], nextSpare := 0 } else s.modChannel layingBegun := if_pos h
  by_cases hr : r.cylinder = 638 ∧ r.head = 0
  · rw [if_pos hr] at ht
    have hmap : t.map b = { s.map b with status := .absent, table := [], nextSpare := 0 } := by
      rw [ht, State.map_modMap, if_pos rfl]
      rfl
    rw [hmap, ht]
    exact ⟨by simp, by simp, fun _ _ => ⟨rfl, rfl, rfl⟩, fun h => absurd hr h⟩
  · rw [if_neg hr] at ht
    rw [ht]
    exact ⟨rfl, rfl, fun h1 h2 => absurd ⟨h1, h2⟩ hr, fun _ => rfl⟩

/-- R100, R153: a marked format that stops between two positions ends Aborted and leaves the channel. -/
theorem State.positionLaid_aborted (hg : s.channel.grant = some b) (hc : s.client? b = some (.task id))
    (he : s.entry? id = some e) (hact : e.state = .active) (ha : e.aborted = true) (hn : e.ending = none) :
    (s.positionLaid b).channel.grant = none ∧ (s.positionLaid b).channel.writeGate = false ∧
    ((s.positionLaid b).entry? id).map (fun y => y.ending) = some (some .aborted) := by
  obtain ⟨-, -, -, -, -, hchannel, -, hentries⟩ := State.cutField_frame s.positionNext b
  have hrelease : (s.positionNext.cutField b).releaseOf b = (s.positionNext.cutField b).modChannel releasedChannel :=
    State.releaseOf_spec (by rw [hchannel]; exact hg)
  have hfound : ((s.positionNext.cutField b).modChannel releasedChannel).entry? id = some e :=
    (State.entry?_congr hentries id).trans he
  obtain ⟨d, hd⟩ := decided_plain (e := e) (r := .aborted) (d := 0) hact rfl
  rw [State.positionLaid_marked hc he ha, hrelease, State.entry?_modEntry (fun x => (decided_step ..).id) hfound, hd, hn]
  exact ⟨rfl, rfl, rfl⟩

/-- Settles O43: the end of the laying and of a position, and the index pulse in each state of a format. -/
theorem formatLaysTheTrack : Obligations.FormatLaysTheTrack := by
  intro s b hg hs id hc hnd e he r hr ends
  obtain ⟨ha, -, -, -⟩ := client_task hc hnd he
  refine ⟨fun hf => ⟨?_, fun hab hn => ?_, fun hab hn => ?_⟩, ?_⟩
  · obtain ⟨hchannel, hmedium, hslots, hbays, hspindles, hmaps⟩ := State.trackLaid_spec (s := s.nextInstant) (b := b)
      (e := e)
    refine ⟨_, next_instantEnd (takeLayingEnd_task (s := s.nextInstant) hg hs hf hc he), ?_, ?_, ?_, ?_, hmedium, hslots,
      hbays, hspindles, hmaps⟩ <;> rw [hchannel]
    exact hg
  · exact next_instantEnd ((takeWriteEnd_laying (s := s.nextInstant) hg hs hf).trans
      (State.positionLaid_on hc he hab hn))
  · exact ⟨_, next_instantEnd (takeWriteEnd_laying (s := s.nextInstant) hg hs hf),
      State.positionLaid_aborted (s := s.nextInstant) hg hc he ha hab hn⟩
  · intro elapsed q period half hin
    have hacc : indexAccepted q elapsed = true := indexAccepted_of hin
    let u := s.indexNext b elapsed
    obtain ⟨huc, hue, hum, hub, hup, -⟩ := State.indexNext_frame (s := s) (b := b) elapsed
    have hclient : u.client? b = some (.task id) := (State.client?_congr hue hum b).trans hc
    have hentry : u.entry? id = some e := (State.entry?_congr hue id).trans he
    have hrun : u.channelRun b = some r := by
      rw [State.channelRun, hclient]
      exact (State.clientRun?_task (b := b) hentry).trans hr
    have hug : u.channel.grant = some b := by rw [huc]; exact hg
    have hus : u.channel.search = .formatting := by rw [huc]; exact hs
    obtain ⟨hbays, hspindles, -, hpositioners, -⟩ := State.formatIndex_frame u b
    have hspindle (c : Bay) : (u.formatIndex b).spindle c = if c = b then indexTaken elapsed q else s.spindle c := by
      rw [State.spindle_congr hspindles]
      refine (State.spindle_modSpindle ..).trans ?_
      split
      next h => rw [h]; rfl
      · rfl
    refine ⟨_, next_instantEnd (takeIndex_accepted hacc), ?_, ?_, hbays.trans hub, hpositioners.trans hup,
      fun hf hgate => ?_, fun hf hgate => ?_, fun hf => ?_, fun hf => ?_⟩
    · rw [hspindle, if_pos rfl, indexTaken_accepted hacc]
    · rw [hspindle, if_neg (by cases b <;> exact nofun)]
    · have hstill : u.formatIndex b = u := (State.formatIndex_arming hug hus (by rw [huc]; exact hf) hrun).trans
        (if_neg (by rw [State.indexNext_gate, hgate]; exact nofun))
      rw [hstill]
      exact ⟨huc, hue, hum⟩
    · rw [State.formatIndex_arming hug hus (by rw [huc]; exact hf) hrun]
      obtain ⟨hchannel, hentries, hlost, hkept⟩ := State.beginLaying_spec (s := u) (b := b) (r := r)
        (by rw [State.indexNext_gate, hgate])
      rw [hchannel]
      exact ⟨rfl, rfl, rfl, rfl, hug, hentries.trans hue, hlost, fun h => (hkept h).trans (State.map_congr hum b)⟩
    · rw [State.formatIndex_laying hug hus (by rw [huc]; exact hf)]
      obtain ⟨hchannel, hend⟩ := State.indexFault_spec hclient (by rw [hue]; exact hnd) hentry
      rw [hchannel]
      exact ⟨rfl, rfl, hend⟩
    · rw [State.formatIndex_closing hug hus (by rw [huc]; exact hf) hclient]
      refine ⟨rfl, ?_⟩
      have hdone := State.entry?_modEntry (f := completed) (fun x => (completed_kept x).2.1) hentry
      refine (congrArg (Option.map _) hdone).trans ?_
      rw [Option.map_some, completed_ending ha]

end

end Sys2Proof.Machine

/-!
PROOFS. The waits that do not look at the chain walk (R161, R162): where the fetcher alone goes on, none of them ends.
-/

namespace Sys2Proof.Machine

/-- The state with the chain walk at another step. -/
def State.fetching (s : State) (w : Fetch) : State := { s with link := { s.link with fetch := w } }

/-- A wait whose end does not depend on the step of the chain walk. -/
def BlindToFetch (f : State → Option State) : Prop := ∀ s w, (f (s.fetching w)).isSome = (f s).isSome

namespace BlindToFetch

variable {b : Bay} {e : Entry}

theorem keeps_none {f : State → Option State} (h : BlindToFetch f) {s : State} (hf : f s = none) (w : Fetch) :
    f (s.fetching w) = none := by
  have hsome := h s w
  rw [hf] at hsome
  exact Option.isNone_iff_eq_none.1 (Option.isSome_eq_false_iff.1 hsome)

theorem eachBay {f : Bay → State → Option State} (h : ∀ b, BlindToFetch (f b)) : BlindToFetch (eachBay f) := by
  intro s w
  rw [Machine.eachBay, Machine.eachBay, Option.isSome_or, Option.isSome_or, h, h]

theorem findSome?_isSome_congr {α β : Type} {f g : α → Option β} (h : ∀ a, (f a).isSome = (g a).isSome) (l : List α) :
    (l.findSome? f).isSome = (l.findSome? g).isSome := by
  rw [List.isSome_findSome?, List.isSome_findSome?]
  simp only [h]

theorem firstEntry {f : State → Entry → Option State} (h : ∀ e, BlindToFetch fun s => f s e) :
    BlindToFetch (firstEntry f) := fun s w => findSome?_isSome_congr (fun e => h e s w) s.entries

/-! ### The channel, the actuators and the bays -/

theorem deliverPress : BlindToFetch deliverPress := by
  intro s w
  unfold Machine.deliverPress
  rw [show (s.fetching w).channel = s.channel from rfl]
  cases s.channel.heldPress with
  | none => rfl
  | some x =>
    simp only [apply_ite Option.isSome]
    rfl

theorem restartSensing : BlindToFetch (restartSensing b) := by
  intro s w
  simp only [Machine.restartSensing, apply_ite Option.isSome]
  rfl

theorem leaveHalted : BlindToFetch leaveHalted := by
  intro s w
  simp only [Machine.leaveHalted, apply_ite Option.isSome]
  rfl

theorem changeHead : BlindToFetch (changeHead b) := by
  intro s w
  unfold Machine.changeHead
  rw [show (s.fetching w).positioner b = s.positioner b from rfl]
  cases (s.positioner b).pendingHead with
  | none => rfl
  | some x =>
    simp only [apply_ite Option.isSome]
    rfl

theorem leaveFault : BlindToFetch (leaveFault b) := by
  intro s w
  simp only [Machine.leaveFault, apply_ite Option.isSome]
  rfl

theorem releaseOrphan : BlindToFetch releaseOrphan := by
  intro s w
  unfold Machine.releaseOrphan
  rw [show (s.fetching w).channel = s.channel from rfl]
  cases s.channel.grant with
  | none => rfl
  | some x =>
    simp only [apply_ite Option.isSome]
    rfl

theorem serveWaiter : BlindToFetch State.serveWaiter := by
  have hsome (u : State) : u.serveWaiter.isSome =
      (u.freeSlot?.isSome && (u.waiters.find? fun w => decide (u.slotsOf w < Config.slotQuota)).isSome) := by
    unfold State.serveWaiter
    cases u.freeSlot? <;> cases u.waiters.find? _ <;> simp
    split <;> rfl
  intro s w
  rw [hsome, hsome]
  rfl

theorem takeHeldPark : BlindToFetch (takeHeldPark b) := by
  intro s w
  simp only [Machine.takeHeldPark, apply_ite Option.isSome]
  rfl

theorem serveWaitingBay : BlindToFetch serveWaitingBay := by
  intro s w
  unfold Machine.serveWaitingBay
  rw [show (s.fetching w).channel = s.channel from rfl]
  cases s.channel.waiting with
  | none => rfl
  | some x =>
    simp only [apply_ite Option.isSome]
    rfl

theorem endUnreliable : BlindToFetch endUnreliable := by
  intro s w
  unfold Machine.endUnreliable
  rw [show (s.fetching w).channel = s.channel from rfl]
  cases s.channel.grant with
  | none => rfl
  | some x =>
    simp only [apply_ite Option.isSome]
    rfl

theorem stopIdle : BlindToFetch (stopIdle b) := by
  intro s w
  simp only [Machine.stopIdle, apply_ite Option.isSome]
  rfl

theorem advanceRelease : BlindToFetch (advanceRelease b) := by
  intro s w
  unfold Machine.advanceRelease
  rw [show (s.fetching w).bay b = s.bay b from rfl]
  cases (s.bay b).state with
  | releasing d =>
    simp only [apply_ite Option.isSome]
    rfl
  | _ => rfl

theorem runDown : BlindToFetch (runDown b) := by
  intro s w
  unfold Machine.runDown
  rw [show (s.fetching w).bay b = s.bay b from rfl]
  cases (s.bay b).state <;> (simp only [apply_ite Option.isSome]; rfl)

theorem takeHeldOrder : BlindToFetch (takeHeldOrder b) := by
  intro s w
  unfold Machine.takeHeldOrder
  rw [show (s.fetching w).positioner b = s.positioner b from rfl]
  dsimp only
  cases (s.positioner b).held with
  | none => rfl
  | some x =>
    simp only [apply_ite Option.isSome]
    rfl

theorem advanceMount : BlindToFetch (advanceMount b) := by
  intro s w
  unfold Machine.advanceMount
  rw [show (s.fetching w).map b = s.map b from rfl]
  dsimp only
  cases (s.map b).mountStage with
  | atChannel =>
    simp only [apply_ite Option.isSome]
    rfl
  | _ => cases (s.map b).mountOrder <;> rfl

theorem driveEject : BlindToFetch (driveEject b) := by
  intro s w
  simp only [Machine.driveEject, apply_ite Option.isSome]
  rfl

theorem makeRequest : BlindToFetch (makeRequest b) := by
  intro s w
  simp only [Machine.makeRequest, apply_ite Option.isSome]
  rfl

/-! ### The entries of the Task Queue -/

theorem reportStop : BlindToFetch (State.reportStop · e) := by
  intro s w
  unfold State.reportStop
  cases e.awaitStop with
  | none => rfl
  | some x =>
    simp only [apply_ite Option.isSome]
    rfl

theorem tidyEntry : BlindToFetch (State.tidyEntry · e) := by
  intro s w
  simp only [State.tidyEntry, apply_ite Option.isSome]
  rfl

theorem abortEntry : BlindToFetch (State.abortEntry · e) := by
  intro s w
  simp only [State.abortEntry, apply_ite Option.isSome]
  rfl

theorem takeAhead : BlindToFetch (State.takeAhead · e) := by
  intro s w
  change ((s.fetching w).takeAhead e).isSome = (s.takeAhead e).isSome
  unfold State.takeAhead
  rw [show (s.fetching w).freeSlot? = s.freeSlot? from rfl]
  cases s.freeSlot? <;> (simp only [apply_ite Option.isSome]; rfl)

theorem handOverEntry : BlindToFetch (handOverEntry · e) := by
  intro s w
  simp only [Machine.handOverEntry, apply_ite Option.isSome]
  rfl

theorem startEntry : BlindToFetch (startEntry · e) := by
  intro s w
  simp only [Machine.startEntry, apply_ite Option.isSome]
  rfl

theorem waitEntry : BlindToFetch (waitEntry · e) := by
  intro s w
  simp only [Machine.waitEntry, apply_ite Option.isSome]
  rfl

/-! ### One step of a started task -/

theorem waitSpindle : BlindToFetch (State.waitSpindle · e b) := by
  intro s w
  simp only [State.waitSpindle, apply_ite Option.isSome]
  rfl

theorem waitMount : BlindToFetch (State.waitMount · e b) := by
  intro s w
  simp only [State.waitMount, apply_ite Option.isSome]
  rfl

theorem waitBay : BlindToFetch (State.waitBay · e b) := by
  intro s w
  unfold State.waitBay
  cases e.waits.get b
  case spindle => exact waitSpindle s w
  case mount => exact waitMount s w
  case passed => rfl

theorem waitBays : BlindToFetch (State.waitBays · e) := by
  intro s w
  simp only [State.waitBays, apply_ite Option.isSome]
  rw [findSome?_isSome_congr fun b => waitBay s w]
  rfl

theorem waitPositioner : BlindToFetch (State.waitPositioner · e) := by
  intro s w
  unfold State.waitPositioner
  cases e.order with
  | ended =>
    simp only [apply_ite Option.isSome]
    rfl
  | _ => rfl

theorem waitChannel : BlindToFetch (State.waitChannel · e) := by
  intro s w
  unfold State.waitChannel
  cases e.run with
  | none => rfl
  | some r =>
    simp only [apply_ite Option.isSome]
    rfl

theorem waitDrain : BlindToFetch (State.waitDrain · e) := by
  intro s w
  simp only [State.waitDrain, apply_ite Option.isSome]
  rfl

theorem waitPark : BlindToFetch (State.waitPark · e) := by
  intro s w
  unfold State.waitPark
  cases e.order <;> rfl

theorem waitStop : BlindToFetch (State.waitStop · e) := by
  intro s w
  change ((s.fetching w).waitStop e).isSome = (s.waitStop e).isSome
  unfold State.waitStop
  rw [show (s.fetching w).spindle e.bay = s.spindle e.bay from rfl]
  cases (s.spindle e.bay).phase <;> rfl

theorem advanceEntry : BlindToFetch (State.advanceEntry · e) := by
  intro s w
  unfold State.advanceEntry
  cases e.stage <;> simp only [apply_ite Option.isSome, waitBays s w, waitPositioner s w, waitChannel s w,
    waitDrain s w, waitPark s w, waitStop s w]

/-! ### All waits but those of the Link Port -/

theorem waits : ∀ f ∈ waits.dropLast.dropLast.dropLast, BlindToFetch f := by
  simp only [Machine.waits, List.dropLast, List.mem_cons, forall_eq_or_imp, List.not_mem_nil, false_imp_iff,
    implies_true, and_true]
  exact ⟨deliverPress, eachBay fun _ => restartSensing, leaveHalted, eachBay fun _ => changeHead,
    eachBay fun _ => leaveFault, firstEntry fun _ => reportStop, firstEntry fun _ => tidyEntry, releaseOrphan,
    serveWaiter, eachBay fun _ => takeHeldPark, serveWaitingBay, endUnreliable, eachBay fun _ => stopIdle,
    eachBay fun _ => advanceRelease, eachBay fun _ => runDown, eachBay fun _ => takeHeldOrder,
    eachBay fun _ => advanceMount, eachBay fun _ => driveEject, firstEntry fun _ => abortEntry,
    firstEntry fun _ => advanceEntry, firstEntry fun _ => takeAhead, eachBay fun _ => makeRequest,
    firstEntry fun _ => handOverEntry, firstEntry fun _ => startEntry, firstEntry fun _ => waitEntry⟩

end BlindToFetch

end Sys2Proof.Machine

/-!
PROOFS. What holds where no wait has ended (R13, R17, R60, R76, R90, R91, R98, R120, R136, R138, R146, R157, R159 to
R162).
-/

namespace Sys2Proof.Machine

section

variable {s t : State} {b : Bay} {e : Entry}

/-! ### A wait that has nothing to do -/

theorem deliverPress_none (h : deliverPress s = none) (hp : s.channel.heldPress = some b) :
    s.channel.grant = some b ∧ s.channel.writeGate = true := by
  rw [deliverPress, hp] at h
  dsimp only at h
  split at h
  · assumption
  · cases h

theorem releaseOrphan_none (h : releaseOrphan s = none) (hg : s.channel.grant = some b) : s.client? b ≠ none := by
  rw [releaseOrphan, hg] at h
  dsimp only at h
  split at h
  · cases h
  · assumption

theorem serveWaitingBay_none (h : serveWaitingBay s = none) (hw : s.channel.waiting = some b) :
    s.channel.grant ≠ none ∧ s.requestStands b = true := by
  rw [serveWaitingBay, hw] at h
  dsimp only at h
  split at h
  · cases h
  next hstands =>
    split at h
    · cases h
    next hg => exact ⟨hg, by simpa using hstands⟩

theorem driveEject_none (h : driveEject b s = none) (he : (s.bay b).eject = true) : s.ejectAllowed b = true := by
  unfold driveEject at h
  dsimp only at h
  split at h
  · cases h
  split at h
  · cases h
  next hnot => simpa [he] using hnot

theorem leaveFault_none (h : leaveFault b s = none) (hb : (s.bay b).state = .fault) :
    (s.positioner b).state ≠ .parked := by
  intro hp
  rw [leaveFault, if_pos ⟨hb, hp⟩] at h
  cases h

theorem changeHead_none (h : changeHead b s = none) (hp : (s.positioner b).pendingHead ≠ none) :
    s.channel.grant = some b := by
  unfold changeHead at h
  split at h
  next hn => exact absurd hn hp
  · split at h
    · assumption
    · cases h

theorem takeHeldPark_none (h : takeHeldPark b s = none) {g : Giver} (hf : (s.positioner b).state = .following)
    (hh : (s.positioner b).held = some ⟨.park, g⟩) : s.channel.grant = some b := by
  by_contra hg
  have hpark : heldPark (s.positioner b) = true := by rw [heldPark, hh]; rfl
  rw [takeHeldPark, if_pos ⟨hf, hpark, hg⟩] at h
  cases h

theorem serveWaiter_none (h : s.serveWaiter = none) (hf : s.freeSlot? ≠ none) :
    ∀ id ∈ s.waiters, Config.slotQuota ≤ s.slotsOf id := by
  obtain ⟨i, hi⟩ := Option.ne_none_iff_exists'.1 hf
  have hfind : s.waiters.find? (fun w => decide (s.slotsOf w < Config.slotQuota)) = none := by
    rw [State.serveWaiter, hi] at h
    split at h
    · split at h <;> cases h
    next hno =>
      by_contra hsome
      obtain ⟨w, hw⟩ := Option.ne_none_iff_exists'.1 hsome
      exact hno i w rfl hw
  intro id hid
  have hnot := List.find?_eq_none.1 hfind id hid
  simpa using hnot

theorem handOverEntry_none (h : handOverEntry s e = none) : s.handsOver e = false := by
  unfold handOverEntry at h
  split at h
  · cases h
  · simpa using ‹¬s.handsOver e = true›

theorem startEntry_none (h : startEntry s e = none) (hq : e.state = .queued ∨ e.state = .waiting)
    (hn : e.ending = none) (hs : s.supply.accepted = false) : s.turnCome e = false := by
  by_contra hturn
  rw [startEntry, if_pos ⟨hq, hn, by simpa using hturn, by simp [hs]⟩] at h
  cases h

/-- R146: a Spin Down that waits for its stop and has nothing to do has its spindle STOPPING. -/
theorem advanceEntry_stopping (h : s.advanceEntry e = none) (ha : e.state = .active) (hn : e.ending = none)
    (hs : e.stage = .stopping) : (s.spindle e.bay).phase = .stopping := by
  rw [State.advanceEntry, if_pos ⟨ha, hn⟩, hs] at h
  dsimp only at h
  unfold State.waitStop at h
  split at h
  · cases h
  · assumption
  · cases h

theorem goOfflineNow_none (h : goOfflineNow s = none) (hd : s.link.state = .draining) (he : s.entries = []) :
    s.takeStands = true := by
  by_contra hnot
  rw [goOfflineNow, if_pos ⟨hd, he, by simpa using hnot⟩] at h
  cases h

/-- R162: outside RUNNING no take is left that has not come to its step 1. -/
theorem withdrawFetch_none (h : withdrawFetch s = none) (hr : s.link.state ≠ .running) :
    s.link.fetch ≠ .readLink ∧ ∀ a, s.link.fetch = .readBlock a → s.burst.map Burst.work = some (.readBlock a) := by
  by_cases hstands : s.takeStands = true
  · unfold State.takeStands at hstands
    refine ⟨fun hf => ?_, fun a hf => ?_⟩ <;> rw [hf] at hstands
    · cases hstands
    · cases hb : s.burst with
      | none =>
        rw [hb] at hstands
        cases hstands
      | some x =>
        rw [hb] at hstands
        simpa using hstands
  · rw [withdrawFetch, if_neg (by simp [hr, hstands])] at h
    refine ⟨fun hf => ?_, fun a hf => ?_⟩ <;> rw [hf] at h <;> cases h

/-! ### The fetcher's own wait (R159 to R161) -/

/-- R159 to R161: what makes the fetcher look at the Posted Count. -/
structure State.FetcherWaits (s : State) : Prop where
  running : s.link.state = .running
  noReset : s.resetInProgress = false
  fetch : s.link.fetch = .idle
  attention : s.link.attentionHeld = false
  start : s.link.startWrite = false
  clear : s.link.faultClear = false
  busy : s.fetcherBusy = false

theorem State.FetcherWaits.free (h : s.FetcherWaits) : s.fetcherFree = true := by
  simp [State.fetcherFree, State.mayFetch, h.running, h.noReset, h.fetch, h.attention, h.start, h.clear, h.busy]

theorem beginFetch_skew (h : s.FetcherWaits) (hp : 32768 < s.postedAhead) :
    beginFetch s = some (s.fetching (.writeFault .countSkew)) := by
  rw [beginFetch, if_pos h.free, if_pos hp]
  rfl

theorem beginFetch_posted (h : s.FetcherWaits) (hp : ¬32768 < s.postedAhead) (h0 : 0 < s.postedAhead)
    (hd : s.link.pollDue = false) (hq : s.entries.length < 8) : beginFetch s = some (s.fetching .readLink) := by
  rw [beginFetch, if_pos h.free, if_neg hp, if_pos ⟨h0, by simp [hd], hq⟩]
  rfl

theorem beginFetch_none (h : s.FetcherWaits) (hn : beginFetch s = none) :
    s.postedAhead ≤ 32768 ∧ (s.link.pollDue = false → s.postedAhead = 0 ∨ 8 ≤ s.entries.length) := by
  have hle : ¬32768 < s.postedAhead := fun hp => by
    rw [beginFetch_skew h hp] at hn
    cases hn
  refine ⟨Nat.not_lt.1 hle, fun hd => ?_⟩
  by_contra hnot
  rw [beginFetch_posted h hle (by omega) hd (by omega)] at hn
  cases hn

/-! ### Where only the fetcher goes on -/

theorem firstWait_append (l : List (State → Option State)) (f : State → Option State)
    (h : firstWait s l = none) : firstWait s (l ++ [f]) = f s := by
  induction l with
  | nil =>
    change firstWait s [f] = f s
    unfold firstWait
    cases f s <;> rfl
  | cons g l ih =>
    have hg : g s = none := (firstWait_none s _).1 h g (List.mem_cons_self ..)
    have hl : firstWait s l = none := (firstWait_none s _).2 fun k hk =>
      (firstWait_none s _).1 h k (List.mem_cons_of_mem _ hk)
    rw [List.cons_append, firstWait, hg]
    exact ih hl

theorem waits_eq : waits = waits.dropLast ++ [beginFetch] := rfl

/-- R159 to R161: once the fetcher alone has gone on, nothing more follows in the instant. -/
theorem fetching_settled (h : firstWait s waits.dropLast = none) (hr : s.link.state = .running) {w : Fetch}
    (hw : w ≠ .idle) : (s.fetching w).Settled := by
  have hnone := (firstWait_none s _).1 h
  refine (firstWait_none _ _).2 fun f hf => ?_
  have hsplit : waits = waits.dropLast.dropLast.dropLast ++ [goOfflineNow, withdrawFetch, beginFetch] := rfl
  have hfree : (s.fetching w).fetcherFree = false := by
    have hidle : (w == Fetch.idle) = false := by simpa using hw
    have hfetch : ((s.fetching w).link.fetch == Fetch.idle) = false := hidle
    simp [State.fetcherFree, hfetch]
  rw [hsplit, List.mem_append] at hf
  rcases hf with hf | hf
  · exact (BlindToFetch.waits f hf).keeps_none (hnone f (List.mem_of_mem_dropLast (List.mem_of_mem_dropLast hf))) w
  · simp only [List.mem_cons, List.not_mem_nil, or_false] at hf
    rcases hf with rfl | rfl | rfl
    · refine if_neg fun k => ?_
      have hd : s.link.state = .draining := k.1
      rw [hr] at hd
      cases hd
    · exact if_pos (.inl hr)
    · exact if_neg (by rw [hfree]; exact nofun)

theorem instantEnd_of_fetch (h : firstWait s waits.dropLast = none) (hr : s.link.state = .running) {w : Fetch}
    (hw : w ≠ .idle) (hf : beginFetch s = some (s.fetching w)) : s.instantEnd = (s.fetching w).closed := by
  have hfirst : firstWait s waits = some (s.fetching w) := by
    rw [waits_eq, firstWait_append _ _ h, hf]
  have hsettle : settle settleFuel s = settle 399 (s.fetching w) := by
    rw [settleFuel, settle, hfirst]
  rw [State.instantEnd, hsettle, settle_of_settled _ _ (fetching_settled h hr hw)]

/-- Settles O7: each wait that has nothing to do leaves its condition standing, and the fetcher's wait is the last. -/
theorem settledStatesObeyTheWaits : Obligations.SettledStatesObeyTheWaits := by
  refine ⟨fun s hs b => ?_, ?_⟩
  · refine ⟨deliverPress_none (hs.wait (by simp [waits])), releaseOrphan_none (hs.wait (by simp [waits])),
      serveWaitingBay_none (hs.wait (by simp [waits])), fun he => ?_, leaveFault_none (hs.bay (by simp [waits]) b),
      changeHead_none (hs.bay (by simp [waits]) b), fun g => takeHeldPark_none (hs.bay (by simp [waits]) b),
      serveWaiter_none (hs.wait (by simp [waits])), fun e he => handOverEntry_none (hs.entry (by simp [waits]) he),
      fun e he => startEntry_none (hs.entry (by simp [waits]) he),
      fun e he => advanceEntry_stopping (hs.entry (by simp [waits]) he),
      goOfflineNow_none (hs.wait (by simp [waits])), withdrawFetch_none (hs.wait (by simp [waits])), ?_⟩
    · have hallowed := driveEject_none (hs.bay (f := driveEject) (by simp [waits]) b) he
      simpa [State.ejectAllowed, and_assoc] using hallowed
    · intro h1 h2 h3 h4 h5 h6 h7
      exact beginFetch_none ⟨h1, h2, h3, h4, h5, h6, h7⟩ (hs.wait (by simp [waits]))
  · intro s h h1 h2 h3 h4 h5 h6 h7 ahead
    have hw : s.FetcherWaits := ⟨h1, h2, h3, h4, h5, h6, h7⟩
    exact ⟨fun h0 hle hd hq => instantEnd_of_fetch h h1 nofun (beginFetch_posted hw (Nat.not_lt.2 hle) h0 hd hq),
      fun hgt => instantEnd_of_fetch h h1 nofun (beginFetch_skew hw hgt)⟩

end

end Sys2Proof.Machine

/-!
PROOFS. The checks of a task that names bays (R22, R99, R113, R137 to R142), and its turn.
-/

namespace Sys2Proof.Machine

section

variable {s : State} {e : Entry} {k : TaskKind}

/-! ### The bays a task names (R137, R140) -/

theorem bay_of_le {n : Nat} (h : n ≤ 1) : ∃ b, Bay.ofNat? n = some b := by
  match n, h with
  | 0, _ => exact ⟨.bay0, rfl⟩
  | 1, _ => exact ⟨.bay1, rfl⟩

/-- R137: a task whose Bay fields are in order names its bay, and a Copy its second bay too. -/
theorem namedBays_eq (hk : e.kind = some k) (hp : k.partWide = false) (hb : baysInOrder k e.block = true) :
    namedBays e.block = if k = .copy ∧ e.bay ≠ e.secondBay then [e.bay, e.secondBay] else [e.bay] := by
  simp only [baysInOrder, hp, Bool.false_or, Bool.and_eq_true, decide_eq_true_iff] at hb
  obtain ⟨hfirst, hsecond⟩ := hb
  obtain ⟨b, hbay⟩ := bay_of_le hfirst
  have hb : e.bay = b := by rw [Entry.bay, hbay]; rfl
  unfold namedBays
  rw [show taskKind e.block.kind = some k from hk]
  dsimp only
  rw [hp, if_neg nofun, hbay, hb]
  dsimp only
  by_cases hc : k = .copy
  · have hle : e.block.secondBay ≤ 1 := by simpa [hc] using hsecond
    obtain ⟨c, hsec⟩ := bay_of_le hle
    have hcb : e.secondBay = c := by rw [Entry.secondBay, hsec]; rfl
    rw [if_pos hc, hsec, hcb]
    dsimp only
    by_cases hbc : b = c
    · rw [if_pos hbc, if_neg fun h => h.2 hbc]
    · rw [if_neg hbc, if_pos ⟨hc, hbc⟩]
  · rw [if_neg hc, if_neg fun h => hc h.1]

theorem names_eq (hk : e.kind = some k) (hp : k.partWide = false) (hb : baysInOrder k e.block = true) (b : Bay) :
    e.names b = true ↔ b = e.bay ∨ (k = .copy ∧ b = e.secondBay) := by
  rw [Entry.names, decide_eq_true_iff, namedBays_eq hk hp hb]
  by_cases hc : k = .copy ∧ e.bay ≠ e.secondBay
  · rw [if_pos hc]
    simp [hc.1]
  · rw [if_neg hc, List.mem_singleton]
    refine ⟨.inl, fun h => h.elim id fun ⟨hcopy, hb⟩ => ?_⟩
    by_contra hne
    exact hc ⟨hcopy, fun heq => hne (hb.trans heq.symm)⟩

/-! ### The gate of R22 -/

/-- R22: the kinds that the gate treats alike: the medium tasks and Spin Up. -/
def TaskKind.turns (k : TaskKind) : Prop := k.medium = true ∨ k = .spinUp

/-- R22: what the Bay State makes of a medium task or a Spin Up. -/
def State.verdict (s : State) (k : TaskKind) (x : BayControl) : Option Result :=
  match x.state with
  | .empty => some .noMedia
  | .seated => if s.settings.autoSpin then none else some .mediaNotReady
  | .locked => none
  | .fault => if k = .spinUp ∧ x.faultClass = .headsOffRamp then none else some .mediaNotReady
  | .releasing _ | .ejecting => some .mediaNotReady

theorem State.gateResult_turns (h : k.turns) (release : Bool) (b : Bay) :
    s.gateResult k release b = s.verdict k (s.bay b) := by
  unfold State.gateResult State.verdict
  cases hb : (s.bay b).state with
  | seated =>
    dsimp only
    split
    next hk => exact absurd h (by simp [TaskKind.turns, TaskKind.medium])
    next hk => exact absurd h (by simp [TaskKind.turns, TaskKind.medium])
    next hk => exact absurd h (by simp [TaskKind.turns, TaskKind.medium])
    · rfl
  | _ => rfl

theorem State.gate_single (hc : k ≠ .copy) : s.gate k e = s.gateResult k e.block.releaseOption e.bay := by
  rw [State.gate, if_neg hc, Option.or_none]

theorem State.gate_turns (h : k.turns) (hc : k ≠ .copy) : s.gate k e = s.verdict k (s.bay e.bay) := by
  rw [State.gate_single hc, State.gateResult_turns h]

theorem State.gate_copy : s.gate .copy e =
    (s.verdict .copy (s.bay e.bay)).or (s.verdict .copy (s.bay e.secondBay)) := by
  have h : TaskKind.copy.turns := .inl rfl
  rw [State.gate, if_pos rfl, State.gateResult_turns h, State.gateResult_turns h]

/-! ### The checks in order (R140 to R142) -/

theorem State.generationMatches_iff (n : Nat) (b : Bay) :
    s.generationMatches n b = true ↔ n = 0 ∨ n = (s.bay b).generation := by
  simp [State.generationMatches]

theorem State.generationsMatch_iff (hk : e.kind = some k) : s.generationsMatch e = true ↔
    (e.block.expectedGeneration = 0 ∨ e.block.expectedGeneration = (s.bay e.bay).generation) ∧
      (k = .copy → e.block.secondGeneration = 0 ∨ e.block.secondGeneration = (s.bay e.secondBay).generation) := by
  rw [State.generationsMatch, hk, Bool.and_eq_true, Bool.or_eq_true, State.generationMatches_iff,
    State.generationMatches_iff]
  by_cases hc : k = .copy <;> simp [hc]

/-- What the checks before those of the bays ask of a task. -/
structure Entry.FieldsInOrder (e : Entry) (k : TaskKind) : Prop where
  kind : e.kind = some k
  notPartWide : k.partWide = false
  bays : baysInOrder k e.block = true
  range : Machine.inRange k e.block = true
  buffer : bufferInOrder k e.block = true

theorem State.checkResult_eq (h : e.FieldsInOrder k) : s.checkResult e = s.bayChecks k e := by
  rw [State.checkResult, h.kind]
  simp [h.bays, h.range, h.buffer, h.notPartWide]

theorem State.bayChecks_stale (h : ¬s.generationsMatch e = true) : s.bayChecks k e = some .mediaChanged := by
  rw [State.bayChecks, if_pos (by simpa using h)]

theorem State.bayChecks_gate {r : Result} (h : s.generationsMatch e = true) (hg : s.gate k e = some r) :
    s.bayChecks k e = some r := by
  rw [State.bayChecks, if_neg (by simpa using h), hg]

/-- R142 check 7: whether a bay to which the task writes is write-protected. -/
def State.protectedFor (s : State) (e : Entry) : Bool :=
  (namedBays e.block).any fun b => e.writesTo b && (s.bay b).writeProtect.accepted

theorem State.bayChecks_passed (h : s.generationsMatch e = true) (hg : s.gate k e = none) : s.bayChecks k e =
    if s.protectedFor e then some .writeProtected
    else if k = .reassign ∧ (s.map e.bay).status.mounted = true then reassignResult e.block.address (s.map e.bay)
    else none := by
  rw [State.bayChecks, if_neg (by simpa using h), hg]
  rfl

/-- R99: the kinds of one bay that write to the medium. -/
def TaskKind.writes (k : TaskKind) : Prop := k = .write ∨ k = .formatTrack ∨ k = .reassign ∨ k = .resetRecord

theorem State.protectedFor_single (h : e.FieldsInOrder k) (hc : k ≠ .copy) :
    s.protectedFor e = true ↔ k.writes ∧ (s.bay e.bay).writeProtect.accepted = true := by
  have hw : e.writesTo e.bay = true ↔ k.writes := by
    rw [Entry.writesTo, h.kind]
    cases k <;> simp [TaskKind.writes] at hc ⊢
  rw [State.protectedFor, namedBays_eq h.kind h.notPartWide h.bays, if_neg fun k => hc k.1]
  simp [hw]

theorem State.protectedFor_copy (h : e.FieldsInOrder .copy) :
    s.protectedFor e = (s.bay e.secondBay).writeProtect.accepted := by
  have hw (b : Bay) : e.writesTo b = (e.secondBay == b) := by rw [Entry.writesTo, h.kind]
  rw [State.protectedFor, namedBays_eq h.kind h.notPartWide h.bays]
  simp only [hw]
  by_cases hb : e.bay = e.secondBay
  · simp [hb]
  · have hne : (e.secondBay == e.bay) = false := by simpa using fun k => hb k.symm
    simp [hb, hne]

/-- R113: the checks of a Reassign against the table of its bay. -/
theorem reassignResult_eq (lsn : Nat) (m : DefectMap) : reassignResult lsn m =
    if m.status ≠ .valid then some .recordNotValid
    else if m.nextSpare = 384 ∨ (48 ≤ m.table.length ∧ ∀ x ∈ m.table, x.lsn ≠ lsn) then some .tableFull
    else none := by
  have hfull : findEntry m.table lsn = none ∧ Config.tableSize ≤ m.table.length ↔
      48 ≤ m.table.length ∧ ∀ x ∈ m.table, x.lsn ≠ lsn := by
    rw [findEntry_none_iff, and_comm]
    rfl
  have hspare : m.nextSpare = Config.spareSectors ↔ m.nextSpare = 384 := Iff.rfl
  unfold reassignResult
  simp only [hfull, hspare]
  by_cases hn : m.nextSpare = 384 <;> simp [hn]

/-! ### The turn of a task (R138, R139) -/

theorem Entry.unfinished_iff : e.unfinished = true ↔ e.state ≠ .finishing := by simp [Entry.unfinished]

theorem Entry.names_mem {b : Bay} : e.names b = true ↔ b ∈ namedBays e.block := by
  rw [Entry.names, decide_eq_true_iff]

theorem State.bayTurn_iff : s.bayTurn e = true ↔ ∀ o ∈ s.olderThan e.id, o.state ≠ .finishing →
    ∀ b, ¬(o.names b = true ∧ e.names b = true) := by
  simp only [State.bayTurn, List.all_eq_true, Bool.or_eq_true, Bool.not_eq_true', ← Entry.names_mem]
  refine forall₂_congr fun o _ => ?_
  rw [or_iff_not_imp_left, Bool.not_eq_false, Entry.unfinished_iff]
  refine imp_congr_right fun _ => forall_congr' fun b => ?_
  cases o.names b <;> simp

theorem State.partWideTurn_iff : s.partWideTurn e = true ↔ ∀ o ∈ s.olderThan e.id, o.state ≠ .finishing →
    e.partWide = false ∧ o.partWide = false := by
  simp only [State.partWideTurn, List.all_eq_true, Bool.or_eq_true, Bool.and_eq_true, Bool.not_eq_true']
  refine forall₂_congr fun o _ => ?_
  rw [or_iff_not_imp_left, Bool.not_eq_false, Entry.unfinished_iff]

theorem State.presentTurn_iff : s.presentTurn e = true ↔ (s.resetInProgress = true ∧ e.aborted = true) ∨
    ∀ b, e.names b = true → (s.bay b).sensing = true ∧ (s.bay b).presentUndecided = false := by
  simp only [State.presentTurn, List.all_eq_true, Bool.or_eq_true, Bool.and_eq_true, Bool.not_eq_true',
    ← Entry.names_mem]

theorem State.turnCome_iff : s.turnCome e = true ↔
    (∀ o ∈ s.olderThan e.id, o.state ≠ .finishing → e.partWide = false ∧ o.partWide = false ∧
      ∀ b, ¬(o.names b = true ∧ e.names b = true)) ∧
    ((s.resetInProgress = true ∧ e.aborted = true) ∨
      ∀ b, e.names b = true → (s.bay b).sensing = true ∧ (s.bay b).presentUndecided = false) := by
  rw [State.turnCome, Bool.and_eq_true, Bool.and_eq_true, State.bayTurn_iff, State.presentTurn_iff,
    State.partWideTurn_iff]
  refine ⟨fun ⟨⟨hbay, hpresent⟩, hwide⟩ => ⟨fun o ho hf => ?_, hpresent⟩,
    fun ⟨h, hpresent⟩ => ⟨⟨fun o ho hf => (h o ho hf).2.2, hpresent⟩, fun o ho hf => ?_⟩⟩
  · exact ⟨(hwide o ho hf).1, (hwide o ho hf).2, hbay o ho hf⟩
  · exact ⟨(h o ho hf).1, (h o ho hf).2.1⟩

end

end Sys2Proof.Machine

/-!
PROOFS. The start of a task that names bays (R7, R10, R13, R22, R29, R138, R148, R152).
-/

namespace Sys2Proof.Machine

section

variable {s t : State} {b : Bay} {e : Entry} {k : TaskKind}

/-! ### The start -/

/-- The state in which a task has become ACTIVE. -/
def State.activated (s : State) (e : Entry) : State := s.modEntry e.id fun f => { f with state := .active }

/-- R138: the state in which a task that has passed its checks begins its work. -/
def State.workBegins (s : State) (e : Entry) : State := (namedBays e.block).foldl State.clearReseek (s.activated e)

theorem State.start_aborted (h : e.aborted = true) :
    s.start e = (s.activated e).modEntry e.id fun f => { f with ending := some .aborted } := if_pos h

theorem State.start_refused {r : Result} (ha : e.aborted = false) (h : s.checkResult e = some r) :
    s.start e = (s.activated e).modEntry e.id fun f => { f with ending := some r } := by
  rw [State.start, ha, if_neg nofun, h]
  rfl

theorem State.start_passed (ha : e.aborted = false) (h : s.checkResult e = none) (hk : e.kind = some k) :
    s.start e = (s.workBegins e).beginWork k e := by
  rw [State.start, ha, if_neg nofun, h, hk]
  rfl

theorem State.workBegins_frame : (s.workBegins e).bays = s.bays ∧ (s.workBegins e).spindles = s.spindles ∧
    (s.workBegins e).permitHolder = s.permitHolder ∧ (s.workBegins e).supply = s.supply ∧
    (s.workBegins e).entries = (s.activated e).entries := by
  have hfield {β : Type} (g : State → β) (h : ∀ u c, g (State.clearReseek u c) = g u) :
      g (s.workBegins e) = g (s.activated e) := State.foldl_field g _ h _ _
  exact ⟨hfield _ (by simp), hfield _ (by simp), hfield _ (by simp), hfield _ (fun u c => by simp [State.clearReseek]),
    hfield _ (by simp)⟩

/-! ### The entries' places in the queue -/

/-- The name and the state of an entry. -/
def Entry.seat (e : Entry) : Nat × EntryState := (e.id, e.state)

def State.seats (s : State) : List (Nat × EntryState) := s.entries.map Entry.seat

theorem State.seats_congr (h : t.entries = s.entries) : t.seats = s.seats := congrArg (List.map Entry.seat) h

theorem State.seats_modEntry {id : Nat} {f : Entry → Entry} (h : ∀ x, (f x).seat = x.seat) :
    (s.modEntry id f).seats = s.seats := by
  rw [State.seats, State.modEntry_entries, List.map_map]
  refine List.map_congr_left fun x _ => ?_
  simp only [Function.comp]
  split
  · exact h x
  · rfl

theorem decided_seat (r : Result) (d : Nat) (x : Entry) : (decided r d x).seat = x.seat := by
  obtain ⟨y, z, h⟩ := decided_only r d x
  rw [h]
  rfl

theorem State.enterReleasing_seats (d : Destination) : (s.enterReleasing b d).seats = s.seats := by
  obtain ⟨u, hu, hentries⟩ := State.ejectTasks_entries (b := b) (s := (s.modBay b fun c =>
    { c with
      state := .releasing d, prevent := false, idle := none, idleStop := false
      ejectRequested := if d = .ejecting then false else c.ejectRequested }).clearMount b)
  have hcore : u.entries.map Entry.core = s.entries.map Entry.core := by
    rw [hu, (State.clearMount_frame ..).2.2.2.2, State.modBay_entries]
  have hejected (x : Entry) : (ejectedOn b x).seat = x.seat := by
    unfold ejectedOn
    split
    · exact decided_seat ..
    · rfl
  have hseat (l : List Entry) : l.map Entry.seat = (l.map Entry.core).map Entry.seat := by
    rw [List.map_map]
    rfl
  have hsame : (s.enterReleasing b d).seats = u.entries.map Entry.seat := by
    rw [State.seats, State.enterReleasing, hentries, List.map_map]
    exact List.map_congr_left fun x _ => hejected x
  rw [hsame, State.seats, hseat, hseat s.entries, hcore]

theorem State.beginWork_seats : (s.beginWork k e).seats = s.seats := by
  have hstage {u : State} {x : Stage} : (u.modEntry e.id fun f => { f with stage := x }).seats = u.seats :=
    State.seats_modEntry fun _ => rfl
  unfold State.beginWork
  dsimp only
  split
  · exact hstage
  · exact hstage
  · exact hstage
  · split
    · exact (State.enterReleasing_seats _).trans hstage
    · refine (State.seats_modEntry fun x => decided_seat ..).trans (State.seats_congr ?_)
      rw [State.modBay_entries]
      split
      · exact (State.lockBay_frame ..).2.2.2.2.2.2.2
      · rfl
  · split
    · exact (State.seats_congr (State.modBay_entries ..)).trans hstage
    · exact (State.enterReleasing_seats _).trans hstage
  · exact hstage.trans (State.seats_congr (State.lockNamed_frame ..).2.2.2.2.2)

/-! ### A SEATED bay locked and asked to spin up (R7, R22, R29) -/

theorem State.lockIfSeated_free (h : (s.bay b).state ≠ .seated) : s.lockIfSeated b = s := if_neg h

theorem BayKept.lockIfSeated : BayKept s (s.lockIfSeated b) b.other := by
  unfold State.lockIfSeated
  split
  · exact .lockAndSpin _ _
  · exact .refl _ _

/-- R7, R29: a SEATED bay locked, and its STOPPED spindle given the permit or its place before it. -/
theorem State.lockIfSeated_spec (h : (s.bay b).state = .seated) : let t := s.lockIfSeated b
    t.bay b = { s.bay b with state := .locked, lock := true } ∧
    (s.supply.accepted = false → (s.spindle b).phase = .stopped →
      (s.permitHolder = none → (t.spindle b).phase = .starting ∧ t.permitHolder = some b) ∧
      (s.permitHolder ≠ none → (t.spindle b).phase = .pending)) := by
  intro t
  have ht : t = (s.lockBay b).spinUpRequest b := if_pos h
  have hbay : (s.lockBay b).bay b = { s.bay b with state := .locked, lock := true } :=
    (State.bay_modBay ..).trans (if_pos rfl)
  obtain ⟨hspindles, hholder, -⟩ := State.lockBay_frame s b
  have hspindle := State.spindle_congr hspindles b
  have hsupply : (s.lockBay b).supply = s.supply := by simp [State.lockBay]
  refine ⟨?_, fun hs hp => ?_⟩
  · rw [ht, State.bay_congr (State.spinUpRequest_frame ..).1, hbay]
  · have hrequest : t = (s.lockBay b).requestPermit b :=
      ht.trans (State.spinUpRequest_stopped _ _ (by rw [hsupply, hs]) (by rw [hspindle, hp]))
    obtain ⟨hwaits, hgranted⟩ := State.requestPermit_spec (s.lockBay b) b
    rw [hholder, ← hrequest] at hwaits hgranted
    refine ⟨fun hn => ?_, fun hn => ?_⟩
    · rw [(hgranted hn).1]
      exact ⟨rfl, (hgranted hn).2⟩
    · rw [(hwaits hn).1]

/-- R22, R45: the bays of a task are locked in their order, each without touching the other. -/
theorem State.lockNamed_bay (hb : e.names b = true) : ∃ u : State, u.bay b = s.bay b ∧ u.spindle b = s.spindle b ∧
    u.supply = s.supply ∧ (s.lockNamed e).bay b = (u.lockIfSeated b).bay b ∧
    (s.lockNamed e).spindle b = (u.lockIfSeated b).spindle b := by
  have hmem := Entry.names_iff.1 hb
  have hsupply (u : State) (c : Bay) : (u.lockIfSeated c).supply = u.supply :=
    (congrArg Standing.supply (standing_lockIfSeated u c) :)
  have horder : bayOrder e.block = [b] ∨ bayOrder e.block = [.bay0, .bay1] := by
    unfold bayOrder at hmem ⊢
    by_cases h0 : Bay.bay0 ∈ namedBays e.block <;> by_cases h1 : Bay.bay1 ∈ namedBays e.block <;>
      cases b <;> simp_all
  rw [State.lockNamed]
  rcases horder with h | h <;> rw [h]
  · exact ⟨s, rfl, rfl, rfl, rfl, rfl⟩
  · cases b with
    | bay0 =>
      have hkept : BayKept (s.lockIfSeated .bay0) ((s.lockIfSeated .bay0).lockIfSeated .bay1) .bay0 := .lockIfSeated
      exact ⟨s, rfl, rfl, rfl, hkept.bay, hkept.spindle⟩
    | bay1 =>
      have hkept : BayKept s (s.lockIfSeated .bay0) .bay1 := .lockIfSeated
      exact ⟨s.lockIfSeated .bay0, hkept.bay, hkept.spindle, hsupply .., rfl, rfl⟩

/-! ### The work of each kind begun -/

theorem State.beginWork_turns (h : k.turns) : s.beginWork k e =
    (s.lockNamed e).modEntry e.id fun f => { f with stage := .bayWait } := by
  unfold State.beginWork
  dsimp only
  split
  case h_6 => rfl
  all_goals exact absurd h (by simp [TaskKind.turns, TaskKind.medium])

/-- R7, R148: a Lock that does not release. -/
theorem State.engage_spec (h : (s.bay e.bay).state = .seated ∨ (s.bay e.bay).state = .locked) : let t := s.engage e
    (t.bay e.bay).state = .locked ∧ (t.bay e.bay).prevent = e.block.preventOption ∧
    ((s.bay e.bay).state = .seated → (t.bay e.bay).lock = true) ∧ t.spindles = s.spindles := by
  intro t
  have hbay : t.bay e.bay = { (if (s.bay e.bay).state = .seated then s.lockBay e.bay else s).bay e.bay with
      prevent := e.block.preventOption } := (State.bay_modBay ..).trans (if_pos rfl)
  have hspindles : t.spindles = s.spindles := (State.engage_frame ..).1
  by_cases hs : (s.bay e.bay).state = .seated
  · have hlocked : (s.lockBay e.bay).bay e.bay = { s.bay e.bay with state := .locked, lock := true } :=
      (State.bay_modBay ..).trans (if_pos rfl)
    rw [if_pos hs, hlocked] at hbay
    rw [hbay]
    exact ⟨rfl, rfl, fun _ => rfl, hspindles⟩
  · rw [if_neg hs] at hbay
    rw [hbay]
    exact ⟨h.resolve_left hs, rfl, fun k => absurd k hs, hspindles⟩

/-! ### The kinds that the gate does not treat alike -/

theorem TaskKind.not_turns (hp : k.partWide = false) (h : ¬k.turns) : k = .spinDown ∨ k = .lock ∨ k = .eject := by
  cases k <;> simp [TaskKind.turns, TaskKind.medium, TaskKind.partWide] at h hp ⊢

/-- R22: what the Bay State makes of a Spin Down, a Lock and an Eject. -/
theorem State.checkResult_still (hf : e.FieldsInOrder k) (hg : s.generationsMatch e = true) (hn : ¬k.turns) :
    ((s.bay e.bay).state = .empty → s.checkResult e = some .noMedia) ∧
    ((s.bay e.bay).state = .fault ∨ (s.bay e.bay).state = .ejecting ∨ (s.bay e.bay).state = .releasing .seated ∨
      (s.bay e.bay).state = .releasing .ejecting → s.checkResult e = some .mediaNotReady) ∧
    ((s.bay e.bay).state = .seated → k = .spinDown ∨ (k = .lock ∧ e.block.releaseOption = true) →
      s.checkResult e = some .complete) ∧
    ((s.bay e.bay).state = .locked ∨ ((s.bay e.bay).state = .seated ∧ (k = .eject ∨ (k = .lock ∧
      e.block.releaseOption = false))) → s.checkResult e = none) := by
  have hkinds := TaskKind.not_turns hf.notPartWide hn
  have hc : k ≠ .copy := by rcases hkinds with rfl | rfl | rfl <;> exact nofun
  have hspin : k ≠ .spinUp := fun h => hn (.inr h)
  have hreassign : k ≠ .reassign := fun h => hn (.inl (by rw [h]; rfl))
  have hcheck := State.checkResult_eq (s := s) hf
  have hgate {r : Option Result} (h : s.gateResult k e.block.releaseOption e.bay = r) : s.gate k e = r :=
    (State.gate_single hc).trans h
  have hends {r : Result} (h : s.gateResult k e.block.releaseOption e.bay = some r) : s.checkResult e = some r :=
    hcheck.trans (State.bayChecks_gate hg (hgate h))
  have hpasses (h : s.gateResult k e.block.releaseOption e.bay = none) : s.checkResult e = none := by
    have hprotected : ¬s.protectedFor e = true := fun h => by
      have hw := ((State.protectedFor_single hf hc).1 h).1
      rcases hkinds with rfl | rfl | rfl <;> simp [TaskKind.writes] at hw
    rw [hcheck, State.bayChecks_passed hg (hgate h), if_neg hprotected, if_neg fun h => hreassign h.1]
  refine ⟨fun h => hends ?_, fun h => hends ?_, fun h hk => hends ?_, fun h => hpasses ?_⟩ <;> unfold State.gateResult
  · rw [h]
  · rcases h with h | h | h | h <;> simp [h, hspin]
  · rcases hk with rfl | ⟨rfl, hr⟩ <;> simp [*]
  · rcases h with h | ⟨h, rfl | ⟨rfl, hr⟩⟩ <;> simp [*]

/-- R22: a Spin Down, a Lock or an Eject passes the gate in SEATED and LOCKED alone. -/
theorem State.checkResult_stands (hf : e.FieldsInOrder k) (hn : ¬k.turns) (h : s.checkResult e = none) :
    (s.bay e.bay).state = .seated ∨ (s.bay e.bay).state = .locked := by
  have hg : s.generationsMatch e = true := by
    by_contra hg
    rw [State.checkResult_eq hf, State.bayChecks_stale hg] at h
    cases h
  obtain ⟨hempty, hout, -, -⟩ := State.checkResult_still hf hg hn
  rw [h] at hempty hout
  cases hb : (s.bay e.bay).state with
  | empty => cases hempty hb
  | seated => exact .inl rfl
  | locked => exact .inr rfl
  | releasing d => cases d <;> simp [hb] at hout
  | ejecting => simp [hb] at hout
  | fault => simp [hb] at hout

/-- R22, R45: what a medium task or a Spin Up makes of one of its bays. -/
theorem State.lockNamed_spec (hb : e.names b = true) : let t := s.lockNamed e
    ((s.bay b).state = .seated → (t.bay b).state = .locked ∧ (t.bay b).lock = true ∧
      (s.supply.accepted = false → (s.spindle b).phase = .stopped →
        (t.spindle b).phase = .starting ∨ (t.spindle b).phase = .pending)) ∧
    ((s.bay b).state ≠ .seated → t.bay b = s.bay b ∧ t.spindle b = s.spindle b) := by
  intro t
  obtain ⟨u, hbay, hspindle, hsupply, htb, hts⟩ := State.lockNamed_bay (s := s) hb
  refine ⟨fun h => ?_, fun h => ?_⟩
  · obtain ⟨hlocked, hspin⟩ := State.lockIfSeated_spec (s := u) (b := b) (by rw [hbay, h])
    have htbay : t.bay b = _ := htb.trans hlocked
    rw [htbay]
    refine ⟨rfl, rfl, fun hs hp => ?_⟩
    obtain ⟨hfree, hheld⟩ := hspin (by rw [hsupply, hs]) (by rw [hspindle, hp])
    rw [show t.spindle b = _ from hts]
    by_cases hn : u.permitHolder = none
    · exact .inl (hfree hn).1
    · exact .inr (hheld hn)
  · have hstill := State.lockIfSeated_free (s := u) (b := b) (by rw [hbay]; exact h)
    rw [hstill] at htb hts
    exact ⟨htb.trans hbay, hts.trans hspindle⟩

/-- R45: of a Copy that asks both spindles at one moment, bay 0 is granted the permit. -/
theorem State.lockNamed_both (h0 : e.names .bay0 = true) (h1 : e.names .bay1 = true) (hp : s.permitHolder = none)
    (hs : s.supply.accepted = false) (h : ∀ b, (s.bay b).state = .seated ∧ (s.spindle b).phase = .stopped) :
    ((s.lockNamed e).spindle .bay0).phase = .starting ∧ ((s.lockNamed e).spindle .bay1).phase = .pending := by
  have horder : bayOrder e.block = [.bay0, .bay1] := by
    simp [bayOrder, Entry.names_mem.1 h0, Entry.names_mem.1 h1]
  have ht : s.lockNamed e = (s.lockIfSeated .bay0).lockIfSeated .bay1 := by
    rw [State.lockNamed, horder]
    rfl
  have hfirst : BayKept s (s.lockIfSeated .bay0) .bay1 := .lockIfSeated
  have hsecond : BayKept (s.lockIfSeated .bay0) ((s.lockIfSeated .bay0).lockIfSeated .bay1) .bay0 := .lockIfSeated
  obtain ⟨-, hspin⟩ := State.lockIfSeated_spec (h .bay0).1
  obtain ⟨hstarting, hholder⟩ := (hspin hs (h .bay0).2).1 hp
  have hsupply : (s.lockIfSeated .bay0).supply = s.supply := (congrArg Standing.supply (standing_lockIfSeated s .bay0) :)
  obtain ⟨-, hspin'⟩ := State.lockIfSeated_spec (s := s.lockIfSeated .bay0) (b := .bay1)
    (by rw [hfirst.bay]; exact (h .bay1).1)
  rw [ht, hsecond.spindle]
  refine ⟨hstarting, (hspin' (by rw [hsupply, hs]) (by rw [hfirst.spindle]; exact (h .bay1).2)).2 ?_⟩
  rw [hholder]
  exact nofun

/-- Settles O59: the checks by the bays' generations, states and write protection decide a task, and one that passes
acts on its bays by its kind. -/
theorem bayGateDecidesTheStart : Obligations.BayGateDecidesTheStart := by
  intro s e k hk hp hbays hrange hbuffer c d t fresh verdict turns active ended
  have hfields : e.FieldsInOrder k := ⟨hk, hp, hbays, hrange, hbuffer⟩
  have hcheck := State.checkResult_eq (s := s) hfields
  have hgen : s.generationsMatch e = true ↔ fresh := State.generationsMatch_iff hk
  have hverdict : verdict = s.verdict k := rfl
  obtain ⟨hxb, hxs, hxh, hxsup, hxe⟩ := State.workBegins_frame (s := s) (e := e)
  refine ⟨fun h => ?_, fun h ht r hr => ?_, fun h hc hnone => ⟨fun r hr => ?_, fun hd => ?_⟩,
    fun h hnone hprot hw => ?_, fun h ht hc hnone hprot => ?_, fun h hnt => ?_, fun r hr ha => ?_, fun ha => ?_,
    fun hr ha => ?_, State.turnCome_iff⟩
  · exact hcheck.trans (State.bayChecks_stale fun k => h (hgen.1 k))
  · have hgate : s.gate k e = some r := by
      by_cases hc : k = .copy
      · subst hc
        rw [State.gate_copy, show s.verdict .copy (s.bay e.bay) = some r from hr]
        rfl
      · rw [State.gate_turns ht hc]
        exact hr
    exact hcheck.trans (State.bayChecks_gate (hgen.2 h) hgate)
  · subst hc
    refine hcheck.trans (State.bayChecks_gate (hgen.2 h) ?_)
    rw [State.gate_copy, show s.verdict .copy (s.bay e.bay) = none from hnone]
    exact hr
  · subst hc
    have hgate : s.gate .copy e = none := by
      rw [State.gate_copy, show s.verdict .copy (s.bay e.bay) = none from hnone]
      exact hd
    rw [hcheck, State.bayChecks_passed (hgen.2 h) hgate, State.protectedFor_copy hfields]
    exact if_congr Iff.rfl rfl (if_neg fun k => nomatch k.1)
  · have ht : k.turns := .inl (by rcases hw with rfl | rfl | rfl | rfl <;> rfl)
    have hc : k ≠ .copy := by rcases hw with rfl | rfl | rfl | rfl <;> exact nofun
    have hgate : s.gate k e = none := (State.gate_turns ht hc).trans hnone
    rw [hcheck, State.bayChecks_passed (hgen.2 h) hgate,
      if_pos ((State.protectedFor_single hfields hc).2 ⟨hw, hprot⟩)]
  · have hgate : s.gate k e = none := (State.gate_turns ht hc).trans hnone
    have hfree : ¬s.protectedFor e = true := fun hw => by
      obtain ⟨hwrites, hacc⟩ := (State.protectedFor_single hfields hc).1 hw
      obtain ⟨h1, h2, h3, h4⟩ := hprot hacc
      rcases hwrites with rfl | rfl | rfl | rfl
      · exact h1 rfl
      · exact h2 rfl
      · exact h3 rfl
      · exact h4 rfl
    rw [hcheck, State.bayChecks_passed (hgen.2 h) hgate, if_neg hfree, reassignResult_eq]
    dsimp only
    by_cases hr : k = .reassign
    · cases (s.map e.bay).status <;> simp [hr, MountStatus.mounted]
    · rw [if_neg fun j => hr j.1, if_pos (.inl hr)]
  · exact State.checkResult_still hfields (hgen.2 h) hnt
  · exact State.start_refused ha hr
  · exact State.start_aborted ha
  · have ht : t = (s.workBegins e).beginWork k e := State.start_passed ha hr hk
    have hxbay (b : Bay) : (s.workBegins e).bay b = s.bay b := State.bay_congr hxb b
    have hxspindle (b : Bay) : (s.workBegins e).spindle b = s.spindle b := State.spindle_congr hxs b
    have hstill (hn : ¬k.turns) := State.checkResult_stands hfields hn hr
    generalize s.workBegins e = x at ht hxb hxs hxh hxsup hxe hxbay hxspindle
    refine ⟨?_, fun hturns b hb => ?_, fun hc hne hp hsup hboth => ?_, fun hd => ?_, fun hl hrel => ?_, fun hl hrel => ?_,
      fun he hs => ?_, fun he hs => ?_⟩
    · have hseats : t.seats = (s.activated e).seats := by
        rw [ht, State.beginWork_seats, State.seats_congr hxe]
      exact hseats
    · rw [State.beginWork_turns hturns] at ht
      obtain ⟨hseated, hother⟩ := State.lockNamed_spec (s := x) hb
      rw [hxbay, hxspindle, hxsup] at hseated
      rw [hxbay, hxspindle] at hother
      rw [ht]
      exact ⟨hseated, fun h => ⟨(hother h).1, fun _ => (hother h).2⟩⟩
    · rw [State.beginWork_turns (.inl (by rw [hc]; rfl))] at ht
      have hnames (b : Bay) : e.names b = true := by
        refine (names_eq hk (by rw [hc]; rfl) hbays b).2 ?_
        cases hb : e.bay <;> cases hsec : e.secondBay <;> cases b <;> simp_all
      rw [ht]
      exact State.lockNamed_both (hnames _) (hnames _) (hxh.trans hp) (by rw [hxsup, hsup]) fun b => by
        rw [hxbay, hxspindle]
        exact hboth b
    · subst hd
      rw [ht]
      exact ⟨hxb, hxs⟩
    · subst hl
      have hengage : t = x.engage e := by
        rw [ht, State.beginWork]
        dsimp only
        rw [hrel]
        rfl
      obtain ⟨h1, h2, h3, h4⟩ := State.engage_spec (s := x) (e := e) (by
        rw [hxbay]
        exact hstill (by simp [TaskKind.turns, TaskKind.medium]))
      rw [hxbay] at h3
      rw [hengage]
      exact ⟨h1, h2, h3, h4.trans hxs⟩
    · subst hl
      have hrelease : t = (x.modEntry e.id fun f => { f with stage := .releasing }).enterReleasing e.bay .seated := by
        rw [ht, State.beginWork]
        dsimp only
        rw [hrel]
        rfl
      rw [hrelease, enterReleasing_bay]
      exact ⟨rfl, rfl, (enterReleasing_map _).1⟩
    · subst he
      have heject : t = (x.modEntry e.id fun f => { f with stage := .ejecting }).modBay e.bay ejectingEntered := by
        rw [ht, State.beginWork]
        exact if_pos (by rw [hxbay]; exact hs)
      rw [heject, State.bay_modBay, if_pos rfl]
      exact congrArg ejectingEntered (hxbay e.bay)
    · subst he
      have hrelease : t = (x.modEntry e.id fun f => { f with stage := .releasing }).enterReleasing e.bay .ejecting := by
        rw [ht, State.beginWork]
        exact if_neg (by rw [hxbay, show (s.bay e.bay).state = .locked from hs]; exact nofun)
      rw [hrelease, enterReleasing_bay]
      exact ⟨rfl, rfl, rfl, (enterReleasing_map _).1⟩

end

end Sys2Proof.Machine

/-!
PROOFS. The registers that the timers and the samples of a clock cycle are read from, and the properties of them
that every wait and every expiry keep.
-/

namespace Sys2Proof.Machine

/-- The registers that a cycle's timers and samples are read from. -/
structure Timed where
  bays : PerBay BayControl
  spindles : PerBay Spindle
  positioners : PerBay Positioner
  refresh : PerBay (Option Nat)
  poll : Option Nat
  hostFields : HostFields
  settings : Settings
  supply : Supply
  pins : Pins

def State.timed (s : State) : Timed where
  bays := s.bays
  spindles := s.spindles
  positioners := s.positioners
  refresh := s.link.refreshTimer
  poll := s.link.pollTimer
  hostFields := s.hostFields
  settings := s.settings
  supply := s.supply
  pins := s.pins

/-- A timer that a change of phase has started or stopped, or has left in the phases in which it ran. -/
def RunsFrom (before after : Prop) (x y : Option Nat) : Prop := after → (before ∧ TimerKept x y) ∨ y = none ∨ y = some 0

/-- A change of a Spindle Controller, of its phase too, that starts its timers from 0. -/
structure SpindleRun (q r : Spindle) : Prop where
  start : RunsFrom (q.phase = .starting) (r.phase = .starting) q.startTimer r.startTimer
  spinUp : RunsFrom (q.phase = .starting ∨ q.phase = .accelerating) (r.phase = .starting ∨ r.phase = .accelerating)
    q.spinUpTimer r.spinUpTimer
  drift : RunsFrom (q.phase = .drifting) (r.phase = .drifting) q.driftTimer r.driftTimer
  stop : RunsFrom (q.phase = .stopping) (r.phase = .stopping) q.stopTimer r.stopTimer
  mark : RunsFrom (q.phase.runsLaw = true) (r.phase.runsLaw = true) q.markTimer r.markTimer

/-- A change into a phase in which no timer runs but those it starts. -/
theorem SpindleRun.entered {q r : Spindle} (start : r.phase = .starting → r.startTimer = none ∨ r.startTimer = some 0)
    (spinUp : r.phase = .starting → r.spinUpTimer = none ∨ r.spinUpTimer = some 0)
    (stop : r.phase = .stopping → r.stopTimer = none ∨ r.stopTimer = some 0) (off : r.phase.runsLaw = false) :
    SpindleRun q r where
  start h := .inr (start h)
  spinUp h := .inr (h.elim spinUp fun ha => by simp [ha, Phase.runsLaw] at off)
  drift h := by simp [h, Phase.runsLaw] at off
  stop h := .inr (stop h)
  mark h := by simp [off] at h

theorem SpindleStep.run {t : Settings} {q r : Spindle} (step : SpindleStep t q r) : SpindleRun q r := by
  obtain ⟨hstart, hspinUp, hdrift, hstop⟩ := step.timers
  exact ⟨fun h => .inl ⟨step.phase ▸ h, hstart⟩, fun h => .inl ⟨step.phase ▸ h, hspinUp⟩,
    fun h => .inl ⟨step.phase ▸ h, hdrift⟩, fun h => .inl ⟨step.phase ▸ h, hstop⟩,
    fun h => .inl ⟨step.phase ▸ h, step.mark⟩⟩

theorem startingEntered_run (t : Settings) (q : Spindle) : SpindleRun q (startingEntered t q) :=
  .entered (fun _ => .inr rfl) (fun _ => .inr rfl) nofun rfl

theorem stoppingEntered_run (q : Spindle) : SpindleRun q (stoppingEntered q) :=
  .entered nofun nofun (fun _ => .inr rfl) rfl

theorem stoppedEntered_run (q : Spindle) : SpindleRun q (stoppedEntered q) := .entered nofun nofun nofun rfl

theorem pending_run (q : Spindle) : SpindleRun q { q with phase := .pending } := .entered nofun nofun nofun rfl

theorem grantWithdrawn_run (p q : Spindle) : SpindleRun q (grantWithdrawn p q) := .entered nofun nofun nofun rfl

/-- A property of these registers that the waits and the expiries of the timers keep. -/
structure TimedLaw (Q : Timed → Prop) : Prop where
  bay : ∀ {F : Timed} {b : Bay} {f : BayControl → BayControl}, Q F → BayStep (F.bays.get b) (f (F.bays.get b)) →
    Q { F with bays := F.bays.update b f }
  restart : ∀ {F : Timed} {b : Bay}, Q F → F.supply.accepted = false → (F.bays.get b).sensing = false →
    Q { F with bays := F.bays.update b sensingRestarted }
  spindle : ∀ {F : Timed} {b : Bay} {f : Spindle → Spindle}, Q F →
    SpindleRun (F.spindles.get b) (f (F.spindles.get b)) → Q { F with spindles := F.spindles.update b f }
  heads : ∀ {F : Timed} {b : Bay} {f : Positioner → Positioner}, Q F →
    PositionerStep F.settings (F.positioners.get b) (f (F.positioners.get b)) →
    Q { F with positioners := F.positioners.update b f }
  link : ∀ {F : Timed} {r : PerBay (Option Nat)} {p : Option Nat}, Q F →
    (∀ b, TimerKept (F.refresh.get b) (r.get b)) → TimerKept F.poll p → Q { F with refresh := r, poll := p }
  offline : ∀ {F : Timed}, Q F → Q { F with refresh := .both none, poll := none, hostFields := .reset }

/-! ### What leaves these registers -/

section

variable (s : State) (b : Bay)

@[simp] theorem State.timed_report (changed : Bool) : (s.report b changed).timed = s.timed := by
  unfold State.report State.notable
  split_ifs <;> rfl

@[simp] theorem State.timed_dropSlot (i : Nat) : (s.dropSlot i).timed = s.timed := by
  unfold State.dropSlot
  split <;> rfl

@[simp] theorem State.timed_dropSlots (p : Nat → Slot → Bool) : (s.dropSlots p).timed = s.timed :=
  State.foldl_field State.timed _ (fun s i => s.timed_dropSlot i) _ _

@[simp] theorem State.timed_cutField : (s.cutField b).timed = s.timed := by
  unfold State.cutField
  repeat' split
  all_goals rfl

@[simp] theorem State.timed_loseChannel : (s.loseChannel b).timed = s.timed := by
  unfold State.loseChannel
  split
  · exact s.timed_cutField b
  · rfl

end

namespace TimedLaw

variable {Q : Timed → Prop} (q : TimedLaw Q)

include q

theorem keptBase : KeptBase fun s => Q s.timed where
  bay h step := q.bay h step
  spindle h step := q.spindle h step.run
  positioner h step _ := q.heads h step
  map h _ _ := h
  channel h _ := h
  entries h _ := h
  link h step := q.link h step.refresh step.poll
  waiters h := h
  medium h := h
  dma h := h
  loseChannel h := by rwa [State.timed_loseChannel]
  freeMountSlots h _ := by rwa [State.freeMountSlots, State.timed_dropSlots]
  letGo h := by rwa [State.timed_dropSlots]
  takeSlot h _ _ := h
  slots h _ := h

theorem modSpindle {s : State} {b : Bay} {f : Spindle → Spindle} (h : Q s.timed)
    (run : SpindleRun (s.spindle b) (f (s.spindle b))) : Q (s.modSpindle b f).timed :=
  q.keptBase.report (s := { s with spindles := s.spindles.update b f }) (q.spindle h run)

theorem grantPermit {s : State} {b : Bay} (h : Q s.timed) : Q (s.grantPermit b).timed :=
  q.modSpindle (s := { s with permitHolder := some b }) h (startingEntered_run ..)

theorem releasePermit {s : State} {b : Bay} (h : Q s.timed) : Q (s.releasePermit b).timed := by
  unfold State.releasePermit
  repeat' split
  · exact q.grantPermit (s := { s with permitHolder := none, permitWaiting := none }) h
  · exact h
  · exact h

theorem kept : Kept fun s => Q s.timed where
  toKeptBase := q.keptBase
  requestPermit {s b} h _ := by
    have hasking := q.modSpindle (f := fun q => { q with phase := .pending }) h (pending_run (s.spindle b))
    unfold State.requestPermit
    split
    · exact q.grantPermit hasking
    · exact hasking
  leavePending {s b} h _ := by
    unfold State.leavePending
    refine q.modSpindle ?_ (stoppedEntered_run _)
    split <;> exact h
  enterStopping {s b} h _ :=
    have k := q.keptBase
    k.dropLoad (k.emergencyRetract (k.loseChannel (q.releasePermit (q.modSpindle h (stoppingEntered_run _)))))
  activate h _ _ _ := h
  await h _ _ := h
  finish h _ _ := h
  sense {s t b} h ht := by
    unfold restartSensing at ht
    split_ifs at ht with hs
    cases ht
    exact q.keptBase.report (s := { s with bays := s.bays.update b sensingRestarted })
      (q.restart h (by simpa [State.timed] using hs.1)
        (by simpa [State.timed, State.bay] using hs.2.1))
  leave h ht := by
    unfold leaveHalted at ht
    split_ifs at ht
    cases ht
    exact h
  offline h ht := by
    unfold goOfflineNow at ht
    split_ifs at ht
    cases ht
    exact q.offline h
  withdraw h ht := by
    unfold withdrawFetch at ht
    split_ifs at ht
    split at ht <;> cases ht <;> exact h
  fetch h ht := by
    unfold beginFetch at ht
    split_ifs at ht <;> cases ht <;> exact h

theorem limits : KeptLimits fun s => Q s.timed where
  toKept := q.kept
  stopped h _ := q.modSpindle h (stoppedEntered_run _)
  flies _ _ := .inl fun h step => q.heads h step

theorem turns (start : State) : KeptTurns (fun s => Q s.timed) start where
  toKeptLimits := q.limits
  instant h := h
  permitMet {s} h _ := q.grantPermit (q.modSpindle (s := { s with permitWaiting := some .bay1 }) h
    (grantWithdrawn_run ..))

end TimedLaw
end Sys2Proof.Machine

/-!
PROOFS. The limits of the timers: each of them, once its timer stands below it, is kept by the waits and by every
other expiry, and the expiry of a timer that has reached its limit puts it below.
-/

namespace Sys2Proof.Machine

/-! ### What it is for a timer to stand below its limit -/

/-- The timers of a Spindle Controller. -/
inductive SpindleTimer | start | spinUp | drift | stop | mark

/-- The timers of a Positioner. -/
inductive HeadTimer | load | recal | seek | settling | stop | wait | hold | retract | recompute | sample

/-- The timers of a Bay Controller. -/
inductive BayTimer | pulse | leave | startBound | retry | idle

/-- The timers of the part. -/
inductive Timer
  | supply
  | spindle (b : Bay) (x : SpindleTimer)
  | heads (b : Bay) (x : HeadTimer)
  | bay (b : Bay) (x : BayTimer)
  | refresh (b : Bay)
  | poll

def Spindle.within (t : Settings) (q : Spindle) : SpindleTimer → Prop
  | .start => q.phase = .starting → below 2000 q.startTimer
  | .spinUp => q.phase = .starting ∨ q.phase = .accelerating → below (1000 * t.spinUpLimit) q.spinUpTimer
  | .drift => q.phase = .drifting → below (100 * t.relockLimit) q.driftTimer
  | .stop => q.phase = .stopping → below 500 q.stopTimer
  | .mark => q.phase.runsLaw = true → below 100000 q.markTimer

def Positioner.within (p : Positioner) : HeadTimer → Prop
  | .load => below 500 p.loadTimer
  | .recal => below 300 p.recalTimer
  | .seek => below 100 p.seekTimer
  | .settling => below 20 p.settleLimit
  | .stop => below 100 p.stopTimer
  | .wait => p.state = .settling → p.settleWait ≠ some 0
  | .hold => p.state = .retracting → below 50 p.parkHold
  | .retract => p.state = .retracting → p.parkHold = none → below 300 p.retractTimer
  | .recompute => p.state.underLoop = true → p.velTimer < 500
  | .sample => p.sampling = true → p.sampleTimer < 100

def BayControl.within (t : Settings) (c : BayControl) : BayTimer → Prop
  | .pulse => below 300 c.pulse
  | .leave => below 2000 c.leave
  | .startBound => below 2000 c.startBound
  | .retry => below 1000 c.retry
  | .idle => t.idleLimit ≠ 0 → below (10000 * t.idleLimit) c.idle

/-- The timers that the 1 µs tick counts; the 1 ms tick counts the others. -/
def Timer.micro : Timer → Prop
  | .spindle _ .mark | .heads _ .recompute | .heads _ .sample => True
  | _ => False

/-- The settings lie in their ranges, where the timer is one that they set. -/
def Timed.ranged (F : Timed) (x : Timer) : Prop := F.settings.inRange ∨ x.micro

/-- A timer that runs stands below its limit; the poll timer, while there is a Poll Interval. -/
def Timed.within (F : Timed) (x : Timer) : Prop :=
  F.ranged x ∧
    match x with
    | .supply => F.supply.accepted = true → below 100 F.supply.goodTimer
    | .spindle b x => (F.spindles.get b).within F.settings x
    | .heads b x => (F.positioners.get b).within x
    | .bay b x => (F.bays.get b).within F.settings x
    | .refresh b => below 1000 (F.refresh.get b)
    | .poll => 0 < F.hostFields.pollInterval.toNat → below F.hostFields.pollInterval.toNat F.poll

theorem below_zero {n : Nat} {y : Option Nat} (hn : 0 < n) (h : y = none ∨ y = some 0) : below n y := by
  rcases h with rfl | rfl
  · exact nofun
  · rintro m ⟨⟩
    exact hn

theorem RunsFrom.below {before after : Prop} {n : Nat} {x y : Option Nat} (h : RunsFrom before after x y) (hn : 0 < n)
    (hx : before → below n x) (ha : after) : Machine.below n y := by
  rcases h ha with ⟨hb, ht⟩ | hz
  · exact ht.below hn (hx hb)
  · exact below_zero hn hz

theorem SpindleRun.within {t : Settings} {q r : Spindle} {x : SpindleTimer} {b : Bay} (run : SpindleRun q r)
    (ht : t.inRange ∨ (Timer.spindle b x).micro) (h : q.within t x) : r.within t x := by
  cases x with
  | start => exact run.start.below (by decide) h
  | spinUp =>
    obtain ⟨-, -, -, -, -, -, -, -, -, ⟨hspin, -⟩, -⟩ := ht.resolve_right id
    exact run.spinUp.below (by omega) h
  | drift =>
    obtain ⟨-, -, -, -, -, -, -, -, -, -, ⟨hrelock, -⟩, -⟩ := ht.resolve_right id
    exact run.drift.below (by omega) h
  | stop => exact run.stop.below (by decide) h
  | mark => exact run.mark.below (by decide) h

theorem PositionerStep.within {t : Settings} {p r : Positioner} {x : HeadTimer} {b : Bay}
    (step : PositionerStep t p r) (ht : t.inRange ∨ (Timer.heads b x).micro) (h : p.within x) : r.within x := by
  obtain ⟨hload, hrecal, hseek, hsettling, hstop⟩ := step.motions
  cases x with
  | load => exact hload.below (by decide) h
  | recal => exact hrecal.below (by decide) h
  | seek => exact hseek.below (by decide) h
  | settling => exact hsettling.below (by decide) h
  | stop => exact hstop.below (by decide) h
  | wait =>
    intro hr
    rcases step.settle (ht.resolve_right id) hr with hw | ⟨hp, hw⟩
    · exact hw
    · exact hw ▸ h hp
  | hold =>
    intro hr
    rcases step.hold hr with hw | hw | ⟨hp, hw⟩
    · exact below_zero (by decide) (.inl hw)
    · exact below_zero (by decide) (.inr hw)
    · exact hw ▸ h hp
  | retract =>
    intro hr hn
    rcases step.retract hr hn with hw | hw | ⟨hp, hpn, hw⟩
    · exact below_zero (by decide) (.inl hw)
    · exact below_zero (by decide) (.inr hw)
    · exact hw ▸ h hp hpn
  | recompute =>
    intro hr
    rcases step.vel hr with hw | ⟨hp, hw⟩
    · exact hw ▸ (by decide)
    · exact hw ▸ h hp
  | sample =>
    intro hr
    rcases step.sample hr with hw | ⟨hp, hw⟩
    · exact hw ▸ (by decide)
    · exact hw ▸ h hp

theorem BayStep.within {t : Settings} {c d : BayControl} (step : BayStep c d) {x : BayTimer} (h : c.within t x) :
    d.within t x := by
  obtain ⟨hpulse, hleave, hbound, hretry, hidle⟩ := step.timers
  cases x with
  | pulse => exact hpulse.below (by decide) h
  | leave => exact hleave.below (by decide) h
  | startBound => exact hbound.below (by decide) h
  | retry => exact hretry.below (by decide) h
  | idle => exact fun hn => hidle.below (by omega) (h hn)

theorem PerBay.update_keeps {α : Type} {R : α → Prop} {p : PerBay α} {b c : Bay} {f : α → α} (h : R (p.get c))
    (hf : R (p.get b) → R (f (p.get b))) : R ((p.update b f).get c) := by
  rw [PerBay.get_update]
  split
  · subst_vars; exact hf h
  · exact h

theorem within_timedLaw (x : Timer) : TimedLaw fun F => F.within x where
  bay {F b f} h step := by
    obtain ⟨hset, h⟩ := h
    refine ⟨hset, ?_⟩
    cases x with
    | bay c x => exact PerBay.update_keeps (R := fun d : BayControl => d.within F.settings x) h step.within
    | _ => exact h
  restart {F b} h _ _ := by
    obtain ⟨hset, h⟩ := h
    refine ⟨hset, ?_⟩
    cases x with
    | bay c x =>
      refine PerBay.update_keeps (R := fun d : BayControl => d.within F.settings x) h fun hb => ?_
      cases x <;> exact hb
    | _ => exact h
  spindle {F b f} h run := by
    obtain ⟨hset, h⟩ := h
    refine ⟨hset, ?_⟩
    cases x with
    | spindle c x => exact PerBay.update_keeps (R := fun q : Spindle => q.within F.settings x) h (run.within hset)
    | _ => exact h
  heads {F b f} h step := by
    obtain ⟨hset, h⟩ := h
    refine ⟨hset, ?_⟩
    cases x with
    | heads c x => exact PerBay.update_keeps (R := fun p : Positioner => p.within x) h (step.within hset)
    | _ => exact h
  link {F r p} h hr hp := by
    obtain ⟨hset, h⟩ := h
    refine ⟨hset, ?_⟩
    cases x with
    | refresh c => exact (hr c).below (by decide) h
    | poll => exact fun hn => hp.below hn (h hn)
    | _ => exact h
  offline {F} h := by
    obtain ⟨hset, h⟩ := h
    refine ⟨hset, ?_⟩
    cases x with
    | refresh c => exact below_zero (by decide) (.inl (PerBay.get_both ..))
    | poll => exact fun hn => below_zero hn (.inl rfl)
    | _ => exact h

/-- A state whose timer `x` stands below its limit, the settings being in their ranges. -/
def State.within (s : State) (x : Timer) : Prop := s.timed.within x

theorem within_limits (x : Timer) : KeptLimits fun s => s.within x := (within_timedLaw x).limits

theorem within_turns (x : Timer) (start : State) : KeptTurns (fun s => s.within x) start :=
  (within_timedLaw x).turns start

def State.ranged (s : State) (x : Timer) : Prop := s.timed.ranged x

/-- The settings stay as they are. -/
theorem ranged_timedLaw (x : Timer) : TimedLaw fun F => F.ranged x :=
  ⟨fun h _ => h, fun h _ _ => h, fun h _ => h, fun h _ => h, fun h _ _ => h, fun h => h⟩

theorem ranged_limits (x : Timer) : KeptLimits fun s => s.ranged x := (ranged_timedLaw x).limits

theorem ranged_turns (x : Timer) (start : State) : KeptTurns (fun s => s.ranged x) start :=
  (ranged_timedLaw x).turns start

end Sys2Proof.Machine

/-!
PROOFS. What the limits of a 1 ms tick establish: each timer stands below its limit after its own expiry has been
looked at, and the others' expiries keep it there.
-/

namespace Sys2Proof.Machine

section

variable (s : State) (b : Bay)

@[simp] theorem State.timed_modSpindle (f : Spindle → Spindle) :
    (s.modSpindle b f).timed = { s.timed with spindles := s.timed.spindles.update b f } := State.timed_report ..

@[simp] theorem State.timed_modPositioner (f : Positioner → Positioner) :
    (s.modPositioner b f).timed = { s.timed with positioners := s.timed.positioners.update b f } := State.timed_report ..

@[simp] theorem State.timed_modBay (f : BayControl → BayControl) :
    (s.modBay b f).timed = { s.timed with bays := s.timed.bays.update b f } := State.timed_report ..

end

section

variable {s start : State} {b : Bay}

theorem within_modSpindle {f : Spindle → Spindle} {x : SpindleTimer} (ht : s.ranged (.spindle b x))
    (h : (f (s.spindle b)).within s.settings x) : (s.modSpindle b f).within (.spindle b x) := by
  unfold State.within
  rw [State.timed_modSpindle]
  refine ⟨ht, ?_⟩
  dsimp only
  rw [PerBay.get_update_same]
  exact h

theorem within_modPositioner {f : Positioner → Positioner} {x : HeadTimer} (ht : s.ranged (.heads b x))
    (h : (f (s.positioner b)).within x) : (s.modPositioner b f).within (.heads b x) := by
  unfold State.within
  rw [State.timed_modPositioner]
  refine ⟨ht, ?_⟩
  dsimp only
  rw [PerBay.get_update_same]
  exact h

theorem within_modBay {f : BayControl → BayControl} {x : BayTimer} (ht : s.ranged (.bay b x))
    (h : (f (s.bay b)).within s.settings x) : (s.modBay b f).within (.bay b x) := by
  unfold State.within
  rw [State.timed_modBay]
  refine ⟨ht, ?_⟩
  dsimp only
  rw [PerBay.get_update_same]
  exact h

/-- A timer that its own expiry leaves below its limit, whether it had come due or not. -/
theorem State.fire_within {x : Timer} {due : State → Bool} {f : State → State} (ht : s.ranged x)
    (idle : s.ranged x → due s = false → s.within x) (taken : s.nextInstant.ranged x → (f s.nextInstant).within x) :
    (s.fire start due f).within x := by
  unfold State.fire
  split
  · exact (within_turns x start).occurs (taken ht)
  next h => exact idle ht (by simpa using h)

theorem below_of_reached {n : Nat} {y : Option Nat} (h : reached n y = false) : below n y := by
  rintro m rfl
  simpa [reached] using h

/-! ### The spindle's limits -/

/-- A Spin Fault ends every timer that runs before the spindle stops. -/
theorem spinFault_within {x : SpindleTimer} {f : FaultClass} (hx : x ≠ .stop) (ht : s.ranged (.spindle b x)) :
    (s.spinFault b f).within (.spindle b x) := by
  have q := within_timedLaw (.spindle b x)
  have k := q.limits
  have l := ranged_limits (.spindle b x)
  have hcut : (s.spinCut b f).ranged (.spindle b x) := l.endMount (l.cutCopy (l.recordFault ht))
  have hstopping : ((s.spinCut b f).modSpindle b stoppingEntered).within (.spindle b x) :=
    within_modSpindle hcut (by
      cases x <;> simp [Spindle.within, stoppingEntered, Phase.runsLaw] at hx ⊢)
  have hstopped : (s.spinStopped b f).within (.spindle b x) :=
    k.modEntries (k.endTasksOn (k.dropLoad (k.emergencyRetract (k.loseChannel (q.releasePermit hstopping)))))
      (stopAwaited_step b)
  rw [State.spinFault_eq]
  split
  · exact k.givePark hstopped
  · exact hstopped

theorem takeStartLimit_within (ht : s.ranged (.spindle b .start)) : (takeStartLimit b s).within (.spindle b .start) := by
  unfold takeStartLimit
  split
  · exact spinFault_within (by simp) ht
  next h => exact ⟨ht, fun hp => absurd hp h⟩

theorem takeSpinUpLimit_within (ht : s.ranged (.spindle b .spinUp)) : (takeSpinUpLimit b s).within (.spindle b .spinUp) := by
  unfold takeSpinUpLimit
  split
  · exact spinFault_within (by simp) ht
  next h => exact ⟨ht, fun hp => absurd hp h⟩

theorem takeDriftLimit_within (ht : s.ranged (.spindle b .drift)) : (takeDriftLimit b s).within (.spindle b .drift) := by
  unfold takeDriftLimit
  split
  · exact spinFault_within (by simp) ht
  next h => exact ⟨ht, fun hp => absurd hp h⟩

theorem takeSilence_within (ht : s.ranged (.spindle b .mark)) : (takeSilence b s).within (.spindle b .mark) := by
  unfold takeSilence
  split
  · exact spinFault_within (by simp) ht
  next h => exact ⟨ht, fun hp => absurd hp h⟩

theorem takeStopped_within (ht : s.ranged (.spindle b .stop)) : (takeStopped b s).within (.spindle b .stop) := by
  have k := within_limits (.spindle b .stop)
  unfold takeStopped State.enterStopped
  extract_lets stopped
  have hstopped : stopped.within (.spindle b .stop) := k.dropLoad (within_modSpindle ht nofun)
  split
  next =>
    split
    · exact k.requestPermit hstopped (by simp [stopped, State.spindle, stoppedEntered])
    · exact hstopped
  next h => exact ⟨ht, fun hp => absurd hp h⟩

/-! ### The Positioner's limits -/

theorem takeHoldEnd_within (ht : s.ranged (.heads b .hold)) : (takeHoldEnd b s).within (.heads b .hold) := by
  have k := within_limits (.heads b .hold)
  unfold takeHoldEnd State.enterParked
  extract_lets parked
  have hparked : parked.within (.heads b .hold) :=
    k.endOrder (k.modSpindle (within_modPositioner ht nofun) (deferredBrake_step ..))
  split
  · split
    · exact k.setPositioner (k.handBack (k.endMount hparked)) .same
    · exact hparked
  next h =>
    refine ⟨ht, fun hs n hn => absurd ⟨hs, ?_⟩ h⟩
    exact Option.isSome_iff_exists.mpr ⟨n, hn⟩

theorem takeRetractLimit_within (ht : s.ranged (.heads b .retract)) : (takeRetractLimit b s).within (.heads b .retract) := by
  have k := within_limits (.heads b .retract)
  unfold takeRetractLimit
  split
  · exact k.takeActuatorFault (k.dropHeld (k.endOrder (k.modSpindle (within_modPositioner ht nofun)
      (deferredBrake_step ..))))
  next h => exact ⟨ht, fun hs hn => absurd ⟨hs, hn⟩ h⟩

theorem below_of_not_isSome {n : Nat} {y : Option Nat} (h : ¬y.isSome = true) : below n y := by
  rintro m rfl
  exact absurd rfl h

theorem takeLoadFault_within (ht : s.ranged (.heads b .load)) : (takeLoadFault b s).within (.heads b .load) := by
  have l := ranged_limits (.heads b .load)
  unfold takeLoadFault
  split
  · exact within_modPositioner (l.endOrder (l.recordFault ht)) nofun
  next h => exact ⟨ht, below_of_not_isSome h⟩

/-- A controlled stop begins its own timer, and stops the others of a motion. -/
theorem controlledStop_within {x : HeadTimer} (hx : (stopBegun s.settings (s.positioner b)).within x)
    (ht : s.ranged (.heads b x)) : (s.controlledStop b).within (.heads b x) := by
  have k := within_limits (.heads b x)
  have hflies (t : State) : Flies (fun s => s.within (.heads b x)) t b := .inl fun h step =>
    (within_timedLaw _).heads h step
  unfold State.controlledStop
  extract_lets begun
  have hbegun : begun.within (.heads b x) := within_modPositioner ht hx
  split
  · exact k.modHeads hbegun (hflies _) (by simpa [begun] using velocityLegEnded_step ..)
  · exact hbegun

theorem seekFault_within {x : HeadTimer} {stops : Bool} (hx : x = .recal ∨ x = .seek ∨ x = .settling ∨ x = .stop)
    (ht : s.ranged (.heads b x)) : (s.seekFault b stops).within (.heads b x) := by
  have l := ranged_limits (.heads b x)
  have hstop {t : State} (h : t.ranged (.heads b x)) : (t.controlledStop b).within (.heads b x) := by
    refine controlledStop_within ?_ h
    rcases hx with rfl | rfl | rfl | rfl <;> rintro n ⟨⟩
    decide
  have hleft : (s.seekLeft b).ranged (.heads b x) := by
    unfold State.seekLeft
    split
    · exact l.recordSeekFault (l.interruptChannel ht)
    · exact l.recordSeekFault ht
  rw [State.seekFault_eq]
  split
  · unfold State.retryMotion
    split
    · exact hstop (l.setPositioner (l.endOrder hleft) .same)
    · exact hstop (l.countReseek (l.setPositioner hleft .same))
  · split
    · exact hstop hleft
    · refine within_modPositioner hleft ?_
      rcases hx with rfl | rfl | rfl | rfl <;> exact nofun

theorem takeRecalibrateLimit_within (ht : s.ranged (.heads b .recal)) :
    (takeRecalibrateLimit b s).within (.heads b .recal) := by
  unfold takeRecalibrateLimit
  split
  · exact seekFault_within (by simp) ht
  next h => exact ⟨ht, below_of_not_isSome h⟩

theorem takeSeekLimit_within (ht : s.ranged (.heads b .seek)) : (takeSeekLimit b s).within (.heads b .seek) := by
  unfold takeSeekLimit
  split
  · exact seekFault_within (by simp) ht
  next h => exact ⟨ht, below_of_not_isSome h⟩

theorem takeSettleLimit_within (ht : s.ranged (.heads b .settling)) : (takeSettleLimit b s).within (.heads b .settling) := by
  unfold takeSettleLimit
  split
  · exact seekFault_within (by simp) ht
  next h => exact ⟨ht, below_of_not_isSome h⟩

theorem takeStopLimit_within (ht : s.ranged (.heads b .stop)) : (takeStopLimit b s).within (.heads b .stop) := by
  unfold takeStopLimit
  split
  · exact seekFault_within (by simp) ht
  next h => exact ⟨ht, below_of_not_isSome h⟩

theorem takeSettleEnd_within (ht : s.ranged (.heads b .wait)) : (takeSettleEnd b s).within (.heads b .wait) := by
  refine within_modPositioner ht fun hs hw => ?_
  unfold samplingBegun at hs hw
  split at hs
  next h => simp [h] at hw
  next h =>
    rw [if_neg h] at hw
    exact h ⟨hs, by simp [hw]⟩

/-! ### The limits of the bay and of the Link Port -/

theorem takePulseExpiry_within (ht : s.ranged (.bay b .pulse)) : (takePulseExpiry b s).within (.bay b .pulse) := by
  refine within_modBay ht ?_
  unfold pulseEnded
  split
  · exact nofun
  next h => exact below_of_not_isSome h

theorem failEject_within {x : BayTimer} (hx : x = .leave ∨ x = .startBound) (ht : s.ranged (.bay b x)) :
    (s.failEject b).within (.bay b x) := by
  refine (within_limits (.bay b x)).endTasksOn (within_modBay ht ?_)
  rcases hx with rfl | rfl <;> exact nofun

theorem takeLeaveExpiry_within (ht : s.ranged (.bay b .leave)) : (takeLeaveExpiry b s).within (.bay b .leave) := by
  unfold takeLeaveExpiry
  split
  · exact failEject_within (.inl rfl) ht
  next h => exact ⟨ht, below_of_not_isSome h⟩

theorem takeStartBoundExpiry_within (ht : s.ranged (.bay b .startBound)) :
    (takeStartBoundExpiry b s).within (.bay b .startBound) := by
  unfold takeStartBoundExpiry
  split
  · exact failEject_within (.inr rfl) ht
  next h => exact ⟨ht, below_of_not_isSome h⟩

theorem takeRetryExpiry_within (ht : s.ranged (.bay b .retry)) : (takeRetryExpiry b s).within (.bay b .retry) := by
  unfold takeRetryExpiry
  extract_lets u
  have hu : u.within (.bay b .retry) := within_modBay ht nofun
  split
  · split
    · exact (within_limits _).givePark hu
    · exact hu
  next h => exact ⟨ht, below_of_not_isSome h⟩

theorem takeIdleExpiry_within (ht : s.ranged (.bay b .idle)) : (takeIdleExpiry b s).within (.bay b .idle) := by
  unfold takeIdleExpiry
  split
  · exact (within_limits _).givePark (within_modBay ht fun _ => nofun)
  next h => exact ⟨ht, fun hn => below_of_not_isSome fun hs => h ⟨hs, hn⟩⟩

theorem takeRefreshExpiry_within (ht : s.ranged (.refresh b)) : (takeRefreshExpiry b s).within (.refresh b) := by
  unfold takeRefreshExpiry
  split
  · refine ⟨ht, below_zero (by decide) (.inr ?_)⟩
    have hr (l : Link) : (refreshPending b l).refreshTimer = l.refreshTimer := by
      unfold refreshPending
      split <;> rfl
    simp [State.timed, State.modLink, hr]
  next h => exact ⟨ht, below_of_not_isSome h⟩

theorem takePollExpiry_within (ht : s.ranged .poll) : (takePollExpiry s).within .poll := by
  unfold takePollExpiry
  split
  · exact ⟨ht, fun hn => below_zero hn (.inr rfl)⟩
  next h => exact ⟨ht, fun _ => below_of_not_isSome h⟩

theorem takeSupplyRecovery_within (ht : s.ranged .supply) : (takeSupplyRecovery s).within .supply := by
  unfold takeSupplyRecovery
  split
  · refine ⟨by simpa [State.timed, State.ranged, Timed.ranged] using ht, fun h => ?_⟩
    simp [State.timed] at h
  next h => exact ⟨ht, fun ha => absurd ha h⟩

end

end Sys2Proof.Machine

/-!
PROOFS. A 1 ms tick leaves every timer below its limit (the first part of O6).
-/

namespace Sys2Proof.Machine

/-! ### The settings and the count of the clock through a cycle -/

/-- In a cycle the settings stay in their ranges and the count stands, once it has been raised. -/
theorem inRange_clock (n : Nat) : KeptClock (State.holds (fun F => F.settings.inRange ∧ F.cycle = n) 0) where
  toKeptTakes := holds_takes
  instant h := h
  raise h _ := h
  resetDone h _ := ⟨⟨default_inRange, h.1.2⟩, h.2⟩

/-! ### The limits in their order -/

namespace KeptTurns

variable {P : State → Prop} {start : State} (k : KeptTurns P start) {s : State}

include k

theorem bothSpindles (h : P s) : P (s.forBays (Machine.spindleLimits start)) := forBays_keeps k.spindleLimits h

theorem bothPositioners (h : P s) : P (s.forBays (Machine.positionerLimits start)) :=
  forBays_keeps k.positionerLimits h

theorem bothBays (h : P s) : P (s.forBays (Machine.bayLimits start)) := forBays_keeps k.bayLimits h

end KeptTurns

section

variable {s start : State} {b : Bay}

theorem spindleLimits_within {x : SpindleTimer} (hx : x ≠ .mark) (ht : s.ranged (.spindle b x)) :
    (spindleLimits start b s).within (.spindle b x) := by
  have w := within_turns (.spindle b x) start
  have r := ranged_turns (.spindle b x) start
  unfold spindleLimits
  cases x with
  | start =>
    exact w.fire w.takeStopped (w.fire w.takeDriftLimit (w.fire w.takeSpinUpLimit
      (State.fire_within ht
        (fun h hd => ⟨h, fun _ => below_of_reached hd⟩) takeStartLimit_within)))
  | spinUp =>
    exact w.fire w.takeStopped (w.fire w.takeDriftLimit
      (State.fire_within (r.fire r.takeStartLimit ht)
        (fun h hd => ⟨h, fun _ => below_of_reached hd⟩) takeSpinUpLimit_within))
  | drift =>
    exact w.fire w.takeStopped
      (State.fire_within (r.fire r.takeSpinUpLimit (r.fire r.takeStartLimit ht))
        (fun h hd => ⟨h, fun _ => below_of_reached hd⟩) takeDriftLimit_within)
  | stop =>
    exact State.fire_within (r.fire r.takeDriftLimit (r.fire r.takeSpinUpLimit (r.fire r.takeStartLimit ht)))
      (fun h hd => ⟨h, fun _ => below_of_reached hd⟩) takeStopped_within
  | mark => exact absurd rfl hx

theorem positionerLimits_within {x : HeadTimer} (hx : x ≠ .recompute ∧ x ≠ .sample) (ht : s.ranged (.heads b x)) :
    (positionerLimits start b s).within (.heads b x) := by
  have w := within_turns (.heads b x) start
  have r := ranged_turns (.heads b x) start
  unfold positionerLimits
  cases x with
  | hold =>
    exact w.fire w.takeSettleEnd (w.fire w.takeStopLimit (w.fire w.takeSettleLimit (w.fire w.takeSeekLimit (w.fire
      w.takeRecalibrateLimit (w.fire w.takeLoadFault (w.fire w.takeRetractLimit
      (State.fire_within ht
        (fun h hd => ⟨h, fun _ => below_of_reached hd⟩) takeHoldEnd_within)))))))
  | retract =>
    exact w.fire w.takeSettleEnd (w.fire w.takeStopLimit (w.fire w.takeSettleLimit (w.fire w.takeSeekLimit (w.fire
      w.takeRecalibrateLimit (w.fire w.takeLoadFault
      (State.fire_within (r.fire r.takeHoldEnd ht)
        (fun h hd => ⟨h, fun _ _ => below_of_reached hd⟩) takeRetractLimit_within))))))
  | load =>
    exact w.fire w.takeSettleEnd (w.fire w.takeStopLimit (w.fire w.takeSettleLimit (w.fire w.takeSeekLimit (w.fire
      w.takeRecalibrateLimit
      (State.fire_within (r.fire r.takeRetractLimit (r.fire r.takeHoldEnd ht))
        (fun h hd => ⟨h, below_of_reached hd⟩) takeLoadFault_within)))))
  | recal =>
    exact w.fire w.takeSettleEnd (w.fire w.takeStopLimit (w.fire w.takeSettleLimit (w.fire w.takeSeekLimit
      (State.fire_within (r.fire r.takeLoadFault (r.fire r.takeRetractLimit (r.fire r.takeHoldEnd ht)))
        (fun h hd => ⟨h, below_of_reached hd⟩) takeRecalibrateLimit_within))))
  | seek =>
    exact w.fire w.takeSettleEnd (w.fire w.takeStopLimit (w.fire w.takeSettleLimit
      (State.fire_within (r.fire r.takeRecalibrateLimit (r.fire r.takeLoadFault (r.fire r.takeRetractLimit (r.fire
        r.takeHoldEnd ht))))
        (fun h hd => ⟨h, below_of_reached hd⟩) takeSeekLimit_within)))
  | settling =>
    exact w.fire w.takeSettleEnd (w.fire w.takeStopLimit
      (State.fire_within (r.fire r.takeSeekLimit (r.fire r.takeRecalibrateLimit (r.fire r.takeLoadFault (r.fire
        r.takeRetractLimit (r.fire r.takeHoldEnd ht)))))
        (fun h hd => ⟨h, below_of_reached hd⟩) takeSettleLimit_within))
  | stop =>
    exact w.fire w.takeSettleEnd
      (State.fire_within (r.fire r.takeSettleLimit (r.fire r.takeSeekLimit (r.fire r.takeRecalibrateLimit (r.fire
        r.takeLoadFault (r.fire r.takeRetractLimit (r.fire r.takeHoldEnd ht))))))
        (fun h hd => ⟨h, below_of_reached hd⟩) takeStopLimit_within)
  | wait =>
    exact State.fire_within (r.fire r.takeStopLimit (r.fire r.takeSettleLimit (r.fire r.takeSeekLimit (r.fire
      r.takeRecalibrateLimit (r.fire r.takeLoadFault (r.fire r.takeRetractLimit (r.fire r.takeHoldEnd ht)))))))
      (fun h hd => ⟨h, fun _ => beq_eq_false_iff_ne.mp hd⟩) takeSettleEnd_within
  | recompute => exact absurd rfl hx.1
  | sample => exact absurd rfl hx.2

theorem bayLimits_within {x : BayTimer} (ht : s.ranged (.bay b x)) : (bayLimits start b s).within (.bay b x) := by
  have w := within_turns (.bay b x) start
  have r := ranged_turns (.bay b x) start
  unfold bayLimits
  cases x with
  | pulse =>
    exact w.fire w.takeRefreshExpiry (w.fire w.takeIdleExpiry (w.fire w.takeRetryExpiry (w.fire w.takeStartBoundExpiry
      (w.fire w.takeLeaveExpiry
      (State.fire_within ht
        (fun h hd => ⟨h, below_of_reached hd⟩) takePulseExpiry_within)))))
  | leave =>
    exact w.fire w.takeRefreshExpiry (w.fire w.takeIdleExpiry (w.fire w.takeRetryExpiry (w.fire w.takeStartBoundExpiry
      (State.fire_within (r.fire r.takePulseExpiry ht)
        (fun h hd => ⟨h, below_of_reached hd⟩) takeLeaveExpiry_within))))
  | startBound =>
    exact w.fire w.takeRefreshExpiry (w.fire w.takeIdleExpiry (w.fire w.takeRetryExpiry
      (State.fire_within (r.fire r.takeLeaveExpiry (r.fire r.takePulseExpiry ht))
        (fun h hd => ⟨h, below_of_reached hd⟩) takeStartBoundExpiry_within)))
  | retry =>
    exact w.fire w.takeRefreshExpiry (w.fire w.takeIdleExpiry
      (State.fire_within (r.fire r.takeStartBoundExpiry (r.fire r.takeLeaveExpiry (r.fire r.takePulseExpiry ht)))
        (fun h hd => ⟨h, below_of_reached hd⟩) takeRetryExpiry_within))
  | idle =>
    refine w.fire w.takeRefreshExpiry
      (State.fire_within (r.fire r.takeRetryExpiry (r.fire r.takeStartBoundExpiry (r.fire r.takeLeaveExpiry (r.fire
        r.takePulseExpiry ht))))
        (fun h hd => ⟨h, fun hn => ?_⟩) takeIdleExpiry_within)
    simp only [Bool.and_eq_false_iff, bne_eq_false_iff_eq] at hd
    exact below_of_reached (hd.resolve_left hn)

theorem bayLimits_refresh (ht : s.ranged (.refresh b)) : (bayLimits start b s).within (.refresh b) := by
  have r := ranged_turns (.refresh b) start
  exact State.fire_within (r.fire r.takeIdleExpiry (r.fire r.takeRetryExpiry (r.fire r.takeStartBoundExpiry (r.fire
    r.takeLeaveExpiry (r.fire r.takePulseExpiry ht)))))
    (fun h hd => ⟨h, below_of_reached hd⟩) takeRefreshExpiry_within

theorem pollLimit_within (ht : s.ranged .poll) :
    (s.fire start (fun t => reached t.hostFields.pollInterval.toNat t.link.pollTimer) takePollExpiry).within .poll :=
  State.fire_within ht (fun h hd => ⟨h, fun _ => below_of_reached hd⟩) takePollExpiry_within

/-- What a rule made for both bays establishes of each of them. -/
theorem forBays_within {f : Bay → State → State} {x : Bay → Timer}
    (keeps : ∀ {P : State → Prop}, KeptTurns P start → ∀ {s b}, P s → P (f b s))
    (sets : ∀ {b s}, State.ranged s (x b) → (f b s).within (x b)) (ht : s.ranged (x b)) :
    (s.forBays f).within (x b) := by
  cases b with
  | bay0 => exact keeps (within_turns (x .bay0) start) (sets ht)
  | bay1 => exact sets (keeps (ranged_turns (x .bay1) start) ht)

/-- After the 1 ms tick every timer it counts stands below its limit. -/
theorem milliTick_within {n : Nat} {x : Timer} (hx : ¬x.micro)
    (hs : s.holds (fun F => F.settings.inRange ∧ F.cycle = n) 0)
    (hstart : CycleStart (State.holds (fun F => F.settings.inRange ∧ F.cycle = n) 0) start) :
    (milliTick start s).within x := by
  have c := inRange_clock n
  have w := within_turns x start
  have r := ranged_turns x start
  have hsampled : ((millisCounted s).forBays (sampleBay start)).holds (fun F => F.settings.inRange ∧ F.cycle = n) 0 :=
    forBays_keeps (fun {b} => (c.samples hstart b).sampleBay) (c.millisCounted hs)
  unfold milliTick
  extract_lets recovered
  have h0 : recovered.ranged x := .inl ((c.turns hstart).fire c.takeSupplyRecovery hsampled).1.1
  have h1 : (recovered.forBays (spindleLimits start)).ranged x := r.bothSpindles h0
  have h2 : ((recovered.forBays (spindleLimits start)).forBays (positionerLimits start)).ranged x :=
    r.bothPositioners h1
  cases x with
  | supply =>
    refine w.fire w.takePollExpiry (w.bothBays (w.bothPositioners (w.bothSpindles ?_)))
    refine State.fire_within (.inl hsampled.1.1) (fun h hd => ⟨h, fun ha => ?_⟩) takeSupplyRecovery_within
    simp only [Bool.and_eq_false_iff] at hd
    exact below_of_reached (hd.resolve_left (by simpa [State.timed] using ha))
  | spindle b x =>
    have hmark : x ≠ .mark := fun hm => hx (hm ▸ trivial)
    exact w.fire w.takePollExpiry (w.bothBays (w.bothPositioners
      (forBays_within (x := fun b => .spindle b x) KeptTurns.spindleLimits (spindleLimits_within hmark) h0)))
  | heads b x =>
    have hmicro : x ≠ .recompute ∧ x ≠ .sample := ⟨fun hm => hx (hm ▸ trivial), fun hm => hx (hm ▸ trivial)⟩
    exact w.fire w.takePollExpiry (w.bothBays
      (forBays_within (x := fun b => .heads b x) KeptTurns.positionerLimits (positionerLimits_within hmicro) h1))
  | bay b x =>
    exact w.fire w.takePollExpiry
      (forBays_within (x := fun b => .bay b x) KeptTurns.bayLimits bayLimits_within h2)
  | refresh b =>
    exact w.fire w.takePollExpiry
      (forBays_within (x := fun b => .refresh b) KeptTurns.bayLimits bayLimits_refresh h2)
  | poll => exact pollLimit_within (r.bothBays h2)

end

end Sys2Proof.Machine

/-!
PROOFS. A 1 µs tick leaves the timers it counts below their limits, and the rest of the cycle keeps every timer below
its limit (the second part of O6).
-/

namespace Sys2Proof.Machine

section

variable {s start : State} {b c : Bay} {x : Timer}

/-- The bay of the timer that a 1 µs tick counts. -/
def Timer.bay? : Timer → Option Bay
  | .spindle b _ | .heads b _ => some b
  | _ => none

theorem onTrackSampled_step (t : Settings) (v : Bool) (p : Positioner) : PositionerStep t p (onTrackSampled v p) :=
  { PositionerStep.refl t p with
    range := fun _ h => ⟨h.counter, h.vmeas, h.crossTimer, h.dac, h.retractRetries⟩
    motion := fun h => h
    sample := fun _ => .inl rfl }

/-! ### The 1 µs tick -/

theorem State.within_level {f : BayPins → BayPins} (h : s.within x) : (s.modPins b f).within x := h

theorem takeOnTrack_keeps (h : s.within x) : (takeOnTrack b s).within x :=
  (within_limits x).takeOnTrack h (State.within_level h)

theorem sampleOnTrack_keeps (h : s.within x) : (sampleOnTrack start b s).within x := by
  have w := within_turns x start
  unfold sampleOnTrack
  split
  · extract_lets t
    have ht : t.within x := w.setPositioner h (onTrackSampled_step ..)
    split
    · exact w.occur takeOnTrack_keeps ht
    · exact ht
  · exact h

/-- The sample of On Track that is due every 100 µs is taken. -/
theorem sampleOnTrack_within : (sampleOnTrack start b s).within (.heads b .sample) := by
  unfold sampleOnTrack
  split
  · extract_lets t
    have ht : t.within (.heads b .sample) := within_modPositioner (.inr trivial) fun _ => by simp [onTrackSampled]
    split
    · exact (within_turns _ start).occur takeOnTrack_keeps ht
    · exact ht
  next h =>
    refine ⟨.inr trivial, fun hs => ?_⟩
    have hs : (s.positioner b).sampling = true := hs
    rw [hs, Bool.true_and, decide_eq_true_eq] at h
    exact not_le.mp h

theorem takeRecompute_within : (takeRecompute b s).within (.heads b .recompute) := by
  unfold takeRecompute
  split
  · exact within_modPositioner (.inr trivial) fun _ => by simp [demandComputed]
  next h => exact ⟨.inr trivial, fun hu => absurd hu h⟩

/-- The counting of the other bay's timers. -/
theorem microCounted_other (h : s.within x) (hx : x.micro) (hb : x.bay? ≠ some b) :
    ((s.modSpindle b spindleMicro).modPositioner b positionerMicro).within x := by
  unfold State.within
  rw [State.timed_modPositioner, State.timed_modSpindle]
  refine ⟨.inr hx, ?_⟩
  have hne {c : Bay} (hc : some c ≠ some b) : c ≠ b := fun e => hc (e ▸ rfl)
  cases x with
  | spindle c y => simpa [PerBay.get_update, hne hb] using h.2
  | heads c y => simpa [PerBay.get_update, hne hb] using h.2
  | _ => exact hx.elim

/-- A 1 µs tick of one bay keeps the timers of the other below their limits. -/
theorem microTick_other (h : s.within x) (hx : x.micro) (hb : x.bay? ≠ some b) : (microTick start b s).within x := by
  have w := within_turns x start
  unfold microTick
  extract_lets silent counted
  have hcounted : counted.within x := microCounted_other h hx hb
  exact sampleOnTrack_keeps (w.fire w.takeSilence (w.fire w.takeIndexMissing
    (w.fire w.takeRecompute (w.fire w.takeCrossingSilence hcounted))))

/-- A 1 µs tick of a bay puts each of its timers below its limit. -/
theorem microTick_within (hx : x.micro) (hb : x.bay? = some b) : (microTick start b s).within x := by
  have w := within_turns x start
  unfold microTick
  extract_lets silent counted
  cases x with
  | spindle c y =>
    cases y with
    | mark =>
      cases hb
      refine sampleOnTrack_keeps (State.fire_within (.inr trivial) (fun h hd => ⟨h, fun hp => ?_⟩)
        takeSilence_within)
      exact below_of_reached (n := Config.markSilence) (Bool.and_eq_false_imp.mp hd hp)
    | _ => exact hx.elim
  | heads c y =>
    cases y with
    | recompute =>
      cases hb
      refine sampleOnTrack_keeps (w.fire w.takeSilence (w.fire w.takeIndexMissing
        (State.fire_within (.inr trivial) (fun h hd => ⟨h, fun hu => ?_⟩) fun _ => takeRecompute_within)))
      exact not_le.mp (of_decide_eq_false (Bool.and_eq_false_imp.mp hd hu))
    | sample =>
      cases hb
      exact sampleOnTrack_within
    | _ => exact hx.elim
  | _ => exact hx.elim

/-! ### The 1 ms tick and the end of the cycle -/

theorem within_raises (x : Timer) (b : Bay) : Raises (fun s => s.within x) b := by
  intro s f h hr
  obtain ⟨hset, h⟩ := h
  refine ⟨hset, ?_⟩
  cases x with
  | bay c y =>
    refine PerBay.update_keeps (R := fun d : BayControl => d.within s.settings y) h fun hb => ?_
    have hrest := hr.rest.within hb
    cases y <;> exact hrest
  | _ => exact h

/-- The samples of the bay inputs keep the timers of the 1 µs tick. -/
theorem within_samples (hx : x.micro) (start : State) (b : Bay) : KeptSamples (fun s => s.within x) start b where
  toKeptTurns := within_turns x start
  levels h := State.within_level h
  inputs {s f} h _ := by
    cases x with
    | spindle c y => exact h
    | heads c y => exact h
    | _ => exact hx.elim
  raises := within_raises x b
  abandon {s} h := by
    unfold State.within
    rw [State.timed_modPositioner]
    cases x with
    | spindle c y => exact h
    | heads c y =>
      refine ⟨h.1, PerBay.update_keeps (R := fun p : Positioner => p.within y) h.2 fun hp => ?_⟩
      cases y with
      | recompute => exact hp
      | sample => exact hp
      | _ => exact hx.elim
    | _ => exact hx.elim

theorem millisCounted_micro (hx : x.micro) (h : s.within x) : (millisCounted s).within x := by
  cases x with
  | spindle c y =>
    cases y with
    | mark => cases c <;> exact h
    | _ => exact hx.elim
  | heads c y =>
    cases y with
    | recompute => cases c <;> exact h
    | sample => cases c <;> exact h
    | _ => exact hx.elim
  | _ => exact hx.elim

theorem takeSupplyRecovery_micro (hx : x.micro) (h : s.within x) : (takeSupplyRecovery s).within x := by
  unfold takeSupplyRecovery
  split
  · unfold State.within
    rw [State.timed_modPositioner, State.timed_modPositioner]
    cases x with
    | spindle c y => exact h
    | heads c y =>
      have recovered {p : Positioner} (hp : p.within y) : (headsRecovered p).within y := by
        cases y with
        | recompute => exact hp
        | sample => exact hp
        | _ => exact hx.elim
      exact ⟨h.1, PerBay.update_keeps (R := fun p : Positioner => p.within y)
        (PerBay.update_keeps (R := fun p : Positioner => p.within y) h.2 recovered) recovered⟩
    | _ => exact hx.elim
  · exact h

/-- The 1 ms tick keeps the timers of the 1 µs tick below their limits. -/
theorem milliTick_micro (hx : x.micro) (h : s.within x) : (milliTick start s).within x := by
  have w := within_turns x start
  unfold milliTick
  extract_lets recovered
  have hsampled : ((millisCounted s).forBays (sampleBay start)).within x :=
    (within_samples hx start .bay1).sampleBay ((within_samples hx start .bay0).sampleBay (millisCounted_micro hx h))
  have hrecovered : recovered.within x := w.fire (takeSupplyRecovery_micro hx) hsampled
  exact w.fire w.takePollExpiry (w.bothBays (w.bothPositioners (w.bothSpindles hrecovered)))

/-- R176: no timer runs where the part takes its Bus Reset values. -/
theorem resetDone_within (hends : s.resetEnds = true) : s.resetDone.within x := by
  simp only [State.resetEnds, State.bayRunDown, Bool.and_eq_true, Bool.or_eq_true, beq_iff_eq] at hends
  obtain ⟨⟨⟨⟨⟨-, h0⟩, h1⟩, -⟩, -⟩, hlow⟩ := hends
  have hoff (b : Bay) : (s.resetDone.positioner b).state = .parked ∨ (s.resetDone.positioner b).state = .fault := by
    cases b with
    | bay0 => exact h0.1.1
    | bay1 => exact h1.1.1
  have hphase (b : Bay) : (s.resetDone.spindle b).phase = .stopped := by cases b <;> rfl
  refine ⟨.inl default_inRange, ?_⟩
  cases x with
  | supply => exact fun ha => by simp [State.timed, State.resetDone] at ha; simp [ha] at hlow
  | spindle c y =>
    have hp : (s.resetDone.timed.spindles.get c).phase = .stopped := hphase c
    cases y <;> simp [Spindle.within, hp, Phase.runsLaw]
  | heads c y =>
    have hs : (s.resetDone.timed.positioners.get c).state = .parked ∨ (s.resetDone.timed.positioners.get c).state = .fault :=
      hoff c
    obtain ⟨p, hp⟩ : ∃ p, s.resetDone.timed.positioners.get c = positionerReset p := by cases c <;> exact ⟨_, rfl⟩
    cases y with
    | hold | retract | recompute => rcases hs with hs | hs <;> simp [Positioner.within, hs, Actuator.underLoop]
    | _ => simp [hp, Positioner.within, positionerReset, motionTimersStopped, below]
  | bay c y =>
    obtain ⟨d, hd⟩ : ∃ d, s.resetDone.timed.bays.get c = bayReset d := by cases c <;> exact ⟨_, rfl⟩
    cases y <;> simp [hd, BayControl.within, bayReset, ejectStopped, below]
  | refresh c => cases c <;> exact nofun
  | poll => exact fun _ => nofun

/-- What the end of a cycle leaves of the timers: the end of Reset in Progress and the interlocks. -/
theorem cycleEnd_within (h : s.within x) : ((s.fire start State.resetEnds takeResetEnd).closed).within x := by
  have w := within_turns x start
  exact w.closed (w.fire (fun h => w.takeResetEnd (within_raises x) resetDone_within h) h)

end

end Sys2Proof.Machine

/-!
PROOFS. The parts of a clock cycle, and the timers at the end of one.
-/

namespace Sys2Proof.Machine

/-! ### The parts of a cycle -/

/-- The inputs that every cycle samples, and the step of the PWM period. -/
def State.cycleSampled (s : State) : State :=
  ((((sampleSupply s { s with cycle := s.cycle + 1 }).forBays (sampleSpindle s)).forBays (sampleCrossing s)).forBays
    (sampleGuard s)).forBays (pwmStep s ((s.cycle + 1) % Config.cyclesPerPwm))

/-- The cycle up to its 1 µs tick. -/
def State.cycleMicro (s : State) : State :=
  s.cycleSampled.every Config.cyclesPerMicro fun t => t.forBays (microTick s)

/-- The cycle up to its 1 ms tick. -/
def State.cycleMilli (s : State) : State := s.cycleMicro.every Config.cyclesPerMilli (milliTick s)

theorem clockCycle_eq (s : State) : clockCycle s = (s.cycleMilli.fire s State.resetEnds takeResetEnd).closed := rfl

section

variable {P : State → Prop} (k : KeptClock P) {s : State}

include k

theorem KeptClock.cycleSampled (h : P { s with cycle := s.cycle + 1 }) : P s.cycleSampled := by
  have hstart : CycleStart P s := ⟨_, h⟩
  have c := k.cycle hstart
  exact forBays_keeps c.pwmStep (forBays_keeps (k.sampleGuard hstart) (forBays_keeps c.sampleCrossing
    (forBays_keeps c.sampleSpindle (k.sampleSupply hstart h))))

theorem KeptClock.cycleMicro (h : P { s with cycle := s.cycle + 1 }) : P s.cycleMicro :=
  every_keeps (forBays_keeps (k.cycle ⟨_, h⟩).microTick) (k.cycleSampled h)

end

/-- In a cycle the count stands, once it has been raised. -/
theorem counted_clock (n : Nat) : KeptClock (State.holds (fun F => F.cycle = n) 0) where
  toKeptTakes := holds_takes
  instant h := h
  raise h _ := h
  resetDone h _ := h

theorem State.cycleSampled_cycle (s : State) : s.cycleSampled.cycle = s.cycle + 1 :=
  ((counted_clock (s.cycle + 1)).cycleSampled ⟨rfl, Nat.zero_le _⟩).1

theorem State.cycleMicro_cycle (s : State) : s.cycleMicro.cycle = s.cycle + 1 :=
  ((counted_clock (s.cycle + 1)).cycleMicro ⟨rfl, Nat.zero_le _⟩).1

theorem State.cycleMicro_tick {s : State} (h : (s.cycle + 1) % 8 = 0) :
    s.cycleMicro = s.cycleSampled.forBays (microTick s) :=
  if_pos (s.cycleSampled_cycle.symm ▸ h)

theorem State.cycleMicro_off {s : State} (h : (s.cycle + 1) % 8 ≠ 0) : s.cycleMicro = s.cycleSampled :=
  if_neg (s.cycleSampled_cycle.symm ▸ h)

theorem State.cycleMilli_tick {s : State} (h : (s.cycle + 1) % 8000 = 0) : s.cycleMilli = milliTick s s.cycleMicro :=
  if_pos (s.cycleMicro_cycle.symm ▸ h)

theorem State.cycleMilli_off {s : State} (h : (s.cycle + 1) % 8000 ≠ 0) : s.cycleMilli = s.cycleMicro :=
  if_neg (s.cycleMicro_cycle.symm ▸ h)

/-! ### The timers at the end of a cycle -/

section

variable {s : State} {x : Timer}

theorem clockCycle_within (tick : (s.cycle + 1) % 8000 = 0) (hset : s.settings.inRange) (hx : ¬x.micro) :
    (clockCycle s).within x := by
  have hstart : { s with cycle := s.cycle + 1 }.holds (fun F => F.settings.inRange ∧ F.cycle = s.cycle + 1) 0 :=
    ⟨⟨hset, rfl⟩, Nat.zero_le _⟩
  have hmilli : s.cycleMilli.within x := by
    rw [State.cycleMilli_tick tick]
    exact milliTick_within hx ((inRange_clock _).cycleMicro hstart) ⟨_, hstart⟩
  exact cycleEnd_within hmilli

theorem clockCycle_micro (tick : (s.cycle + 1) % 8 = 0) (hx : x.micro) : (clockCycle s).within x := by
  have hmicro : s.cycleMicro.within x := by
    rw [State.cycleMicro_tick tick]
    by_cases h0 : x.bay? = some .bay0
    · exact microTick_other (microTick_within hx h0) hx (by simp [h0])
    · refine microTick_within hx ?_
      cases x with
      | spindle c y => cases c with
        | bay0 => exact absurd rfl h0
        | bay1 => rfl
      | heads c y => cases c with
        | bay0 => exact absurd rfl h0
        | bay1 => rfl
      | _ => exact hx.elim
  have hmilli : s.cycleMilli.within x := every_keeps (P := fun t => t.within x) (fun h => milliTick_micro hx h) hmicro
  exact cycleEnd_within hmilli

/-- The poll timer stands at the end of every instant where there is no Poll Interval. -/
theorem closed_poll_none (h : s.closed.hostFields.pollInterval = 0#16) : s.closed.link.pollTimer = none := by
  have hruns : s.interlocked.pollRuns = false := by
    have h : s.interlocked.hostFields.pollInterval = 0#16 := h
    simp [State.pollRuns, h]
  have hpoll : s.closed.link.pollTimer = timerWhile s.interlocked.pollRuns s.interlocked.link.pollTimer := rfl
  rw [hpoll, hruns]
  rfl

/-- The limits, read timer by timer. -/
theorem limitsKept_of_within (h : ∀ {x : Timer}, ¬x.micro → s.within x)
    (hpoll : s.hostFields.pollInterval = 0#16 → s.link.pollTimer = none) : s.limitsKept where
  supply := (h (x := .supply) nofun).2
  start b := (h (x := .spindle b .start) nofun).2
  spinUp b := (h (x := .spindle b .spinUp) nofun).2
  drift b := (h (x := .spindle b .drift) nofun).2
  stop b := (h (x := .spindle b .stop) nofun).2
  motions b := ⟨(h (x := .heads b .load) nofun).2,
    (h (x := .heads b .recal) nofun).2,
    (h (x := .heads b .seek) nofun).2,
    (h (x := .heads b .settling) nofun).2,
    (h (x := .heads b .stop) nofun).2⟩
  settle b := (h (x := .heads b .wait) nofun).2
  hold b := (h (x := .heads b .hold) nofun).2
  retract b := (h (x := .heads b .retract) nofun).2
  bays b := ⟨(h (x := .bay b .pulse) nofun).2,
    (h (x := .bay b .leave) nofun).2,
    (h (x := .bay b .startBound) nofun).2,
    (h (x := .bay b .retry) nofun).2⟩
  idle b := (h (x := .bay b .idle) nofun).2
  refresh b := (h (x := .refresh b) nofun).2
  poll := by
    by_cases hzero : s.hostFields.pollInterval = 0#16
    · simp [hpoll hzero, below]
    · refine (h (x := .poll) nofun).2 (Nat.pos_of_ne_zero fun hz => hzero ?_)
      exact BitVec.eq_of_toNat_eq hz

/-- After the 1 ms tick no timer stands at its limit. -/
theorem clockCycle_limitsKept (tick : (s.cycle + 1) % 8000 = 0) (hset : s.settings.inRange) :
    (clockCycle s).limitsKept := by
  refine limitsKept_of_within (clockCycle_within tick hset) ?_
  rw [clockCycle_eq]
  exact closed_poll_none

end

end Sys2Proof.Machine

/-!
PROOFS. A cycle in which nothing comes due: it samples and counts, and takes no event (the third part of O6).
-/

namespace Sys2Proof.Machine

/-! ### What a quiet cycle leaves -/

/-- The registers outside the bays that a quiet cycle leaves. -/
structure Still where
  instant : Nat
  entries : List Entry
  reset : Bool
  channel : Channel
  refresh : PerBay (Option Nat)
  poll : Option Nat
  hostFields : HostFields
  settings : Settings
  pins : Pins
  low : Bool

def State.still (s : State) : Still where
  instant := s.instant
  entries := s.entries
  reset := s.resetInProgress
  channel := s.channel
  refresh := s.link.refreshTimer
  poll := s.link.pollTimer
  hostFields := s.hostFields
  settings := s.settings
  pins := s.pins
  low := s.supply.accepted

/-- A Spindle Controller but for the levels last sampled and the line. -/
def fineSpindle (q : Spindle) : Spindle := { q with tachLast := false, indexLast := false, pwm := false }

/-- A Positioner but for the run of Outer Guard. -/
def finePositioner (p : Positioner) : Positioner := { p with outerGuard := ⟨p.outerGuard.accepted, 0⟩ }

/-- A Spindle Controller but for what the 1 µs tick counts, too. -/
def coarseSpindle (q : Spindle) : Spindle := { fineSpindle q with markTimer := none, indexSince := none }

/-- A Positioner but for what the 1 µs tick counts, too. -/
def coarsePositioner (p : Positioner) : Positioner :=
  { finePositioner p with crossTimer := 0, velTimer := 0, sampleTimer := 0 }

/-- A Bay Controller but for the runs of its inputs. -/
def coarseBay (c : BayControl) : BayControl :=
  { c with
    present := ⟨c.present.accepted, 0⟩, writeProtect := ⟨c.writeProtect.accepted, 0⟩
    button := ⟨c.button.accepted, 0⟩, parkDetect := ⟨c.parkDetect.accepted, 0⟩ }

/-- The part unchanged but for what two masks leave out of the spindles and the actuators, and for the runs of the bay
inputs. -/
structure Calm (fq : Spindle → Spindle) (fp : Positioner → Positioner) (s u : State) : Prop where
  still : u.still = s.still
  spindle : ∀ b, fq (u.spindle b) = fq (s.spindle b)
  positioner : ∀ b, fp (u.positioner b) = fp (s.positioner b)
  bay : ∀ b, coarseBay (u.bay b) = coarseBay (s.bay b)

@[simp] theorem State.still_report (s : State) (b : Bay) (changed : Bool) :
    (s.report b changed).still = s.still := by
  unfold State.report State.notable
  split_ifs <;> rfl

namespace Calm

variable {fq : Spindle → Spindle} {fp : Positioner → Positioner} {s u : State} {b : Bay}

theorem modSpindle {f : Spindle → Spindle} (h : Calm fq fp s u) (hf : fq (f (u.spindle b)) = fq (u.spindle b)) :
    Calm fq fp s (u.modSpindle b f) where
  still := (State.still_report ..).trans h.still
  spindle c := by
    rw [State.spindle_modSpindle]
    split
    next hc => subst hc; exact hf.trans (h.spindle c)
    · exact h.spindle c
  positioner c := by
    rw [State.positioner_congr (State.modSpindle_positioners ..)]
    exact h.positioner c
  bay c := by
    rw [State.bay_congr (State.modSpindle_bays ..)]
    exact h.bay c

theorem modPositioner {f : Positioner → Positioner} (h : Calm fq fp s u)
    (hf : fp (f (u.positioner b)) = fp (u.positioner b)) : Calm fq fp s (u.modPositioner b f) where
  still := (State.still_report ..).trans h.still
  spindle c := by
    rw [State.spindle_congr (State.modPositioner_spindles ..)]
    exact h.spindle c
  positioner c := by
    rw [State.positioner_modPositioner]
    split
    next hc => subst hc; exact hf.trans (h.positioner c)
    · exact h.positioner c
  bay c := by
    rw [State.bay_congr (State.modPositioner_bays ..)]
    exact h.bay c

theorem modBay {f : BayControl → BayControl} (h : Calm fq fp s u)
    (hf : coarseBay (f (u.bay b)) = coarseBay (u.bay b)) : Calm fq fp s (u.modBay b f) where
  still := (State.still_report ..).trans h.still
  spindle c := by
    rw [State.spindle_congr (State.modBay_spindles ..)]
    exact h.spindle c
  positioner c := by
    rw [State.positioner_congr (State.modBay_positioners ..)]
    exact h.positioner c
  bay c := by
    rw [State.bay_modBay]
    split
    next hc => subst hc; exact hf.trans (h.bay c)
    · exact h.bay c

end Calm

/-! ### Events that are not due -/

theorem State.fire_idle {s start : State} {due : State → Bool} {f : State → State} (h : due s = false) :
    s.fire start due f = s := if_neg (by simp [h])

section

variable {s u start : State} {b : Bay}

theorem sampleSpindle_quiet (ht : (u.pinsOf b).tach = true → (u.spindle b).tachLast = true)
    (hi : (u.pinsOf b).index = true → (u.spindle b).indexLast = true) :
    sampleSpindle start b u = u.modSpindle b (edgesKept (u.pinsOf b)) := by
  have htach : ((u.pinsOf b).tach && !(u.spindle b).tachLast) = false := by
    cases h : (u.pinsOf b).tach <;> simp [ht, h]
  have hindex : ((u.pinsOf b).index && !(u.spindle b).indexLast) = false := by
    cases h : (u.pinsOf b).index <;> simp [hi, h]
  unfold sampleSpindle
  dsimp only
  rw [State.fire_idle (due := fun _ => (u.pinsOf b).tach && !(u.spindle b).tachLast) htach,
    State.fire_idle (due := fun _ => (u.pinsOf b).index && !(u.spindle b).indexLast) hindex]

theorem sampleCrossing_quiet (ha : (u.pinsOf b).crossA = (u.positioner b).crossA)
    (hb : (u.pinsOf b).crossB = (u.positioner b).crossB) : sampleCrossing start b u = u := by
  simp [sampleCrossing, ha, hb]

theorem sampleGuard_quiet (h : (u.pinsOf b).outerGuard = (u.positioner b).outerGuard.accepted) :
    sampleGuard start b u = u.modPositioner b fun p => { p with outerGuard := ⟨(u.positioner b).outerGuard.accepted, 0⟩ } :=
  if_pos h

/-- No timer of a bay comes due at a 1 µs tick. -/
structure MicroQuiet (q : Spindle) (p : Positioner) : Prop where
  cross : p.crossTimer ≠ 1999
  sampling : p.sampling = false
  vel : p.state.underLoop = true → p.velTimer < 499
  mark : q.phase.runsLaw = true → below 99999 q.markTimer
  window : q.indexArmed = true → below (indexPeriod q.activeTarget + indexHalf q.activeTarget) q.indexSince

theorem microTick_quiet (h : MicroQuiet (u.spindle b) (u.positioner b)) :
    microTick start b u = (u.modSpindle b spindleMicro).modPositioner b positionerMicro := by
  obtain ⟨hcross, hsampling, hvel, hmark, hwindow⟩ := h
  unfold microTick
  extract_lets silent counted
  have hq : counted.spindle b = spindleMicro (u.spindle b) := by
    rw [State.spindle_congr (State.modPositioner_spindles ..)]
    exact (State.spindle_modSpindle ..).trans (if_pos rfl)
  have hp : counted.positioner b = positionerMicro (u.positioner b) := by
    refine (State.positioner_modPositioner ..).trans ((if_pos rfl).trans ?_)
    rw [State.positioner_congr (State.modSpindle_positioners ..)]
  have hsilent : silent = false := by
    refine beq_eq_false_iff_ne.mpr fun he => hcross ?_
    have he : (u.positioner b).crossTimer + 1 = 2000 := he
    omega
  have hrecompute : ((counted.positioner b).state.underLoop &&
      decide (Config.recomputeInterval ≤ (counted.positioner b).velTimer)) = false := by
    rw [hp, Bool.and_eq_false_imp]
    intro hu
    have := hvel hu
    refine decide_eq_false ?_
    simp only [positionerMicro, Config.recomputeInterval]
    omega
  have hclosed : windowClosed (counted.spindle b) = false := by
    rw [hq]
    unfold windowClosed
    rw [Bool.and_eq_false_imp]
    intro ha
    have hbelow := hwindow ha
    cases hn : (u.spindle b).indexSince with
    | none => simp [spindleMicro, hn]
    | some n =>
      have := hbelow n hn
      simp only [spindleMicro, hn, Option.map_some, Option.any_some, decide_eq_false_iff_not]
      omega
  have hmarks : ((counted.spindle b).phase.runsLaw &&
      (counted.spindle b).markTimer.any fun n => decide (Config.markSilence ≤ n)) = false := by
    rw [hq, Bool.and_eq_false_imp]
    intro hr
    have hbelow := hmark hr
    cases hn : (u.spindle b).markTimer with
    | none => simp [spindleMicro, hn]
    | some n =>
      have := hbelow n hn
      simp only [spindleMicro, hn, Option.map_some, Option.any_some]
      refine decide_eq_false ?_
      simp only [Config.markSilence, Config.markTop]
      omega
  rw [State.fire_idle (due := fun _ => silent) hsilent,
    State.fire_idle (due := fun t => (t.positioner b).state.underLoop &&
      decide (Config.recomputeInterval ≤ (t.positioner b).velTimer)) hrecompute,
    State.fire_idle (due := fun t => windowClosed (t.spindle b)) hclosed,
    State.fire_idle (due := fun t => (t.spindle b).phase.runsLaw &&
      (t.spindle b).markTimer.any fun n => decide (Config.markSilence ≤ n)) hmarks]
  refine if_neg ?_
  rw [hp]
  simp [positionerMicro, hsampling]

/-! ### The samples of every cycle -/

theorem sampleSupply_calm (hq : s.quiet) : Calm fineSpindle finePositioner s (sampleSupply s { s with cycle := s.cycle + 1 }) := by
  obtain ⟨ha, hp, -⟩ := hq.supply
  have h : sampleSupply s { s with cycle := s.cycle + 1 } =
      { s with cycle := s.cycle + 1, supply := { s.supply with lowRun := 0 } } := by
    simp [sampleSupply, ha, hp]
  rw [h]
  exact ⟨rfl, fun _ => rfl, fun _ => rfl, fun _ => rfl⟩

/-- The levels last sampled of Tach and Index show no leading edge. -/
def State.noEdge (u : State) (b : Bay) : Prop :=
  ((u.pinsOf b).tach = true → (u.spindle b).tachLast = true) ∧
    ((u.pinsOf b).index = true → (u.spindle b).indexLast = true)

theorem sampleSpindle_calm (h : Calm fineSpindle finePositioner s u ∧ ∀ c, u.noEdge c) :
    Calm fineSpindle finePositioner s (sampleSpindle start b u) ∧ ∀ c, (sampleSpindle start b u).noEdge c := by
  obtain ⟨hcalm, hedge⟩ := h
  rw [sampleSpindle_quiet (hedge b).1 (hedge b).2]
  refine ⟨hcalm.modSpindle rfl, fun c => ?_⟩
  have hpins : (u.modSpindle b (edgesKept (u.pinsOf b))).pinsOf c = u.pinsOf c := by simp [State.pinsOf]
  unfold State.noEdge
  rw [hpins, State.spindle_modSpindle]
  split
  next hc => subst hc; exact ⟨fun h => h, fun h => h⟩
  · exact hedge c

theorem Calm.pinsOf {fq : Spindle → Spindle} {fp : Positioner → Positioner} (h : Calm fq fp s u) (b : Bay) :
    u.pinsOf b = s.pinsOf b :=
  congrArg (fun x : Still => x.pins.bays.get b) h.still

theorem sampleCrossing_calm (hq : s.quiet) (h : Calm fineSpindle finePositioner s u) :
    Calm fineSpindle finePositioner s (sampleCrossing start b u) := by
  obtain ⟨-, -, ha, hb, -⟩ := hq.edges b
  have hp := h.positioner b
  rw [sampleCrossing_quiet ((h.pinsOf b).symm ▸ ha.trans (congrArg Positioner.crossA hp).symm)
    ((h.pinsOf b).symm ▸ hb.trans (congrArg Positioner.crossB hp).symm)]
  exact h

theorem sampleGuard_calm (hq : s.quiet) (h : Calm fineSpindle finePositioner s u) :
    Calm fineSpindle finePositioner s (sampleGuard start b u) := by
  obtain ⟨-, -, -, -, hg⟩ := hq.edges b
  have hp : (u.positioner b).outerGuard.accepted = (s.positioner b).outerGuard.accepted :=
    (congrArg (fun p : Positioner => p.outerGuard.accepted) (h.positioner b) :)
  rw [sampleGuard_quiet ((h.pinsOf b).symm ▸ hg.trans hp.symm)]
  exact h.modPositioner rfl

theorem pwmStep_calm {n : Nat} (hn : n ≠ 0) (h : Calm fineSpindle finePositioner s u) :
    Calm fineSpindle finePositioner s (pwmStep start n b u) := by
  unfold pwmStep
  rw [if_neg hn]
  exact h.modSpindle rfl

theorem cycleSampled_calm (hq : s.quiet) (hpwm : (s.cycle + 1) % 1024 ≠ 0) :
    Calm fineSpindle finePositioner s s.cycleSampled := by
  have hsupply := sampleSupply_calm hq
  have hedges (c : Bay) : (sampleSupply s { s with cycle := s.cycle + 1 }).noEdge c := by
    obtain ⟨ha, hp, -⟩ := hq.supply
    obtain ⟨htach, hindex, -⟩ := hq.edges c
    simp only [sampleSupply, ha, hp]
    exact ⟨htach, hindex⟩
  obtain ⟨hspindles, -⟩ := forBays_keeps
    (P := fun u => Calm fineSpindle finePositioner s u ∧ ∀ c, u.noEdge c)
    (fun h => sampleSpindle_calm (start := s) h) ⟨hsupply, hedges⟩
  exact forBays_keeps (pwmStep_calm hpwm) (forBays_keeps (sampleGuard_calm hq)
    (forBays_keeps (sampleCrossing_calm hq) hspindles))

/-! ### The 1 µs tick -/

theorem Calm.coarse (h : Calm fineSpindle finePositioner s u) : Calm coarseSpindle coarsePositioner s u where
  still := h.still
  spindle b := (congrArg coarseSpindle (h.spindle b) :)
  positioner b := (congrArg coarsePositioner (h.positioner b) :)
  bay := h.bay

theorem Calm.microQuiet (hq : s.quiet) (h : Calm fineSpindle finePositioner s u) (b : Bay) :
    MicroQuiet (u.spindle b) (u.positioner b) := by
  obtain ⟨hcross, hsampling, hvel, hmark, hwindow⟩ := hq.micro b
  have hs : MicroQuiet (fineSpindle (s.spindle b)) (finePositioner (s.positioner b)) :=
    ⟨hcross, hsampling, hvel, hmark, hwindow⟩
  rw [← h.spindle b, ← h.positioner b] at hs
  exact ⟨hs.cross, hs.sampling, hs.vel, hs.mark, hs.window⟩

theorem microTicks_calm (hq : s.quiet) (h : Calm fineSpindle finePositioner s u) :
    Calm coarseSpindle coarsePositioner s (u.forBays (microTick start)) := by
  have h0 := microTick_quiet (start := start) (h.microQuiet hq .bay0)
  have h1 : microTick start .bay1 (microTick start .bay0 u) = _ := microTick_quiet (by
    rw [h0]
    simpa using h.microQuiet hq .bay1)
  have hforBays : u.forBays (microTick start) = microTick start .bay1 (microTick start .bay0 u) := rfl
  rw [hforBays, h1, h0]
  exact (((h.coarse.modSpindle rfl).modPositioner rfl).modSpindle rfl).modPositioner rfl

theorem cycleMicro_calm (hq : s.quiet) (hpwm : (s.cycle + 1) % 1024 ≠ 0) :
    Calm coarseSpindle coarsePositioner s s.cycleMicro := by
  have h := cycleSampled_calm hq hpwm
  by_cases tick : (s.cycle + 1) % 8 = 0
  · rw [State.cycleMicro_tick tick]
    exact microTicks_calm hq h
  · rw [State.cycleMicro_off tick]
    exact h.coarse

end

end Sys2Proof.Machine

/-!
PROOFS. The 1 ms tick of a quiet cycle, and O6.
-/

namespace Sys2Proof.Machine

/-! ### The counting of a 1 ms tick -/

section

variable {s u w start : State} {b : Bay}

theorem millisCounted_spindle (s : State) (b : Bay) : (millisCounted s).spindle b = spindleMilli (s.spindle b) := by
  cases b <;> rfl

theorem millisCounted_positioner (s : State) (b : Bay) :
    (millisCounted s).positioner b = positionerMilli (s.positioner b) := by
  cases b <;> rfl

theorem millisCounted_bay (s : State) (b : Bay) : (millisCounted s).bay b = bayMilli (s.bay b) := by
  cases b <;> rfl

theorem millisCounted_still (s : State) : (millisCounted s).still = { s.still with
    refresh := ⟨tickUp s.still.refresh.bay0, tickUp s.still.refresh.bay1⟩, poll := tickUp s.still.poll } := rfl

theorem millisCounted_calm (h : Calm coarseSpindle coarsePositioner s u) :
    Calm coarseSpindle coarsePositioner (millisCounted s) (millisCounted u) where
  still := by rw [millisCounted_still, millisCounted_still, h.still]
  spindle b := by
    rw [millisCounted_spindle, millisCounted_spindle]
    exact (congrArg spindleMilli (h.spindle b) :)
  positioner b := by
    rw [millisCounted_positioner, millisCounted_positioner]
    exact (congrArg positionerMilli (h.positioner b) :)
  bay b := by
    rw [millisCounted_bay, millisCounted_bay]
    exact (congrArg bayMilli (h.bay b) :)

/-! ### The samples of a 1 ms tick -/

/-- The bay inputs are as they were accepted. -/
structure BayQuiet (x : BayPins) (c : BayControl) : Prop where
  sensing : c.sensing = true
  decided : c.presentUndecided = false
  present : x.present = c.present.accepted
  writeProtect : x.writeProtect = c.writeProtect.accepted
  button : x.ejectButton = c.button.accepted
  parkDetect : x.parkDetect = c.parkDetect.accepted

theorem Calm.bayQuiet (hq : s.quiet) (h : Calm coarseSpindle coarsePositioner (millisCounted s) u) (b : Bay) :
    BayQuiet (u.pinsOf b) (u.bay b) := by
  obtain ⟨hsensing, hdecided, hpresent, hprotect, hbutton, hpark⟩ := hq.inputs b
  have hs : BayQuiet ((millisCounted s).pinsOf b) (coarseBay ((millisCounted s).bay b)) := by
    rw [millisCounted_bay]
    exact ⟨hsensing, hdecided, hpresent, hprotect, hbutton, hpark⟩
  rw [← h.pinsOf b, ← h.bay b] at hs
  exact ⟨hs.sensing, hs.decided, hs.present, hs.writeProtect, hs.button, hs.parkDetect⟩

theorem sampled_same {n : Nat} {v : Bool} {d : Debounced} (h : v = d.accepted) :
    sampled n v d = (⟨d.accepted, 0⟩, none) := if_pos h

theorem sampleBay_calm (hq : s.quiet) (h : Calm coarseSpindle coarsePositioner (millisCounted s) u) :
    Calm coarseSpindle coarsePositioner (millisCounted s) (sampleBay start b u) := by
  have park {u : State} (h : Calm coarseSpindle coarsePositioner (millisCounted s) u) :
      Calm coarseSpindle coarsePositioner (millisCounted s) (sampleParkDetect start b u) := by
    have c := h.bayQuiet hq b
    unfold sampleParkDetect
    rw [if_neg (by simp [State.rampWatched, c.sensing]), if_pos c.sensing, sampled_same c.parkDetect]
    exact h.modBay rfl
  have protect {u : State} (h : Calm coarseSpindle coarsePositioner (millisCounted s) u) :
      Calm coarseSpindle coarsePositioner (millisCounted s) (sampleWriteProtect start b u) := by
    have c := h.bayQuiet hq b
    unfold sampleWriteProtect
    rw [if_pos c.sensing, sampled_same c.writeProtect]
    exact h.modBay rfl
  have present {u : State} (h : Calm coarseSpindle coarsePositioner (millisCounted s) u) :
      Calm coarseSpindle coarsePositioner (millisCounted s) (samplePresent start b u) := by
    have c := h.bayQuiet hq b
    unfold samplePresent
    rw [if_neg (by simp [c.sensing]), if_neg (by simp [c.decided]), sampled_same c.present]
    exact h.modBay rfl
  have button {u : State} (h : Calm coarseSpindle coarsePositioner (millisCounted s) u) :
      Calm coarseSpindle coarsePositioner (millisCounted s) (sampleButton start b u) := by
    have c := h.bayQuiet hq b
    unfold sampleButton
    rw [if_pos c.sensing]
    dsimp only
    rw [sampled_same c.button]
    exact h.modBay rfl
  exact button (present (protect (park h)))

/-! ### Limits that are not reached -/

theorem State.fire_eq {due : State → Bool} {f : State → State} (hs : u = w) (h : due w = false) :
    u.fire start due f = w := by
  rw [hs, State.fire_idle h]

theorem reached_tickUp {n : Nat} {y : Option Nat} (h : below (n - 1) y) : reached n (tickUp y) = false := by
  cases y with
  | none => rfl
  | some m =>
    have := h m rfl
    exact decide_eq_false (show ¬n ≤ m + 1 by omega)

theorem spindleLimits_calm (hq : s.quiet) (h : Calm coarseSpindle coarsePositioner (millisCounted s) w) :
    spindleLimits start b w = w := by
  obtain ⟨hstart, hspinUp, hdrift, hstop⟩ := hq.spindles b
  have hset : w.settings = s.settings := congrArg Still.settings h.still
  have hs := h.spindle b
  rw [millisCounted_spindle] at hs
  have h1 : (w.spindle b).startTimer = tickUp (s.spindle b).startTimer := (congrArg Spindle.startTimer hs :)
  have h2 : (w.spindle b).spinUpTimer = tickUp (s.spindle b).spinUpTimer := (congrArg Spindle.spinUpTimer hs :)
  have h3 : (w.spindle b).driftTimer = tickUp (s.spindle b).driftTimer := (congrArg Spindle.driftTimer hs :)
  have h4 : (w.spindle b).stopTimer = tickUp (s.spindle b).stopTimer := (congrArg Spindle.stopTimer hs :)
  exact State.fire_eq (State.fire_eq (State.fire_eq (State.fire_eq rfl
    (h1 ▸ reached_tickUp hstart)) (hset.symm ▸ h2 ▸ reached_tickUp hspinUp))
    (hset.symm ▸ h3 ▸ reached_tickUp hdrift)) (h4 ▸ reached_tickUp hstop)

theorem positionerLimits_calm (hq : s.quiet) (h : Calm coarseSpindle coarsePositioner (millisCounted s) w) :
    positionerLimits start b w = w := by
  obtain ⟨hhold, hretract, hheld, hload, hrecal, hseek, hsettling, hstop, hzero, hone⟩ := hq.heads b
  have hp := h.positioner b
  rw [millisCounted_positioner] at hp
  have h1 : (w.positioner b).parkHold = tickUp (s.positioner b).parkHold := (congrArg Positioner.parkHold hp :)
  have h2 : (w.positioner b).retractTimer = if (s.positioner b).parkHold.isSome then (s.positioner b).retractTimer
      else tickUp (s.positioner b).retractTimer := (congrArg Positioner.retractTimer hp :)
  have h3 : (w.positioner b).loadTimer = tickUp (s.positioner b).loadTimer := (congrArg Positioner.loadTimer hp :)
  have h4 : (w.positioner b).recalTimer = tickUp (s.positioner b).recalTimer := (congrArg Positioner.recalTimer hp :)
  have h5 : (w.positioner b).seekTimer = tickUp (s.positioner b).seekTimer := (congrArg Positioner.seekTimer hp :)
  have h6 : (w.positioner b).settleLimit = tickUp (s.positioner b).settleLimit :=
    (congrArg Positioner.settleLimit hp :)
  have h7 : (w.positioner b).stopTimer = tickUp (s.positioner b).stopTimer := (congrArg Positioner.stopTimer hp :)
  have h8 : (w.positioner b).settleWait = (s.positioner b).settleWait.map fun n => n - 1 :=
    (congrArg Positioner.settleWait hp :)
  have hretracting : reached Config.retractLimit (w.positioner b).retractTimer = false := by
    rw [h2]
    split
    next hs =>
      have hbelow := hheld (Option.isSome_iff_ne_none.mp hs)
      cases hr : (s.positioner b).retractTimer with
      | none => rfl
      | some n => exact decide_eq_false (not_le.mpr (hbelow n hr))
    next hs => exact reached_tickUp (hretract (by simpa using hs))
  have hwait : ((w.positioner b).settleWait == some 0) = false := by
    rw [h8]
    cases hw : (s.positioner b).settleWait with
    | none => rfl
    | some n =>
      have h0 : n ≠ 0 := fun e => hzero (e ▸ hw)
      have h1 : n ≠ 1 := fun e => hone (e ▸ hw)
      simp only [Option.map_some, beq_eq_false_iff_ne, ne_eq, Option.some.injEq]
      omega
  exact State.fire_eq (State.fire_eq (State.fire_eq (State.fire_eq (State.fire_eq (State.fire_eq (State.fire_eq
    (State.fire_eq rfl (h1 ▸ reached_tickUp hhold)) hretracting) (h3 ▸ reached_tickUp hload))
    (h4 ▸ reached_tickUp hrecal)) (h5 ▸ reached_tickUp hseek)) (h6 ▸ reached_tickUp hsettling))
    (h7 ▸ reached_tickUp hstop)) hwait

theorem bayLimits_calm (hq : s.quiet) (h : Calm coarseSpindle coarsePositioner (millisCounted s) w) :
    bayLimits start b w = w := by
  obtain ⟨hpulse, hleave, hbound, hretry, hidle⟩ := hq.bays b
  obtain ⟨hrefresh, -⟩ := hq.link
  have hset : w.settings = s.settings := congrArg Still.settings h.still
  have hc := h.bay b
  rw [millisCounted_bay] at hc
  have h1 : (w.bay b).pulse = tickUp (s.bay b).pulse := (congrArg BayControl.pulse hc :)
  have h2 : (w.bay b).leave = tickUp (s.bay b).leave := (congrArg BayControl.leave hc :)
  have h3 : (w.bay b).startBound = tickUp (s.bay b).startBound := (congrArg BayControl.startBound hc :)
  have h4 : (w.bay b).retry = tickUp (s.bay b).retry := (congrArg BayControl.retry hc :)
  have h5 : (w.bay b).idle = tickUp (s.bay b).idle := (congrArg BayControl.idle hc :)
  have h6 : w.link.refreshTimer.get b = tickUp (s.link.refreshTimer.get b) := by
    have hr : w.link.refreshTimer = (millisCounted s).link.refreshTimer := congrArg Still.refresh h.still
    rw [hr]
    cases b <;> rfl
  have hidling : (w.settings.idleLimit != 0 && reached (10000 * w.settings.idleLimit) (w.bay b).idle) = false := by
    rw [hset, h5, Bool.and_eq_false_imp]
    exact fun hne => reached_tickUp (hidle (by simpa using hne))
  exact State.fire_eq (State.fire_eq (State.fire_eq (State.fire_eq (State.fire_eq (State.fire_eq rfl
    (h1 ▸ reached_tickUp hpulse)) (h2 ▸ reached_tickUp hleave)) (h3 ▸ reached_tickUp hbound))
    (h4 ▸ reached_tickUp hretry)) hidling) (h6 ▸ reached_tickUp (hrefresh b))

/-- The 1 ms tick of a quiet cycle only counts. -/
theorem milliTick_calm (hq : s.quiet) (h : Calm coarseSpindle coarsePositioner s u) :
    Calm coarseSpindle coarsePositioner (millisCounted s) (milliTick start u) := by
  have hsampled : Calm coarseSpindle coarsePositioner (millisCounted s) ((millisCounted u).forBays (sampleBay start)) :=
    forBays_keeps (sampleBay_calm hq) (millisCounted_calm h)
  unfold milliTick
  extract_lets recovered
  have hrecovered : recovered = (millisCounted u).forBays (sampleBay start) := by
    have hlow : ((millisCounted u).forBays (sampleBay start)).supply.accepted = false :=
      (congrArg Still.low hsampled.still :).trans hq.supply.1
    exact State.fire_idle (by simp [hlow])
  have hcalm : Calm coarseSpindle coarsePositioner (millisCounted s) recovered := hrecovered ▸ hsampled
  have hspindles : recovered.forBays (spindleLimits start) = recovered := by
    simp only [State.forBays, spindleLimits_calm hq hcalm]
  have hheads : recovered.forBays (positionerLimits start) = recovered := by
    simp only [State.forBays, positionerLimits_calm hq hcalm]
  have hbays : recovered.forBays (bayLimits start) = recovered := by
    simp only [State.forBays, bayLimits_calm hq hcalm]
  rw [hspindles, hheads, hbays]
  have hfields : recovered.hostFields = s.hostFields := (congrArg Still.hostFields hcalm.still :)
  have hpoll : recovered.link.pollTimer = tickUp s.link.pollTimer := (congrArg Still.poll hcalm.still :)
  have hdue : reached recovered.hostFields.pollInterval.toNat recovered.link.pollTimer = false := by
    rw [hfields, hpoll]
    exact reached_tickUp hq.link.2
  rw [State.fire_idle (due := fun t => reached t.hostFields.pollInterval.toNat t.link.pollTimer) hdue]
  exact hcalm

/-- What the end of an instant leaves of a part in which nothing has happened. -/
theorem quietCycle (hq : s.quiet) (hpwm : (s.cycle + 1) % 1024 ≠ 0) :
    ∃ u, clockCycle s = u.closed ∧ Calm coarseSpindle coarsePositioner
      (if (s.cycle + 1) % 8000 = 0 then millisCounted s else s) u := by
  have hmicro := cycleMicro_calm hq hpwm
  have hmilli : Calm coarseSpindle coarsePositioner (if (s.cycle + 1) % 8000 = 0 then millisCounted s else s)
      s.cycleMilli := by
    split
    next tick => rw [State.cycleMilli_tick tick]; exact milliTick_calm hq hmicro
    next tick => rw [State.cycleMilli_off tick]; exact hmicro
  have hreset : s.cycleMilli.resetInProgress = false := by
    have h : s.cycleMilli.resetInProgress = s.resetInProgress :=
      (congrArg Still.reset hmilli.still :).trans (by split <;> rfl)
    exact h.trans hq.supply.2.2
  refine ⟨s.cycleMilli, ?_, hmilli⟩
  rw [clockCycle_eq, State.fire_idle]
  simp [State.resetEnds, hreset]

/-! ### The end of the instant -/

theorem State.loseChannel_instant (u : State) (b : Bay) : (u.loseChannel b).instant = u.instant := by
  unfold State.loseChannel State.cutField
  repeat' split
  all_goals rfl

theorem gateInterlocked_frame (u : State) : u.gateInterlocked.instant = u.instant ∧
    u.gateInterlocked.entries = u.entries ∧ u.gateInterlocked.timed = u.timed := by
  unfold State.gateInterlocked
  repeat' split
  · exact ⟨rfl, rfl, rfl⟩
  · exact ⟨State.loseChannel_instant .., by simp, by simp⟩
  · exact ⟨rfl, rfl, rfl⟩
  · exact ⟨rfl, rfl, rfl⟩

/-- A solenoid that may be energized may be so with the gate interlocked too. -/
theorem gateInterlocked_ejectAllowed (h : u.ejectAllowed b = true) : u.gateInterlocked.ejectAllowed b = true := by
  have ht := (gateInterlocked_frame u).2.2
  have hbay : u.gateInterlocked.bay b = u.bay b := State.bay_congr (congrArg Timed.bays ht) b
  have hspindle : u.gateInterlocked.spindle b = u.spindle b := State.spindle_congr (congrArg Timed.spindles ht) b
  have hwriting : u.gateInterlocked.writingTo b = true → u.writingTo b = true := by
    unfold State.gateInterlocked
    repeat' split
    · exact fun h => h
    next c hg _ => simp [State.writingTo, State.loseChannel, hg, State.releaseChannel, releasedChannel]
    next hg => simp [State.writingTo, hg]
    · exact fun h => h
  simp only [State.ejectAllowed, hbay, hspindle, Bool.and_eq_true, Bool.not_eq_true'] at h ⊢
  exact ⟨h.1, by
    cases hw : u.gateInterlocked.writingTo b
    · rfl
    · rw [hwriting hw] at h; exact absurd h.2 (by simp)⟩

theorem ejectInterlocked_instant (u : State) (b : Bay) : (u.ejectInterlocked b).instant = u.instant := by
  unfold State.ejectInterlocked
  split
  · simp
  · rfl

theorem ejectInterlocked_link (u : State) (b : Bay) :
    (u.ejectInterlocked b).timed.refresh = u.timed.refresh ∧ (u.ejectInterlocked b).timed.poll = u.timed.poll := by
  unfold State.ejectInterlocked
  split
  · simp
  · exact ⟨rfl, rfl⟩

theorem closed_frame (u : State) : u.closed.instant = u.instant ∧ u.closed.entries = u.entries ∧
    u.closed.spindles = u.spindles ∧ u.closed.positioners = u.positioners := by
  obtain ⟨hinstant, hentries, ht⟩ := gateInterlocked_frame u
  have hspindles : u.gateInterlocked.spindles = u.spindles := congrArg Timed.spindles ht
  have hheads : u.gateInterlocked.positioners = u.positioners := congrArg Timed.positioners ht
  have h : u.interlocked.instant = u.instant ∧ u.interlocked.entries = u.entries ∧
      u.interlocked.spindles = u.spindles ∧ u.interlocked.positioners = u.positioners := by
    simp [State.interlocked, ejectInterlocked_instant, hinstant, hentries, hspindles, hheads]
  exact h

/-- What the end of an instant makes of a bay: its solenoid may fall, and its idle timer runs by its conditions. -/
theorem closed_bay (u : State) (b : Bay) : ∃ c holds, u.closed.bay b = idleUpdated holds c ∧
    (c = u.bay b ∨ (c = solenoidOff (u.bay b) ∧ (u.bay b).eject = true ∧ u.ejectAllowed b = false)) := by
  have hgate : u.gateInterlocked.bay b = u.bay b :=
    State.bay_congr (congrArg Timed.bays (gateInterlocked_frame u).2.2) b
  have hstep (v : State) (c : Bay) (hc : c ≠ b) : (v.ejectInterlocked c).bay b = v.bay b := by
    unfold State.ejectInterlocked
    split
    · rw [State.bay_modBay, if_neg hc.symm]
    · rfl
  have hown (v : State) (hv : v.bay b = u.bay b) (ha : v.ejectAllowed b = u.gateInterlocked.ejectAllowed b) :
      (v.ejectInterlocked b).bay b = u.bay b ∨ ((v.ejectInterlocked b).bay b = solenoidOff (u.bay b) ∧
        (u.bay b).eject = true ∧ u.ejectAllowed b = false) := by
    unfold State.ejectInterlocked
    split
    next h =>
      refine .inr ⟨by rw [State.bay_modBay, if_pos rfl, hv], hv ▸ h.1, ?_⟩
      cases hu : u.ejectAllowed b
      · rfl
      · simp [ha, gateInterlocked_ejectAllowed hu] at h
    · exact .inl hv
  have hclosed : ∃ holds, u.closed.bay b = idleUpdated holds (u.interlocked.bay b) := by
    cases b <;> exact ⟨_, rfl⟩
  obtain ⟨holds, hclosed⟩ := hclosed
  refine ⟨u.interlocked.bay b, holds, hclosed, ?_⟩
  unfold State.interlocked
  cases b with
  | bay0 =>
    rw [hstep _ .bay1 (by decide)]
    exact hown _ hgate rfl
  | bay1 => exact hown _ ((hstep _ .bay0 (by decide)).trans hgate) (State.ejectInterlocked_ejectAllowed ..)

theorem timerWhile_runsOn {runs : Bool} {x : Option Nat} (hx : x.isSome = true)
    (hy : (timerWhile runs x).isSome = true) : timerWhile runs x = x := by
  obtain ⟨n, rfl⟩ := Option.isSome_iff_exists.mp hx
  cases runs
  · cases hy
  · rfl

theorem closed_link (u : State) (b : Bay) :
    (∃ runs, u.closed.link.refreshTimer.get b = timerWhile runs (u.link.refreshTimer.get b)) ∧
      ∃ runs, u.closed.link.pollTimer = timerWhile runs u.link.pollTimer := by
  have hgate := (gateInterlocked_frame u).2.2
  have hrefresh : u.interlocked.timed.refresh = u.timed.refresh :=
    ((ejectInterlocked_link ..).1.trans (ejectInterlocked_link ..).1).trans (congrArg Timed.refresh hgate)
  have hpoll : u.interlocked.timed.poll = u.timed.poll :=
    ((ejectInterlocked_link ..).2.trans (ejectInterlocked_link ..).2).trans (congrArg Timed.poll hgate)
  refine ⟨⟨u.interlocked.refreshRuns b, ?_⟩, ⟨u.interlocked.pollRuns, (congrArg (timerWhile u.interlocked.pollRuns) hpoll :)⟩⟩
  rw [show u.link.refreshTimer = u.interlocked.link.refreshTimer from hrefresh.symm]
  cases b <;> rfl

end
end Sys2Proof.Machine

/-!
PROOFS. O6: the timers of the part expire at their limits and not before.
-/

namespace Sys2Proof.Machine

section

variable {s u : State} {b : Bay}

/-- A cycle from `s` either counts the 1 ms timers or leaves them. -/
def State.ticked (s : State) : State := if (s.cycle + 1) % 8000 = 0 then millisCounted s else s

/-- A 1 ms timer after the cycle. -/
def State.raised (s : State) (x : Option Nat) : Option Nat :=
  if (s.cycle + 1) % 8000 = 0 then x.map fun n => n + 1 else x

theorem ticked_spindle (s : State) (b : Bay) : (s.ticked.spindle b).phase = (s.spindle b).phase ∧
    (s.ticked.spindle b).startTimer = s.raised (s.spindle b).startTimer ∧
    (s.ticked.spindle b).spinUpTimer = s.raised (s.spindle b).spinUpTimer ∧
    (s.ticked.spindle b).driftTimer = s.raised (s.spindle b).driftTimer ∧
    (s.ticked.spindle b).stopTimer = s.raised (s.spindle b).stopTimer := by
  unfold State.ticked State.raised
  split
  · rw [millisCounted_spindle]; exact ⟨rfl, rfl, rfl, rfl, rfl⟩
  · exact ⟨rfl, rfl, rfl, rfl, rfl⟩

theorem ticked_positioner (s : State) (b : Bay) : (s.ticked.positioner b).state = (s.positioner b).state ∧
    (s.ticked.positioner b).loadTimer = s.raised (s.positioner b).loadTimer ∧
    (s.ticked.positioner b).recalTimer = s.raised (s.positioner b).recalTimer ∧
    (s.ticked.positioner b).seekTimer = s.raised (s.positioner b).seekTimer ∧
    (s.ticked.positioner b).settleLimit = s.raised (s.positioner b).settleLimit ∧
    (s.ticked.positioner b).settleWait = (if (s.cycle + 1) % 8000 = 0 then
      (s.positioner b).settleWait.map fun n => n - 1 else (s.positioner b).settleWait) ∧
    (s.ticked.positioner b).stopTimer = s.raised (s.positioner b).stopTimer ∧
    (s.ticked.positioner b).parkHold = s.raised (s.positioner b).parkHold ∧
    (s.ticked.positioner b).retractTimer = if (s.positioner b).parkHold.isSome then (s.positioner b).retractTimer
      else s.raised (s.positioner b).retractTimer := by
  unfold State.ticked State.raised
  split
  · rw [millisCounted_positioner]; exact ⟨rfl, rfl, rfl, rfl, rfl, rfl, rfl, rfl, rfl⟩
  · exact ⟨rfl, rfl, rfl, rfl, rfl, rfl, rfl, rfl, (ite_self _).symm⟩

theorem ticked_bay (s : State) (b : Bay) : (s.ticked.bay b).state = (s.bay b).state ∧
    (s.ticked.bay b).startBound = s.raised (s.bay b).startBound ∧ (s.ticked.bay b).leave = s.raised (s.bay b).leave ∧
    (s.ticked.bay b).retry = s.raised (s.bay b).retry ∧ (s.ticked.bay b).pulse = s.raised (s.bay b).pulse ∧
    (s.ticked.bay b).idle = s.raised (s.bay b).idle ∧ (s.ticked.bay b).eject = (s.bay b).eject ∧
    s.ticked.ejectAllowed b = s.ejectAllowed b := by
  have hallowed : (millisCounted s).ejectAllowed b = s.ejectAllowed b := by cases b <;> rfl
  unfold State.ticked State.raised
  split
  · rw [millisCounted_bay]; exact ⟨rfl, rfl, rfl, rfl, rfl, rfl, rfl, hallowed⟩
  · exact ⟨rfl, rfl, rfl, rfl, rfl, rfl, rfl, rfl⟩

theorem ticked_rest (s : State) (b : Bay) : s.ticked.instant = s.instant ∧ s.ticked.entries = s.entries ∧
    s.ticked.link.refreshTimer.get b = s.raised (s.link.refreshTimer.get b) ∧
    s.ticked.link.pollTimer = s.raised s.link.pollTimer := by
  unfold State.ticked State.raised
  split
  · cases b <;> exact ⟨rfl, rfl, rfl, rfl⟩
  · exact ⟨rfl, rfl, rfl, rfl⟩

theorem raised_isSome {x : Option Nat} (h : x.isSome = true) : (s.raised x).isSome = true := by
  unfold State.raised
  split
  · simpa using h
  · exact h

theorem Calm.ejectAllowed (h : Calm coarseSpindle coarsePositioner s u) (b : Bay) :
    u.ejectAllowed b = s.ejectAllowed b := by
  have hpark : (u.bay b).parkDetect.accepted = (s.bay b).parkDetect.accepted :=
    (congrArg (fun c : BayControl => c.parkDetect.accepted) (h.bay b) :)
  have hlock : (u.bay b).lock = (s.bay b).lock := (congrArg BayControl.lock (h.bay b) :)
  have hphase : (u.spindle b).phase = (s.spindle b).phase := (congrArg Spindle.phase (h.spindle b) :)
  have hchannel : u.channel = s.channel := (congrArg Still.channel h.still :)
  simp only [State.ejectAllowed, State.writingTo, hpark, hlock, hphase, hchannel]

/-- The phases, the states and the timers after a quiet cycle. -/
theorem quiet_counts (hq : s.quiet) (hpwm : (s.cycle + 1) % 1024 ≠ 0) :
    (clockCycle s).instant = s.instant ∧ (clockCycle s).entries = s.entries ∧ ∀ b,
      (let q := s.spindle b
       let r := (clockCycle s).spindle b
       r.phase = q.phase ∧ r.startTimer = s.raised q.startTimer ∧ r.spinUpTimer = s.raised q.spinUpTimer ∧
         r.driftTimer = s.raised q.driftTimer ∧ r.stopTimer = s.raised q.stopTimer) ∧
      (let p := s.positioner b
       let r := (clockCycle s).positioner b
       r.state = p.state ∧ r.loadTimer = s.raised p.loadTimer ∧ r.recalTimer = s.raised p.recalTimer ∧
         r.seekTimer = s.raised p.seekTimer ∧ r.settleLimit = s.raised p.settleLimit ∧
         r.settleWait = (if (s.cycle + 1) % 8000 = 0 then p.settleWait.map fun n => n - 1 else p.settleWait) ∧
         r.stopTimer = s.raised p.stopTimer ∧ r.parkHold = s.raised p.parkHold ∧
         r.retractTimer = if p.parkHold.isSome then p.retractTimer else s.raised p.retractTimer) := by
  obtain ⟨u, hu, hcalm⟩ := quietCycle hq hpwm
  have hcalm : Calm coarseSpindle coarsePositioner s.ticked u := hcalm
  obtain ⟨hinstant, hentries, hspindles, hheads⟩ := closed_frame u
  obtain ⟨htinstant, htentries, -⟩ := ticked_rest s .bay0
  rw [hu]
  refine ⟨hinstant.trans ((congrArg Still.instant hcalm.still :).trans htinstant),
    hentries.trans ((congrArg Still.entries hcalm.still :).trans htentries), fun b => ⟨?_, ?_⟩⟩
  · have h := hcalm.spindle b
    rw [State.spindle_congr hspindles]
    obtain ⟨h1, h2, h3, h4, h5⟩ := ticked_spindle s b
    exact ⟨(congrArg Spindle.phase h :).trans h1, (congrArg Spindle.startTimer h :).trans h2,
      (congrArg Spindle.spinUpTimer h :).trans h3, (congrArg Spindle.driftTimer h :).trans h4,
      (congrArg Spindle.stopTimer h :).trans h5⟩
  · have h := hcalm.positioner b
    rw [State.positioner_congr hheads]
    obtain ⟨h1, h2, h3, h4, h5, h6, h7, h8, h9⟩ := ticked_positioner s b
    exact ⟨(congrArg Positioner.state h :).trans h1, (congrArg Positioner.loadTimer h :).trans h2,
      (congrArg Positioner.recalTimer h :).trans h3, (congrArg Positioner.seekTimer h :).trans h4,
      (congrArg Positioner.settleLimit h :).trans h5, (congrArg Positioner.settleWait h :).trans h6,
      (congrArg Positioner.stopTimer h :).trans h7, (congrArg Positioner.parkHold h :).trans h8,
      (congrArg Positioner.retractTimer h :).trans h9⟩

/-- A timer that runs on has been counted. -/
def State.runsOn (s : State) (x y : Option Nat) : Prop := x.isSome = true → y.isSome = true → y = s.raised x

theorem State.runsOn_timerWhile {runs : Bool} {x y : Option Nat} (h : y = s.raised x) :
    s.runsOn x (timerWhile runs y) := fun hx hy => by
  subst h
  exact timerWhile_runsOn (raised_isSome hx) hy

/-- The bays and the timers of the Link Port after a quiet cycle. -/
theorem quiet_bays (hq : s.quiet) (hpwm : (s.cycle + 1) % 1024 ≠ 0) (b : Bay) :
    (let c := s.bay b
     let r := (clockCycle s).bay b
     r.state = c.state ∧ r.startBound = s.raised c.startBound ∧ r.leave = s.raised c.leave ∧
       r.retry = s.raised c.retry ∧ s.runsOn c.pulse r.pulse ∧ s.runsOn c.idle r.idle ∧
       (c.eject = false ∨ s.ejectAllowed b = true → r.pulse = s.raised c.pulse)) ∧
    s.runsOn (s.link.refreshTimer.get b) ((clockCycle s).link.refreshTimer.get b) ∧
    s.runsOn s.link.pollTimer (clockCycle s).link.pollTimer := by
  obtain ⟨u, hu, hcalm⟩ := quietCycle hq hpwm
  have hcalm : Calm coarseSpindle coarsePositioner s.ticked u := hcalm
  obtain ⟨-, -, htrefresh, htpoll⟩ := ticked_rest s b
  obtain ⟨hstate, hbound, hleave, hretry, hpulse, hidle, heject, hallowed⟩ := ticked_bay s b
  have h := hcalm.bay b
  rw [hu]
  refine ⟨?_, ?_, ?_⟩
  · have hstate := (congrArg BayControl.state h :).trans hstate
    have hbound := (congrArg BayControl.startBound h :).trans hbound
    have hleave := (congrArg BayControl.leave h :).trans hleave
    have hretry := (congrArg BayControl.retry h :).trans hretry
    have hpulse := (congrArg BayControl.pulse h :).trans hpulse
    have hidle := (congrArg BayControl.idle h :).trans hidle
    have heject := (congrArg BayControl.eject h :).trans heject
    have hallowed := (hcalm.ejectAllowed b).trans hallowed
    obtain ⟨c, holds, hclosed, hc⟩ := closed_bay u b
    rw [hclosed]
    rcases hc with rfl | ⟨rfl, hon, hoff⟩
    · exact ⟨hstate, hbound, hleave, hretry, fun _ _ => hpulse, State.runsOn_timerWhile hidle, fun _ => hpulse⟩
    · refine ⟨hstate, hbound, hleave, hretry, fun _ hy => (nomatch hy), State.runsOn_timerWhile hidle, fun hor => ?_⟩
      rcases hor with ho | ho
      · exact absurd (hon.symm.trans (heject.trans ho)) (by simp)
      · exact absurd (hoff.symm.trans (hallowed.trans ho)) (by simp)
  · obtain ⟨⟨runs, hr⟩, -⟩ := closed_link u b
    rw [hr]
    exact State.runsOn_timerWhile ((congrArg (fun x : Still => x.refresh.get b) hcalm.still :).trans htrefresh)
  · obtain ⟨-, ⟨runs, hr⟩⟩ := closed_link u b
    rw [hr]
    exact State.runsOn_timerWhile ((congrArg Still.poll hcalm.still :).trans htpoll)

end

/-- Settles O6: each timer's own expiry puts it below its limit and no other event brings it there; where nothing is
due the cycle only counts. -/
theorem timersExpireAtTheirLimits : Obligations.TimersExpireAtTheirLimits := by
  unfold Obligations.TimersExpireAtTheirLimits
  intro s t hpending ht tick up runsOn
  have ht : t = clockCycle s := by
    unfold step at ht
    rw [hpending] at ht
    exact (Host.Outcome.next.inj ht).symm
  subst ht
  refine ⟨clockCycle_limitsKept, fun hmicro b => ?_, fun hq hpwm => ?_⟩
  · exact ⟨(clockCycle_micro (x := .spindle b .mark) hmicro trivial).2,
      (clockCycle_micro (x := .heads b .recompute) hmicro trivial).2,
      (clockCycle_micro (x := .heads b .sample) hmicro trivial).2⟩
  · obtain ⟨hinstant, hentries, hcounts⟩ := quiet_counts hq hpwm
    refine ⟨hinstant, hentries, fun b => ?_⟩
    obtain ⟨hspindle, hheads⟩ := hcounts b
    exact ⟨hspindle, hheads, quiet_bays hq hpwm b⟩

end Sys2Proof.Machine

/-!
PROOFS. The sampled inputs of a bay through a clock cycle: what the events leave of them, and what the samples make of
them.
-/

namespace Sys2Proof.Machine

/-! ### The sampled inputs -/

/-- The inputs of a Bay Controller as accepted, with their runs. -/
structure BayInputs where
  present : Debounced
  writeProtect : Debounced
  button : Debounced
  parkDetect : Debounced
  undecided : Bool
  level : Bool
  sensing : Bool

def BayControl.inputs (c : BayControl) : BayInputs :=
  ⟨c.present, c.writeProtect, c.button, c.parkDetect, c.presentUndecided, c.undecidedLevel, c.sensing⟩

/-- R174: the inputs of a bay that restarts sensing. -/
def BayInputs.restarted (x : BayInputs) : BayInputs :=
  ⟨⟨x.present.accepted, 0⟩, ⟨false, 0⟩, ⟨false, 0⟩, ⟨false, 0⟩, true, false, true⟩

/-- What the samples of a bay read and write. -/
structure Sensed where
  inputs : BayInputs
  levels : BayLevels
  guard : Debounced
  settings : Settings
  supply : Supply

def Timed.sensed (F : Timed) (b : Bay) : Sensed :=
  ⟨(F.bays.get b).inputs, (F.pins.bays.get b).debounced, (F.positioners.get b).outerGuard, F.settings, F.supply⟩

def State.sensed (s : State) (b : Bay) : Sensed := s.timed.sensed b

/-- A property of these registers that a bay that restarts sensing keeps. -/
def Restarts (R : Sensed → Prop) : Prop :=
  ∀ x, R x → x.supply.accepted = false → x.inputs.sensing = false → R { x with inputs := x.inputs.restarted }

theorem BayStep.sensed {c d : BayControl} (step : BayStep c d) : d.inputs = c.inputs := by
  obtain ⟨hpresent, hprotect, hbutton, hpark, hundecided, hlevel, hsensing⟩ := step.inputs
  simp only [BayControl.inputs, hpresent, hprotect, hbutton, hpark, hundecided, hlevel, hsensing]

theorem Timed.sensed_bays {F : Timed} {b c : Bay} {f : BayControl → BayControl}
    (h : c = b → (f (F.bays.get c)).inputs = (F.bays.get c).inputs) :
    ({ F with bays := F.bays.update c f } : Timed).sensed b = F.sensed b := by
  unfold Timed.sensed
  rw [PerBay.get_update]
  split
  next hc => subst hc; rw [h rfl]
  · rfl

theorem Timed.sensed_positioners {F : Timed} {b c : Bay} {f : Positioner → Positioner}
    (h : (f (F.positioners.get c)).outerGuard = (F.positioners.get c).outerGuard) :
    ({ F with positioners := F.positioners.update c f } : Timed).sensed b = F.sensed b := by
  unfold Timed.sensed
  rw [PerBay.get_update]
  split
  next hc => subst hc; rw [h]
  · rfl

theorem Timed.sensed_pins {F : Timed} {b c : Bay} {f : BayPins → BayPins}
    (h : c = b → (f (F.pins.bays.get c)).debounced = (F.pins.bays.get c).debounced) :
    ({ F with pins := { F.pins with bays := F.pins.bays.update c f } } : Timed).sensed b = F.sensed b := by
  unfold Timed.sensed
  rw [PerBay.get_update]
  split
  next hc => subst hc; rw [h rfl]
  · rfl

section

variable {R : Sensed → Prop} {b c : Bay} {s start : State}

theorem sensed_timedLaw (hR : Restarts R) (b : Bay) : TimedLaw fun F => R (F.sensed b) where
  bay h step := by rwa [Timed.sensed_bays fun _ => step.sensed]
  restart {F c} h hlow hsensing := by
    by_cases hc : c = b
    · subst hc
      have hr := hR _ h hlow hsensing
      have he : ({ F with bays := F.bays.update c sensingRestarted } : Timed).sensed c =
          { F.sensed c with inputs := (F.sensed c).inputs.restarted } := by
        simp only [Timed.sensed, PerBay.get_update_same]
        rfl
      rwa [he]
    · rwa [Timed.sensed_bays fun he => absurd he hc]
  spindle h _ := h
  heads h step := by rwa [Timed.sensed_positioners step.guard]
  link h _ _ := h
  offline h := h

theorem sensed_cycle (hR : Restarts R) (b : Bay) (start : State) : KeptCycle (fun s => R (s.sensed b)) start :=
  { (sensed_timedLaw hR b).turns start with
    levels := fun {s c f} h hf => by
      have he : (s.modPins c f).sensed b = s.sensed b := Timed.sensed_pins (F := s.timed) fun _ => hf _
      rwa [he]
    move := fun {s c f} h step => by
      have he : ({ s with positioners := s.positioners.update c f } : State).sensed b = s.sensed b :=
        Timed.sensed_positioners (F := s.timed) step.guard
      rwa [he]
    spun := fun h _ _ => h
    mark := fun {s c n} h => by
      unfold State.sensed
      rw [State.timed_modSpindle]
      exact h
    lock := fun {s c} h _ => by
      refine (sensed_timedLaw hR b).releasePermit ?_
      rw [State.timed_modSpindle]
      exact h
    drift := fun {s c} h _ => by
      unfold State.sensed
      rw [State.timed_modSpindle]
      exact h }

theorem BayRaised.sensed {c d : BayControl} (h : BayRaised c d) : d.inputs = c.inputs := h.rest.sensed

theorem sensed_raises (b c : Bay) : Raises (fun s => R (s.sensed b)) c := fun {s f} h hr => by
  have he : ({ s with bays := s.bays.update c f } : State).sensed b = s.sensed b :=
    Timed.sensed_bays (F := s.timed) fun _ => hr.sensed
  exact (congrArg R he).mpr h

theorem sensed_abandon (h : R (s.sensed b)) : R ((s.modPositioner c holdAbandoned).sensed b) := by
  have he : (s.modPositioner c holdAbandoned).sensed b = s.sensed b := by
    unfold State.sensed
    rw [State.timed_modPositioner]
    exact Timed.sensed_positioners rfl
  rwa [he]

/-- The samples of a bay keep what is asked of another, and what does not ask for the bay inputs. -/
theorem sensed_samples (hR : Restarts R) (h : c ≠ b ∨ ∀ x i l, R x → R { x with inputs := i, levels := l })
    (start : State) : KeptSamples (fun s => R (s.sensed b)) start c where
  toKeptTurns := (sensed_cycle hR b start).toKeptTurns
  levels {s f} hs := by
    by_cases hc : c = b
    · subst hc
      have he : (s.modPins c f).sensed c = { s.sensed c with levels := ((s.modPins c f).sensed c).levels } := by
        simp [State.sensed, State.timed, Timed.sensed, State.modPins]
      rw [he]
      exact h.resolve_left (fun hn => hn rfl) (s.sensed c) (s.sensed c).inputs _ hs
    · have he : (s.modPins c f).sensed b = s.sensed b := Timed.sensed_pins (F := s.timed) fun e => absurd e hc
      rwa [he]
  inputs {s f} hs _ := by
    by_cases hc : c = b
    · subst hc
      exact h.resolve_left (fun hn => hn rfl) (s.sensed c) _ (s.sensed c).levels hs
    · have he : ({ s with bays := s.bays.update c f } : State).sensed b = s.sensed b :=
        Timed.sensed_bays (F := s.timed) fun e => absurd e hc
      rwa [he]
  raises := sensed_raises b c
  abandon h := sensed_abandon h

end
end Sys2Proof.Machine

/-!
PROOFS. The samples of one bay's inputs at the 1 ms tick, and the sample of Outer Guard (R1, R24, R57).
-/

namespace Sys2Proof.Machine

/-- R1: what one sample of a level makes of a debounced input. -/
def Debounced.taken (count : Nat) (v : Bool) (d : Debounced) : Debounced :=
  if v = d.accepted then ⟨d.accepted, 0⟩
  else if count ≤ d.run + 1 then ⟨v, 0⟩
  else ⟨d.accepted, d.run + 1⟩

theorem sampled_accepts {n : Nat} {v : Bool} {d : Debounced} (hv : v ≠ d.accepted) (hn : n ≤ d.run + 1) :
    sampled n v d = (d, some v) := by
  rw [sampled, if_neg hv, if_pos hn]

theorem sampled_counts {n : Nat} {v : Bool} {d : Debounced} (hv : v ≠ d.accepted) (hn : ¬n ≤ d.run + 1) :
    sampled n v d = (⟨d.accepted, d.run + 1⟩, none) := by
  rw [sampled, if_neg hv, if_neg hn]

theorem Debounced.taken_same {n : Nat} {v : Bool} {d : Debounced} (hv : v = d.accepted) :
    d.taken n v = ⟨d.accepted, 0⟩ := if_pos hv

theorem Debounced.taken_accepts {n : Nat} {v : Bool} {d : Debounced} (hv : v ≠ d.accepted) (hn : n ≤ d.run + 1) :
    d.taken n v = ⟨v, 0⟩ := by
  rw [Debounced.taken, if_neg hv, if_pos hn]

theorem Debounced.taken_counts {n : Nat} {v : Bool} {d : Debounced} (hv : v ≠ d.accepted) (hn : ¬n ≤ d.run + 1) :
    d.taken n v = ⟨d.accepted, d.run + 1⟩ := by
  rw [Debounced.taken, if_neg hv, if_neg hn]

section

variable {s u start : State} {b c : Bay} {X Y : Sensed}

/-- A bay that senses keeps what it senses through the waits. -/
theorem restarts_eq (h : Y.inputs.sensing = true) : Restarts (· = Y) := by
  rintro x rfl - hsensing
  simp [h] at hsensing

theorem sensed_turns (h : Y.inputs.sensing = true) (b : Bay) (start : State) :
    KeptTurns (fun s => s.sensed b = Y) start := (sensed_cycle (restarts_eq h) b start).toKeptTurns

theorem State.sensed_modBay (s : State) (b : Bay) (f : BayControl → BayControl) :
    (s.modBay b f).sensed b = { s.sensed b with inputs := (f (s.bay b)).inputs } := by
  unfold State.sensed
  rw [State.timed_modBay]
  simp only [Timed.sensed, PerBay.get_update_same]
  rfl

theorem State.sensed_modPins {f : BayPins → BayPins} (h : (f (s.pinsOf b)).debounced = (s.pinsOf b).debounced) :
    (s.modPins b f).sensed b = s.sensed b :=
  Timed.sensed_pins (F := s.timed) fun _ => h

theorem State.sensed_modPositioner {f : Positioner → Positioner} :
    (s.modPositioner b f).sensed b = { s.sensed b with guard := (f (s.positioner b)).outerGuard } := by
  unfold State.sensed
  rw [State.timed_modPositioner]
  simp only [Timed.sensed, PerBay.get_update_same]
  rfl

theorem samplePark_sensed (hs : (u.sensed b).inputs.sensing = true) :
    (sampleParkDetect start b u).sensed b = { u.sensed b with inputs := { (u.sensed b).inputs with
      parkDetect := (u.sensed b).inputs.parkDetect.taken 3 (u.sensed b).levels.parkDetect } } := by
  have hsensing : (u.bay b).sensing = true := hs
  have hramp : u.rampWatched b = false := by simp [State.rampWatched, hsensing]
  have hlevel : (u.sensed b).levels.parkDetect = (u.pinsOf b).parkDetect := rfl
  have hinput : (u.sensed b).inputs.parkDetect = (u.bay b).parkDetect := rfl
  unfold sampleParkDetect
  rw [if_neg (by simp [hramp]), if_pos hsensing, hlevel, hinput]
  by_cases hv : (u.pinsOf b).parkDetect = (u.bay b).parkDetect.accepted
  · rw [sampled_same hv, Debounced.taken_same hv]
    exact State.sensed_modBay ..
  by_cases hn : 3 ≤ (u.bay b).parkDetect.run + 1
  · rw [sampled_accepts hv hn, Debounced.taken_accepts hv hn]
    have set {v : Bool} (hp : (u.pinsOf b).parkDetect = v) : (u.nextInstant.setParkDetect b v).sensed b =
        { u.sensed b with inputs := { (u.sensed b).inputs with parkDetect := ⟨v, 0⟩ } } := by
      unfold State.setParkDetect
      rw [State.sensed_modBay, State.sensed_modPins]
      · rfl
      · simp [BayPins.debounced, ← hp, State.pinsOf]
    cases hp : (u.pinsOf b).parkDetect with
    | true =>
      have k := sensed_turns (Y := { u.sensed b with inputs := { (u.sensed b).inputs with parkDetect := ⟨true, 0⟩ } })
        hs b start
      have hnew : (!(u.bay b).parkDetect.accepted) = true := by simpa [hp] using hv
      exact k.occurs (k.takeParkTrue (fun h => absurd ⟨hsensing, hnew⟩ h)
        (fun h => absurd (hramp.symm.trans h) (by simp)) fun _ => set hp)
    | false =>
      have k := sensed_turns (Y := { u.sensed b with inputs := { (u.sensed b).inputs with parkDetect := ⟨false, 0⟩ } })
        hs b start
      have hnew : (u.bay b).parkDetect.accepted = true := by simpa [hp] using hv
      exact k.occurs (k.takeParkFalse (fun h => sensed_abandon (R := (· = _)) h) (fun h => absurd ⟨hsensing, hnew⟩ h)
        (fun h => absurd (hramp.symm.trans h) (by simp)) fun _ => set hp)
  · rw [sampled_counts hv hn, Debounced.taken_counts hv hn]
    exact State.sensed_modBay ..

theorem sampleWriteProtect_sensed (hs : (u.sensed b).inputs.sensing = true) :
    (sampleWriteProtect start b u).sensed b = { u.sensed b with inputs := { (u.sensed b).inputs with
      writeProtect := (u.sensed b).inputs.writeProtect.taken (u.sensed b).settings.presenceCount
        (u.sensed b).levels.writeProtect } } := by
  have hsensing : (u.bay b).sensing = true := hs
  have hlevel : (u.sensed b).levels.writeProtect = (u.pinsOf b).writeProtect := rfl
  have hinput : (u.sensed b).inputs.writeProtect = (u.bay b).writeProtect := rfl
  have hcount : (u.sensed b).settings.presenceCount = u.settings.presenceCount := rfl
  unfold sampleWriteProtect
  rw [if_pos hsensing, hlevel, hinput, hcount]
  by_cases hv : (u.pinsOf b).writeProtect = (u.bay b).writeProtect.accepted
  · rw [sampled_same hv, Debounced.taken_same hv]
    exact State.sensed_modBay ..
  by_cases hn : u.settings.presenceCount ≤ (u.bay b).writeProtect.run + 1
  · rw [sampled_accepts hv hn, Debounced.taken_accepts hv hn]
    have k := sensed_turns (Y := { u.sensed b with inputs := { (u.sensed b).inputs with
      writeProtect := ⟨(u.pinsOf b).writeProtect, 0⟩ } }) hs b start
    refine k.occurs (k.takeWriteProtect (fun h => absurd ⟨hsensing, Ne.symm hv⟩ h) ?_)
    rw [State.sensed_modBay, State.sensed_modPins]
    · rfl
    · rfl
  · rw [sampled_counts hv hn, Debounced.taken_counts hv hn]
    exact State.sensed_modBay ..

theorem sampleButton_sensed (hs : (u.sensed b).inputs.sensing = true) :
    (sampleButton start b u).sensed b = { u.sensed b with inputs := { (u.sensed b).inputs with
      button := (u.sensed b).inputs.button.taken (if (u.sensed b).inputs.button.accepted then
        (u.sensed b).settings.releaseCount else (u.sensed b).settings.pressCount) (u.sensed b).levels.ejectButton } } := by
  have hsensing : (u.bay b).sensing = true := hs
  have hlevel : (u.sensed b).levels.ejectButton = (u.pinsOf b).ejectButton := rfl
  have hinput : (u.sensed b).inputs.button = (u.bay b).button := rfl
  have hset : (u.sensed b).settings = u.settings := rfl
  unfold sampleButton
  rw [if_pos hsensing, hlevel, hinput, hset]
  extract_lets count
  have hcount : (if (u.bay b).button.accepted = true then u.settings.releaseCount else u.settings.pressCount) = count :=
    rfl
  rw [hcount]
  by_cases hv : (u.pinsOf b).ejectButton = (u.bay b).button.accepted
  · rw [sampled_same hv, Debounced.taken_same hv]
    exact State.sensed_modBay ..
  by_cases hn : count ≤ (u.bay b).button.run + 1
  · rw [sampled_accepts hv hn, Debounced.taken_accepts hv hn]
    have set {v : Bool} (hp : (u.pinsOf b).ejectButton = v) :
        ((u.nextInstant.modPins b fun x => { x with ejectButton := v }).modBay b fun c =>
          { c with button := ⟨v, 0⟩ }).sensed b =
        { u.sensed b with inputs := { (u.sensed b).inputs with button := ⟨v, 0⟩ } } := by
      rw [State.sensed_modBay, State.sensed_modPins]
      · rfl
      · simp [BayPins.debounced, ← hp, State.pinsOf]
    cases hp : (u.pinsOf b).ejectButton with
    | true =>
      have k := sensed_turns (Y := { u.sensed b with inputs := { (u.sensed b).inputs with button := ⟨true, 0⟩ } })
        hs b start
      have hnew : (!(u.bay b).button.accepted) = true := by simpa [hp] using hv
      exact k.occurs (k.takeButtonPress (fun h => absurd ⟨hsensing, hnew⟩ h) (set hp))
    | false =>
      have k := sensed_turns (Y := { u.sensed b with inputs := { (u.sensed b).inputs with button := ⟨false, 0⟩ } })
        hs b start
      have hnew : (u.bay b).button.accepted = true := by simpa [hp] using hv
      exact k.occurs (KeptLimits.takeButtonReleased (P := fun s => s.sensed b = _)
        (fun h => absurd ⟨hsensing, hnew⟩ h) (set hp))
  · rw [sampled_counts hv hn, Debounced.taken_counts hv hn]
    exact State.sensed_modBay ..

theorem State.sensed_setPresent {v : Bool} (hp : (s.pinsOf b).present = v) : (s.setPresent b v).sensed b =
    { s.sensed b with inputs := { (s.sensed b).inputs with present := ⟨v, 0⟩, undecided := false } } := by
  unfold State.setPresent
  rw [State.sensed_modBay, State.sensed_modPins]
  · rfl
  · simp [BayPins.debounced, ← hp, State.pinsOf]

/-- R1: a sample of a Present that is decided. -/
theorem samplePresent_sensed (hs : (u.sensed b).inputs.sensing = true) (hu : (u.sensed b).inputs.undecided = false) :
    (samplePresent start b u).sensed b = { u.sensed b with inputs := { (u.sensed b).inputs with
      undecided := false
      present := (u.sensed b).inputs.present.taken (u.sensed b).settings.presenceCount
        (u.sensed b).levels.present } } := by
  have hsensing : (u.bay b).sensing = true := hs
  have hdecided : (u.bay b).presentUndecided = false := hu
  have hlevel : (u.sensed b).levels.present = (u.pinsOf b).present := rfl
  have hinput : (u.sensed b).inputs.present = (u.bay b).present := rfl
  have hcount : (u.sensed b).settings.presenceCount = u.settings.presenceCount := rfl
  have hsame (d : Debounced) : (u.modBay b fun c => { c with present := d }).sensed b =
      { u.sensed b with inputs := { (u.sensed b).inputs with undecided := false, present := d } } := by
    rw [State.sensed_modBay, ← hu]
    rfl
  unfold samplePresent
  rw [if_neg (by simp [hsensing]), if_neg (by simp [hdecided]), hlevel, hinput, hcount]
  by_cases hv : (u.pinsOf b).present = (u.bay b).present.accepted
  · rw [sampled_same hv, Debounced.taken_same hv]
    exact hsame _
  by_cases hn : u.settings.presenceCount ≤ (u.bay b).present.run + 1
  · rw [sampled_accepts hv hn, Debounced.taken_accepts hv hn]
    cases hp : (u.pinsOf b).present with
    | true =>
      have k := sensed_turns (Y := { u.sensed b with inputs := { (u.sensed b).inputs with
        undecided := false, present := ⟨true, 0⟩ } }) hs b start
      have hnew : (!(u.bay b).present.accepted) = true := by simpa [hp] using hv
      exact k.occurs (k.takePresentTrue (sensed_raises (R := (· = _)) b b)
        (fun h => absurd ⟨hsensing, by simpa using hdecided, hnew⟩ h) (State.sensed_setPresent (s := u.nextInstant) hp))
    | false =>
      have k := sensed_turns (Y := { u.sensed b with inputs := { (u.sensed b).inputs with
        undecided := false, present := ⟨false, 0⟩ } }) hs b start
      have hnew : (u.bay b).present.accepted = true := by simpa [hp] using hv
      exact k.occurs (k.takePresentFalse (fun h => absurd ⟨hsensing, by simpa using hdecided, hnew⟩ h)
        (State.sensed_setPresent (s := u.nextInstant) hp))
  · rw [sampled_counts hv hn, Debounced.taken_counts hv hn]
    exact hsame _

/-- R24: the run of equal samples of an undecided Present. -/
def Sensed.undecidedRun (x : Sensed) : Nat :=
  if x.levels.present = x.inputs.level then x.inputs.present.run + 1 else 1

/-- R24: a sample of an undecided Present. -/
theorem samplePresent_undecided (hs : (u.sensed b).inputs.sensing = true) (hu : (u.sensed b).inputs.undecided = true) :
    (samplePresent start b u).sensed b = { u.sensed b with inputs := { (u.sensed b).inputs with
      level := (u.sensed b).levels.present
      undecided := decide ((u.sensed b).undecidedRun < (u.sensed b).settings.presenceCount)
      present := if (u.sensed b).undecidedRun < (u.sensed b).settings.presenceCount then
        ⟨(u.sensed b).inputs.present.accepted, (u.sensed b).undecidedRun⟩ else ⟨(u.sensed b).levels.present, 0⟩ } } := by
  have hsensing : (u.bay b).sensing = true := hs
  have hundecided : (u.bay b).presentUndecided = true := hu
  unfold samplePresent
  rw [if_neg (by simp [hsensing]), if_pos hundecided]
  extract_lets t
  have htbay : t.bay b = undecidedSampled (u.pinsOf b).present (u.bay b) :=
    (State.bay_modBay ..).trans (if_pos rfl)
  have hrun : (t.bay b).present.run = (u.sensed b).undecidedRun := by rw [htbay]; rfl
  have ht : t.sensed b = { u.sensed b with inputs := { (u.sensed b).inputs with
      level := (u.sensed b).levels.present
      present := ⟨(u.sensed b).inputs.present.accepted, (u.sensed b).undecidedRun⟩ } } := State.sensed_modBay ..
  have hcount : (u.sensed b).settings.presenceCount = u.settings.presenceCount := rfl
  rw [hrun, hcount]
  by_cases hn : u.settings.presenceCount ≤ (u.sensed b).undecidedRun
  · rw [if_pos hn, if_neg (not_lt.mpr hn), decide_eq_false (not_lt.mpr hn), htbay]
    have k := sensed_turns (Y := { u.sensed b with inputs := { (u.sensed b).inputs with
      level := (u.sensed b).levels.present, undecided := false, present := ⟨(u.sensed b).levels.present, 0⟩ } })
      hs b start
    have htpins : (t.nextInstant.pinsOf b).present = (u.pinsOf b).present := by simp [t, State.pinsOf]
    have htsensing : (t.bay b).sensing = true := (congrArg BayControl.sensing htbay).trans hsensing
    have htundecided : (t.bay b).presentUndecided = true :=
      (congrArg BayControl.presentUndecided htbay).trans hundecided
    refine k.occurs (k.takePresentDecided (fun _ => sensed_raises (R := (· = _)) b b)
      (fun h => absurd ⟨htsensing, htundecided⟩ h) ((State.sensed_setPresent htpins).trans ?_))
    have ht : t.nextInstant.sensed b = _ := ht
    rw [ht]
    rfl
  · rw [if_neg hn, if_pos (not_le.mp hn), decide_eq_true (not_le.mp hn), ht]
    exact congrArg (fun w => ({ u.sensed b with inputs := { (u.sensed b).inputs with
      level := (u.sensed b).levels.present, undecided := w
      present := ⟨(u.sensed b).inputs.present.accepted, (u.sensed b).undecidedRun⟩ } } : Sensed)) hu

end
end Sys2Proof.Machine

/-!
PROOFS. What a clock cycle makes of the Supply Monitor, of Outer Guard and of the bay inputs.
-/

namespace Sys2Proof.Machine

section

variable {R : Sensed → Prop} {s u start : State} {b c : Bay} {X Y : Sensed}

/-! ### The Supply Monitor -/

/-- R173: the inputs of a bay whose sampling has stopped. -/
def BayInputs.stopped (x : BayInputs) : BayInputs := { x with undecided := false, sensing := false }

/-- R172: what one sample of the Supply Monitor makes of what a bay senses. -/
def Sensed.supplied (low : Bool) (x : Sensed) : Sensed :=
  if x.supply.accepted then
    if low then { x with supply := { x.supply with goodTimer := some 0 } } else x
  else if low then
    if 4 ≤ x.supply.lowRun + 1 then { x with supply := ⟨true, 0, some 0⟩, inputs := x.inputs.stopped }
    else { x with supply := { x.supply with lowRun := x.supply.lowRun + 1 } }
  else { x with supply := { x.supply with lowRun := 0 } }

/-- What the acceptance of Supply Low leaves of what a bay senses, its inputs aside. -/
theorem sensed_cut (hR : ∀ x i, R x → R { x with inputs := i }) (b : Bay) : KeptCut fun s => R (s.sensed b) where
  toKeptBase := (sensed_timedLaw (fun x h _ _ => hR x _ h) b).keptBase
  dropSlots h _ := by
    unfold State.sensed
    rwa [State.timed_dropSlots]
  spindleDown h _ _ _ := h
  placed {s c} h := hR (s.sensed b) (({ s with bays := s.bays.update c supplyPlaced } : State).sensed b).inputs h
  halted h := h

theorem takeSupplyLow_sensed (ha : u.supply.accepted = false) (b : Bay) : (takeSupplyLow u).sensed b =
    { u.sensed b with supply := ⟨true, 0, some 0⟩, inputs := (u.sensed b).inputs.stopped } := by
  have hrest : ({ (takeSupplyLow u).sensed b with inputs := (u.sensed b).inputs.stopped } : Sensed) =
      { u.sensed b with supply := ⟨true, 0, some 0⟩, inputs := (u.sensed b).inputs.stopped } :=
    (sensed_cut (R := fun x => ({ x with inputs := (u.sensed b).inputs.stopped } : Sensed) =
      { u.sensed b with supply := ⟨true, 0, some 0⟩, inputs := (u.sensed b).inputs.stopped })
      (fun _ _ h => h) b).takeSupplyLow ha rfl
  have hinputs : ((takeSupplyLow u).sensed b).inputs = (u.sensed b).inputs.stopped := by
    obtain ⟨down, htake, hd⟩ := takeSupplyLow_shutDown ha
    have hbay : (takeSupplyLow u).bay b = supplyPlaced (u.bay b) := htake ▸ hd.bay b
    exact (congrArg BayControl.inputs hbay :)
  rw [← hrest, ← hinputs]

/-- A bay whose sampling stands, by its own state or by Supply Low, keeps what it senses through the waits. -/
theorem restarts_low (h : Y.supply.accepted = true) : Restarts (· = Y) := by
  rintro x rfl hlow -
  simp [h] at hlow

theorem sampleSupply_sensed (u : State) (b : Bay) :
    (sampleSupply start u).sensed b = (u.sensed b).supplied u.pins.supplyLow := by
  have haccepted : (u.sensed b).supply = u.supply := rfl
  unfold sampleSupply Sensed.supplied
  rw [haccepted]
  split_ifs with ha hlow hlow hrun
  · rfl
  · rfl
  · have k := (sensed_cycle (restarts_low (Y := { u.sensed b with
      supply := ⟨true, 0, some 0⟩, inputs := (u.sensed b).inputs.stopped }) rfl) b start).toKeptTurns
    exact k.occurs (takeSupplyLow_sensed (u := u.nextInstant) (by simpa using ha) b)
  · rfl
  · rfl

/-! ### Outer Guard -/

/-- A sample of Outer Guard of another bay, or where the Positioner's input is not asked for. -/
theorem sampleGuard_keeps (hR : Restarts R) (h : c ≠ b ∨ ∀ x g, R x → R { x with guard := g })
    (hu : R (u.sensed b)) : R ((sampleGuard start c u).sensed b) := by
  have k := (sensed_cycle hR b start).toKeptTurns
  have hset {t : State} {d : Debounced} (ht : R (t.sensed b)) :
      R ((t.modPositioner c fun p => { p with outerGuard := d }).sensed b) := by
    by_cases hc : c = b
    · subst hc
      rw [State.sensed_modPositioner]
      exact h.resolve_left (fun hn => hn rfl) _ _ ht
    · have he : (t.modPositioner c fun p => { p with outerGuard := d }).sensed b = t.sensed b := by
        unfold State.sensed
        rw [State.timed_modPositioner]
        unfold Timed.sensed
        rw [PerBay.get_update, if_neg (Ne.symm hc)]
      rwa [he]
  unfold sampleGuard
  extract_lets v g
  split_ifs
  · exact hset hu
  · refine k.occurs (k.takeOuterGuard (fun _ => hu) (hset ?_))
    have he : (u.nextInstant.modPins c fun x => { x with outerGuard := v }).sensed b = u.sensed b :=
      Timed.sensed_pins (F := u.timed) fun _ => rfl
    rwa [he]
  · exact hset hu

/-- R57: what one sample makes of Outer Guard. -/
def Sensed.guarded (x : Sensed) : Sensed := { x with guard := x.guard.taken 4 x.levels.outerGuard }

theorem sampleGuard_sensed (hR : Restarts R) (hu : R (u.sensed b).guarded) : R ((sampleGuard start b u).sensed b) := by
  have hlevel : (u.sensed b).levels.outerGuard = (u.pinsOf b).outerGuard := rfl
  have hguard : (u.sensed b).guard = (u.positioner b).outerGuard := rfl
  have hset {d : Debounced} (h : R { u.sensed b with guard := d }) :
      R ((u.modPositioner b fun p => { p with outerGuard := d }).sensed b) := by
    rwa [State.sensed_modPositioner]
  unfold Sensed.guarded at hu
  rw [hlevel, hguard] at hu
  unfold sampleGuard
  extract_lets v g
  split_ifs with hv hn
  · rw [Debounced.taken_same hv] at hu
    exact hset hu
  · rw [Debounced.taken_accepts hv hn] at hu
    have k := (sensed_cycle hR b start).toKeptTurns
    refine k.occurs (k.takeOuterGuard (fun he => absurd he.symm hv) ?_)
    rw [State.sensed_modPositioner, State.sensed_modPins]
    · exact hu
    · rfl
  · rw [Debounced.taken_counts hv hn] at hu
    exact hset hu

/-! ### The samples of the 1 ms tick -/

/-- R24: what one sample makes of an undecided Present, and R1 of a decided one. -/
def Sensed.presented (x : Sensed) : BayInputs :=
  if x.inputs.undecided then
    { x.inputs with
      level := x.levels.present
      undecided := decide (x.undecidedRun < x.settings.presenceCount)
      present := if x.undecidedRun < x.settings.presenceCount then ⟨x.inputs.present.accepted, x.undecidedRun⟩
        else ⟨x.levels.present, 0⟩ }
  else { x.inputs with
    undecided := false
    present := x.inputs.present.taken x.settings.presenceCount x.levels.present }

/-- What the samples of a 1 ms tick make of the inputs of a bay that senses. -/
def Sensed.sampled (x : Sensed) : BayInputs :=
  { x.presented with
    parkDetect := x.inputs.parkDetect.taken 3 x.levels.parkDetect
    writeProtect := x.inputs.writeProtect.taken x.settings.presenceCount x.levels.writeProtect
    button := x.inputs.button.taken (if x.inputs.button.accepted then x.settings.releaseCount
      else x.settings.pressCount) x.levels.ejectButton }

theorem samplePresent_cases (hs : (u.sensed b).inputs.sensing = true) :
    (samplePresent start b u).sensed b = { u.sensed b with inputs := (u.sensed b).presented } := by
  unfold Sensed.presented
  cases hu : (u.sensed b).inputs.undecided
  · exact samplePresent_sensed hs hu
  · exact samplePresent_undecided hs hu

theorem sampleBay_sensed (hs : (u.sensed b).inputs.sensing = true) :
    (sampleBay start b u).sensed b = { u.sensed b with inputs := (u.sensed b).sampled } := by
  have hpark := samplePark_sensed (start := start) hs
  have hprotect := sampleWriteProtect_sensed (start := start) (u := sampleParkDetect start b u)
    (by rw [hpark]; exact hs)
  rw [hpark] at hprotect
  have hpresent := samplePresent_cases (start := start)
    (u := sampleWriteProtect start b (sampleParkDetect start b u)) (by rw [hprotect]; exact hs)
  rw [hprotect] at hpresent
  have hsensing : ((samplePresent start b (sampleWriteProtect start b (sampleParkDetect start b u))).sensed
      b).inputs.sensing = true := by
    rw [hpresent]
    unfold Sensed.presented
    split <;> exact hs
  have hbutton := sampleButton_sensed (start := start) hsensing
  rw [hpresent] at hbutton
  refine hbutton.trans ?_
  unfold Sensed.sampled Sensed.presented
  split <;> rfl

/-- A bay whose sampling has stopped takes no sample: the park hold only looks at the ramp. -/
theorem sampleBay_off {I : BayInputs} (hI : I.sensing = false)
    (h : (u.sensed b).supply.accepted = true ∧ (u.sensed b).inputs = I) :
    ((sampleBay start b u).sensed b).supply.accepted = true ∧ ((sampleBay start b u).sensed b).inputs = I := by
  have hR : Restarts fun x => x.supply.accepted = true ∧ x.inputs = I := fun x hx hlow _ => by
    simp [hx.1] at hlow
  have k := (sensed_cycle hR b start).toKeptTurns
  have off {t : State} (ht : (t.sensed b).supply.accepted = true ∧ (t.sensed b).inputs = I) :
      (t.bay b).sensing = false := (congrArg BayInputs.sensing ht.2).trans hI
  have hpark : ((sampleParkDetect start b u).sensed b).supply.accepted = true ∧
      ((sampleParkDetect start b u).sensed b).inputs = I := by
    unfold sampleParkDetect
    split
    next hw =>
      have hset (hr : u.rampWatched b = false) : False := by simp [hw] at hr
      split
      · exact k.occurs (k.takeParkTrue (fun _ => h) (fun _ => h) fun hr => (hset hr).elim)
      · exact k.occurs (k.takeParkFalse (fun ht => sensed_abandon (R := fun x => x.supply.accepted = true ∧ x.inputs = I)
          ht) (fun _ => h) (fun _ => h) fun hr => (hset hr).elim)
      · exact k.setPositioner h .same
    · rw [if_neg (by simp [off h])]
      exact h
  have hprotect : sampleWriteProtect start b (sampleParkDetect start b u) = sampleParkDetect start b u :=
    if_neg (by simp [off hpark])
  have hpresent : samplePresent start b (sampleParkDetect start b u) = sampleParkDetect start b u :=
    if_pos (by simp [off hpark])
  have hbutton : sampleButton start b (sampleParkDetect start b u) = sampleParkDetect start b u :=
    if_neg (by simp [off hpark])
  unfold sampleBay
  rw [hprotect, hpresent, hbutton]
  exact hpark

end
end Sys2Proof.Machine

/-!
PROOFS. O5: what one clock cycle samples, and what its samples make accepted.
-/

namespace Sys2Proof.Machine

section

variable {R : Sensed → Prop} {s u start : State} {b : Bay} {x : Sensed} {I : BayInputs}

/-! ### What a bay senses through the parts of a cycle -/

/-- What the samples of every cycle make of what a bay senses. -/
def State.sensedMicro (s : State) (b : Bay) : Sensed := ((s.sensed b).supplied s.pins.supplyLow).guarded

/-- A rule made for both bays, of which the one for `b` makes `Q` of `P`. -/
theorem forBays_own {P Q : State → Prop} {f : Bay → State → State} (own : ∀ {u}, P u → Q (f b u))
    (before : ∀ {u c}, c ≠ b → P u → P (f c u)) (after : ∀ {u c}, c ≠ b → Q u → Q (f c u)) (hu : P u) :
    Q (u.forBays f) := by
  cases b with
  | bay0 => exact after (by decide) (own hu)
  | bay1 => exact own (before (by decide) hu)

/-- What is asked of a bay before the sample of its Outer Guard, which puts it at `g`. -/
def GuardDue (R : Sensed → Prop) (g : Debounced) (x : Sensed) : Prop := x.guarded.guard = g ∧ R { x with guard := g }

theorem guardDue_restarts (hR : Restarts R) (g : Debounced) : Restarts (GuardDue R g) :=
  fun _ hx hlow hsensing => ⟨hx.1, hR _ hx.2 hlow hsensing⟩

theorem guardDue_sampled {g : Debounced} (hR : Restarts R) (hu : GuardDue R g (u.sensed b)) :
    R ((sampleGuard start b u).sensed b) := by
  obtain ⟨hg, hu⟩ := hu
  rw [← hg] at hu
  exact sampleGuard_sensed hR hu

theorem cycleSampled_sensed (hR : Restarts R) (h : R (s.sensedMicro b)) : R (s.cycleSampled.sensed b) := by
  let Q := GuardDue R (s.sensedMicro b).guard
  have hQ : Restarts Q := guardDue_restarts hR _
  have k := sensed_cycle hR b s
  have q := sensed_cycle hQ b s
  have hsupply : Q ((sampleSupply s { s with cycle := s.cycle + 1 }).sensed b) := by
    rw [sampleSupply_sensed]
    exact ⟨rfl, h⟩
  unfold State.cycleSampled
  generalize sampleSupply s { s with cycle := s.cycle + 1 } = u at hsupply ⊢
  refine forBays_keeps (P := fun t => R (t.sensed b)) k.pwmStep ?_
  exact forBays_own (P := fun t => Q (t.sensed b)) (Q := fun t => R (t.sensed b)) (guardDue_sampled hR)
    (fun hc => sampleGuard_keeps hQ (.inl hc)) (fun hc => sampleGuard_keeps hR (.inl hc))
    (forBays_keeps (P := fun t => Q (t.sensed b)) q.sampleCrossing
      (forBays_keeps (P := fun t => Q (t.sensed b)) q.sampleSpindle hsupply))

theorem cycleMicro_sensed (hR : Restarts R) (h : R (s.sensedMicro b)) : R (s.cycleMicro.sensed b) :=
  every_keeps (P := fun t => R (t.sensed b))
    (forBays_keeps (P := fun t => R (t.sensed b)) (sensed_cycle hR b s).microTick) (cycleSampled_sensed hR h)

/-- R172: the supply-good timer counted. -/
def Sensed.counted (x : Sensed) : Sensed := { x with supply := { x.supply with goodTimer := tickUp x.supply.goodTimer } }

/-- R172: what the supply recovery makes of what a bay senses, where it is due. -/
def Sensed.recovered (x : Sensed) : Sensed :=
  if x.supply.accepted && reached Config.supplyGood x.supply.goodTimer then { x with supply := ⟨false, 0, none⟩ } else x

theorem Sensed.recovered_good (h : x.supply.accepted = false) : x.recovered = x :=
  if_neg (by simp [h])

theorem Restarts.recovered (hR : Restarts R) : Restarts fun x => R x.recovered := by
  intro x hx hlow hsensing
  rw [Sensed.recovered_good hlow] at hx
  have hrestarted : Sensed.recovered { x with inputs := x.inputs.restarted } = { x with inputs := x.inputs.restarted } :=
    Sensed.recovered_good hlow
  exact (congrArg R hrestarted).mpr (hR x hx hlow hsensing)

theorem millisCounted_sensed (u : State) (b : Bay) : (millisCounted u).sensed b = (u.sensed b).counted := by
  cases b <;> rfl

theorem takeSupplyRecovery_sensed (ha : u.supply.accepted = true) :
    (takeSupplyRecovery u).sensed b = { u.sensed b with supply := ⟨false, 0, none⟩ } := by
  unfold takeSupplyRecovery State.sensed
  rw [if_pos ha, State.timed_modPositioner, State.timed_modPositioner, Timed.sensed_positioners rfl]
  exact Timed.sensed_positioners rfl

theorem recovery_sensed (hR : Restarts R) (h : R (u.sensed b).recovered) :
    R ((u.fire start (fun t => t.supply.accepted && reached Config.supplyGood t.supply.goodTimer)
      takeSupplyRecovery).sensed b) := by
  have k := (sensed_cycle hR b start).toKeptTurns
  have hsame : (u.sensed b).supply = u.supply := rfl
  unfold Sensed.recovered at h
  rw [hsame] at h
  unfold State.fire
  by_cases hdue : (u.supply.accepted && reached Config.supplyGood u.supply.goodTimer) = true
  · rw [if_pos hdue] at h ⊢
    have ha : u.supply.accepted = true := (Bool.and_eq_true_iff.mp hdue).1
    refine k.occurs ?_
    rw [takeSupplyRecovery_sensed (u := u.nextInstant) ha]
    exact h
  · rw [if_neg hdue] at h ⊢
    exact h

/-- The limits of the 1 ms tick leave what a bay senses, but for the recovery. -/
theorem milliTick_sensed (hR : Restarts R)
    (h : R ((((millisCounted u).forBays (sampleBay start)).sensed b).recovered)) :
    R ((milliTick start u).sensed b) := by
  have k := (sensed_cycle hR b start).toKeptTurns
  unfold milliTick
  extract_lets recovered
  refine k.fire k.takePollExpiry (k.bothBays (k.bothPositioners (k.bothSpindles ?_)))
  exact recovery_sensed hR h

theorem resetDone_sensed (u : State) (b : Bay) :
    u.resetDone.sensed b = { u.sensed b with settings := .default } := by
  cases b <;> rfl

/-- The end of a cycle leaves what a bay senses, but for the settings. -/
theorem cycleEnd_sensed (hR : Restarts R) (settings : ∀ x t, R x → R { x with settings := t })
    (h : R (u.sensed b)) : R (((u.fire start State.resetEnds takeResetEnd).closed).sensed b) := by
  have k := (sensed_cycle hR b start).toKeptTurns
  refine k.closed (k.fire (fun {t} h => k.takeResetEnd (fun c => sensed_raises b c) (fun _ => ?_) h) h)
  rw [resetDone_sensed]
  exact settings _ _ h

/-! ### The bay inputs at the tick -/

/-- What the two samples of the 1 ms tick leave of a bay whose inputs are not asked for. -/
theorem bothSamples_keeps (hR : Restarts R) (h : ∀ x i l, R x → R { x with inputs := i, levels := l })
    (hu : R (u.sensed b)) : R ((u.forBays (sampleBay start)).sensed b) :=
  forBays_keeps (P := fun t => R (t.sensed b)) (fun {c} => (sensed_samples (c := c) hR (.inr h) start).sampleBay) hu

/-- The samples of the tick, of which those of `b` make `Q` of `P`. -/
theorem bothSamples_own {P Q : Sensed → Prop} (hP : Restarts P) (hQ : Restarts Q)
    (own : ∀ {u : State}, P (u.sensed b) → Q ((sampleBay start b u).sensed b)) (hu : P (u.sensed b)) :
    Q ((u.forBays (sampleBay start)).sensed b) :=
  forBays_own (P := fun t => P (t.sensed b)) (Q := fun t => Q (t.sensed b)) own
    (fun hc => (sensed_samples hP (.inl hc) start).sampleBay) (fun hc => (sensed_samples hQ (.inl hc) start).sampleBay) hu

theorem inputs_restarts (hI : I.sensing = true) : Restarts fun x => x.inputs = I := by
  intro x hx _ hoff
  simp [hx, hI] at hoff

theorem Sensed.sampled_sensing (hs : x.inputs.sensing = true) : x.sampled.sensing = true := by
  unfold Sensed.sampled Sensed.presented
  split <;> exact hs

theorem bothSamples_sensed (hs : (u.sensed b).inputs.sensing = true) :
    ((u.forBays (sampleBay start)).sensed b) = { u.sensed b with inputs := (u.sensed b).sampled } := by
  refine bothSamples_own (P := (· = u.sensed b)) (Q := (· = _)) (restarts_eq hs)
    (restarts_eq (Sensed.sampled_sensing hs)) (fun {t} ht => ?_) rfl
  rw [sampleBay_sensed (by rw [ht]; exact hs), ht]

/-- What stands of the inputs of a bay whose sampling has stopped: they stand, until it restarts sensing. -/
def Sensed.offFrom (I : BayInputs) (x : Sensed) : Prop :=
  (x.supply.accepted = true ∧ x.inputs = I) ∨
    (x.supply.accepted = false ∧ (x.inputs = I ∨ x.inputs = I.restarted))

theorem offFrom_restarts : Restarts (Sensed.offFrom I) := by
  rintro x (⟨hlow, -⟩ | ⟨-, hI⟩) hgood hsensing
  · simp [hgood] at hlow
  · refine .inr ⟨hgood, .inr ?_⟩
    rcases hI with hI | hI
    · rw [← hI]
    · simp [hI, BayInputs.restarted] at hsensing

theorem Sensed.offFrom_recovered (ha : x.supply.accepted = true) (hI : x.inputs = I) : x.recovered.offFrom I := by
  unfold Sensed.recovered
  split
  · exact .inr ⟨rfl, .inl hI⟩
  · exact .inl ⟨ha, hI⟩

/-! ### The whole cycle -/

theorem clockCycle_sensed (hR : Restarts R) (settings : ∀ x t, R x → R { x with settings := t })
    (h : R (s.cycleMilli.sensed b)) : R ((clockCycle s).sensed b) :=
  cycleEnd_sensed hR settings h

/-- The Supply Monitor and Outer Guard after a cycle. -/
def State.sensedMilli (s : State) (b : Bay) : Sensed :=
  if (s.cycle + 1) % 8000 = 0 then (s.sensedMicro b).counted.recovered else s.sensedMicro b

theorem clockCycle_supply (s : State) (b : Bay) :
    (clockCycle s).supply = (s.sensedMilli b).supply ∧
      ((clockCycle s).positioner b).outerGuard = (s.sensedMicro b).guard := by
  let X := s.sensedMicro b
  let R (S : Supply) : Sensed → Prop := fun x => x.supply = S ∧ x.guard = X.guard
  have hR (S) : Restarts (R S) := fun _ h _ _ => h
  have hmicro : R X.supply (s.cycleMicro.sensed b) := cycleMicro_sensed (hR _) ⟨rfl, rfl⟩
  refine clockCycle_sensed (R := R (s.sensedMilli b).supply) (hR _) (fun _ _ h => h) ?_
  by_cases tick : (s.cycle + 1) % 8000 = 0
  · rw [State.cycleMilli_tick tick, State.sensedMilli, if_pos tick]
    refine milliTick_sensed (hR _) ?_
    have hcounted : R X.counted.supply ((millisCounted s.cycleMicro).sensed b) := by
      rw [millisCounted_sensed]
      exact ⟨congrArg (fun S : Supply => { S with goodTimer := tickUp S.goodTimer }) hmicro.1, hmicro.2⟩
    obtain ⟨hsupply, hguard⟩ := bothSamples_keeps (start := s) (hR _) (fun _ _ _ h => h) hcounted
    unfold R Sensed.recovered
    rw [hsupply]
    split
    · exact ⟨rfl, hguard⟩
    · exact ⟨hsupply, hguard⟩
  · rw [State.cycleMilli_off tick, State.sensedMilli, if_neg tick]
    exact hmicro

/-- A bay that senses: its inputs after a cycle are as its samples make them. -/
theorem clockCycle_sensing (hs : (s.sensedMicro b).inputs.sensing = true) : ((clockCycle s).bay b).inputs =
    if (s.cycle + 1) % 8000 = 0 then (s.sensedMicro b).sampled else (s.sensedMicro b).inputs := by
  have hmicro : s.cycleMicro.sensed b = s.sensedMicro b := cycleMicro_sensed (R := (· = _)) (restarts_eq hs) rfl
  have ends {J : BayInputs} (hJ : J.sensing = true) (h : (s.cycleMilli.sensed b).inputs = J) :
      ((clockCycle s).bay b).inputs = J :=
    clockCycle_sensed (b := b) (R := fun x => x.inputs = J) (inputs_restarts hJ) (fun _ _ h => h) h
  by_cases tick : (s.cycle + 1) % 8000 = 0
  · rw [if_pos tick]
    have hsampled := Sensed.sampled_sensing hs
    refine ends hsampled ?_
    rw [State.cycleMilli_tick tick]
    refine milliTick_sensed (R := fun x => x.inputs = (s.sensedMicro b).sampled) (inputs_restarts hsampled) ?_
    have hu : (millisCounted s.cycleMicro).sensed b = (s.sensedMicro b).counted := by
      rw [millisCounted_sensed, hmicro]
    rw [bothSamples_sensed (by rw [hu]; exact hs), hu]
    unfold Sensed.recovered
    split <;> rfl
  · rw [if_neg tick]
    refine ends hs ?_
    rw [State.cycleMilli_off tick, hmicro]

/-- A bay whose sampling has stopped: its inputs stand, or it restarts sensing after the recovery. -/
theorem clockCycle_off (ha : (s.sensedMicro b).supply.accepted = true)
    (hs : (s.sensedMicro b).inputs.sensing = false) :
    ((clockCycle s).sensed b).offFrom (s.sensedMicro b).inputs := by
  have hmicro : s.cycleMicro.sensed b = s.sensedMicro b := cycleMicro_sensed (R := (· = _)) (restarts_low ha) rfl
  refine clockCycle_sensed offFrom_restarts (fun _ _ h => h) ?_
  by_cases tick : (s.cycle + 1) % 8000 = 0
  · rw [State.cycleMilli_tick tick]
    refine milliTick_sensed offFrom_restarts ?_
    let C : Sensed → Prop := fun x => x.supply.accepted = true ∧ x.inputs = (s.sensedMicro b).inputs
    have hC : Restarts C := fun x hx hgood _ => by simp [hx.1] at hgood
    have hu : C ((millisCounted s.cycleMicro).sensed b) := by
      rw [millisCounted_sensed, hmicro]
      exact ⟨ha, rfl⟩
    obtain ⟨hlow, hinputs⟩ := bothSamples_own (start := s) hC hC (sampleBay_off hs) hu
    exact Sensed.offFrom_recovered hlow hinputs
  · rw [State.cycleMilli_off tick, hmicro]
    exact .inl ⟨ha, rfl⟩

/-! ### The samples of the supply -/

theorem sensedMicro_low (ha : s.supply.accepted = true) : (s.sensedMicro b).inputs = (s.bay b).inputs ∧
    (s.sensedMicro b).supply =
      if s.pins.supplyLow then { s.supply with goodTimer := some 0 } else s.supply := by
  have ha : (s.sensed b).supply.accepted = true := ha
  unfold State.sensedMicro Sensed.guarded Sensed.supplied
  rw [if_pos ha]
  split <;> exact ⟨rfl, rfl⟩

/-- With Supply Low not accepted a cycle accepts it, or keeps the inputs and counts the low samples. -/
theorem sensedMicro_good (ha : s.supply.accepted = false) :
    (s.pins.supplyLow = true ∧ 3 ≤ s.supply.lowRun ∧ (s.sensedMicro b).supply = ⟨true, 0, some 0⟩ ∧
      (s.sensedMicro b).inputs = (s.bay b).inputs.stopped) ∨
    ((s.pins.supplyLow = true → s.supply.lowRun < 3) ∧ (s.sensedMicro b).inputs = (s.bay b).inputs ∧
      (s.sensedMicro b).supply =
        { s.supply with lowRun := if s.pins.supplyLow then s.supply.lowRun + 1 else 0 }) := by
  have ha : ¬(s.sensed b).supply.accepted = true := Bool.eq_false_iff.mp ha
  unfold State.sensedMicro Sensed.guarded Sensed.supplied
  rw [if_neg ha]
  split
  next hlow =>
    split
    next hrun => exact .inl ⟨hlow, Nat.le_of_succ_le_succ hrun, rfl, rfl⟩
    next hrun => exact .inr ⟨fun _ => Nat.lt_of_succ_lt_succ (Nat.not_le.mp hrun), rfl, rfl⟩
  next hlow => exact .inr ⟨fun h => absurd h hlow, rfl, rfl⟩

/-- The recovery is not due in the cycle of the acceptance. -/
theorem sensedMilli_accepted (b : Bay) (h : (s.sensedMicro b).supply = ⟨true, 0, some 0⟩) :
    (s.sensedMilli b).supply.accepted = true := by
  unfold State.sensedMilli
  split
  · simp [Sensed.recovered, Sensed.counted, h, tickUp, reached, Config.supplyGood]
  · rw [h]

theorem sensedMilli_good (b : Bay) (h : (s.sensedMicro b).supply.accepted = false) :
    (s.sensedMilli b).supply.accepted = false ∧
      (s.sensedMilli b).supply.lowRun = (s.sensedMicro b).supply.lowRun := by
  unfold State.sensedMilli
  split
  · rw [Sensed.recovered_good (x := (s.sensedMicro b).counted) h]
    exact ⟨h, rfl⟩
  · exact ⟨h, rfl⟩

theorem clockCycle_supplyGood (ha : s.supply.accepted = false) :
    (s.pins.supplyLow = false → (clockCycle s).supply.accepted = false ∧ (clockCycle s).supply.lowRun = 0) ∧
    (s.pins.supplyLow = true → s.supply.lowRun < 3 →
      (clockCycle s).supply.accepted = false ∧ (clockCycle s).supply.lowRun = s.supply.lowRun + 1) ∧
    (s.pins.supplyLow = true → 3 ≤ s.supply.lowRun → (clockCycle s).supply.accepted = true) := by
  rw [(clockCycle_supply s .bay0).1]
  rcases sensedMicro_good (b := .bay0) ha with ⟨hlow, hrun, hsupply, -⟩ | ⟨hrun, -, hsupply⟩
  · have haccepted := sensedMilli_accepted .bay0 hsupply
    exact ⟨fun h => by simp [hlow] at h, fun _ h => absurd hrun (Nat.not_le.mpr h), fun _ _ => haccepted⟩
  · obtain ⟨hgood, hcount⟩ := sensedMilli_good .bay0 (by rw [hsupply]; exact ha)
    rw [hsupply] at hcount
    refine ⟨fun h => ⟨hgood, ?_⟩, fun h _ => ⟨hgood, ?_⟩, fun h h3 => absurd (hrun h) (Nat.not_lt.mpr h3)⟩
    · simpa [h] using hcount
    · simpa [h] using hcount

theorem clockCycle_supplyLow (ha : s.supply.accepted = true) :
    (s.pins.supplyLow = true → (clockCycle s).supply.accepted = true ∧
      (clockCycle s).supply.goodTimer = some (if (s.cycle + 1) % 8000 = 0 then 1 else 0)) ∧
    (s.pins.supplyLow = false → ¬(s.cycle + 1) % 8000 = 0 → (clockCycle s).supply = s.supply) ∧
    (s.pins.supplyLow = false → (s.cycle + 1) % 8000 = 0 → ∀ n, s.supply.goodTimer = some n →
      (n + 1 < 100 → (clockCycle s).supply = { s.supply with goodTimer := some (n + 1) }) ∧
      (100 ≤ n + 1 → (clockCycle s).supply = ⟨false, 0, none⟩)) := by
  obtain ⟨-, hsupply⟩ := sensedMicro_low (b := .bay0) ha
  rw [(clockCycle_supply s .bay0).1]
  unfold State.sensedMilli
  refine ⟨fun hlow => ?_, fun hlow tick => ?_, fun hlow tick n hn => ?_⟩
  · rw [if_pos hlow] at hsupply
    split <;> simp [Sensed.recovered, Sensed.counted, hsupply, ha, tickUp, reached, Config.supplyGood]
  · rw [if_neg tick, hsupply, hlow]
    rfl
  · rw [hlow, if_neg (by simp)] at hsupply
    rw [if_pos tick]
    constructor <;> intro hlimit
    · have hdue : ¬100 ≤ n + 1 := Nat.not_le.mpr hlimit
      simp [Sensed.recovered, Sensed.counted, hsupply, hn, tickUp, reached, Config.supplyGood, hdue]
    · simp [Sensed.recovered, Sensed.counted, hsupply, ha, hn, tickUp, reached, Config.supplyGood, hlimit]

/-! ### The samples of a bay -/

theorem Sensed.sampled_congr {y : Sensed} (inputs : x.inputs = y.inputs) (levels : x.levels = y.levels)
    (settings : x.settings = y.settings) : x.sampled = y.sampled := by
  obtain ⟨i, l, g, c, p⟩ := x
  cases inputs
  cases levels
  cases settings
  rfl

theorem clockCycle_guard (s : State) (b : Bay) : ((clockCycle s).positioner b).outerGuard =
    (s.positioner b).outerGuard.taken 4 (s.pinsOf b).outerGuard := by
  rw [(clockCycle_supply s b).2]
  unfold State.sensedMicro Sensed.guarded Sensed.supplied
  split_ifs <;> rfl

/-- The four inputs with their runs. -/
def BayInputs.sameFour (x y : BayInputs) : Prop :=
  x.present = y.present ∧ x.writeProtect = y.writeProtect ∧ x.button = y.button ∧ x.parkDetect = y.parkDetect

/-- What Supply Low accepted after the cycle says of the inputs before it. -/
theorem sensedMicro_accepted (h : (clockCycle s).supply.accepted = true) :
    (s.sensedMicro b).supply.accepted = true ∧ (s.sensedMicro b).inputs.sameFour (s.bay b).inputs ∧
      ((s.bay b).sensing = false ∨ s.supply.accepted = false → (s.sensedMicro b).inputs.sensing = false) := by
  rw [(clockCycle_supply s b).1] at h
  cases ha : s.supply.accepted with
  | true =>
    obtain ⟨hinputs, hsupply⟩ := sensedMicro_low (b := b) ha
    rw [hinputs, hsupply]
    refine ⟨by split <;> exact ha, ⟨rfl, rfl, rfl, rfl⟩, fun hor => hor.resolve_right (by simp)⟩
  | false =>
    rcases sensedMicro_good (b := b) ha with ⟨-, -, hsupply, hinputs⟩ | ⟨-, -, hsupply⟩
    · rw [hinputs, hsupply]
      exact ⟨rfl, ⟨rfl, rfl, rfl, rfl⟩, fun _ => rfl⟩
    · have hgood := (sensedMilli_good b (by rw [hsupply]; exact ha)).1
      simp [hgood] at h

/-- The inputs that no sample of the cycle changes. -/
theorem clockCycle_unsampled
    (h : (¬(s.cycle + 1) % 8000 = 0 ∧ (s.bay b).sensing = true ∧
        s.supply.accepted = (clockCycle s).supply.accepted) ∨
      ((clockCycle s).supply.accepted = true ∧ ((s.bay b).sensing = false ∨ s.supply.accepted = false))) :
    ((clockCycle s).bay b).inputs.sameFour (s.bay b).inputs := by
  rcases h with ⟨tick, hsensing, hsame⟩ | ⟨hlow, hoff⟩
  · have hinputs : (s.sensedMicro b).inputs = (s.bay b).inputs := by
      cases ha : s.supply.accepted with
      | true => exact (sensedMicro_low ha).1
      | false =>
        rcases sensedMicro_good (b := b) ha with ⟨-, -, hsupply, -⟩ | ⟨-, hinputs, -⟩
        · have haccepted := sensedMilli_accepted b hsupply
          rw [← (clockCycle_supply s b).1, ← hsame] at haccepted
          simp [ha] at haccepted
        · exact hinputs
    have hs : (s.sensedMicro b).inputs.sensing = true := by rw [hinputs]; exact hsensing
    rw [clockCycle_sensing hs, if_neg tick, hinputs]
    exact ⟨rfl, rfl, rfl, rfl⟩
  · obtain ⟨haccepted, hfour, hsensing⟩ := sensedMicro_accepted (b := b) hlow
    have ht : ((clockCycle s).sensed b).supply.accepted = true := hlow
    rcases clockCycle_off haccepted (hsensing hoff) with ⟨-, hI⟩ | ⟨hgood, -⟩
    · have hI : ((clockCycle s).bay b).inputs = (s.sensedMicro b).inputs := hI
      rwa [hI]
    · simp [ht] at hgood

/-- The inputs of a bay that senses after the samples of a 1 ms tick. -/
theorem clockCycle_sampled (tick : (s.cycle + 1) % 8000 = 0) (hs : (s.bay b).sensing = true)
    (ha : s.supply.accepted = false) (ht : (clockCycle s).supply.accepted = false) :
    ((clockCycle s).bay b).inputs = (s.sensed b).sampled := by
  rcases sensedMicro_good (b := b) ha with ⟨-, -, hsupply, -⟩ | ⟨-, hinputs, -⟩
  · have haccepted := sensedMilli_accepted b hsupply
    rw [← (clockCycle_supply s b).1] at haccepted
    simp [ht] at haccepted
  · rw [clockCycle_sensing (by rw [hinputs]; exact hs), if_pos tick]
    have hlevels : (s.sensedMicro b).levels = (s.sensed b).levels ∧
        (s.sensedMicro b).settings = (s.sensed b).settings := by
      unfold State.sensedMicro Sensed.guarded Sensed.supplied
      split_ifs <;> exact ⟨rfl, rfl⟩
    exact Sensed.sampled_congr hinputs hlevels.1 hlevels.2

/-- The inputs of a bay that the recovery lets sense again. -/
theorem clockCycle_restarted (hs : (s.bay b).sensing = false) (ha : s.supply.accepted = true)
    (ht : (clockCycle s).supply.accepted = false) (hsense : ((clockCycle s).bay b).sensing = true) :
    ((clockCycle s).bay b).inputs = (s.bay b).inputs.restarted := by
  obtain ⟨hinputs, hsupply⟩ := sensedMicro_low (b := b) ha
  have haccepted : (s.sensedMicro b).supply.accepted = true := by
    rw [hsupply]
    split <;> exact ha
  have hoff := clockCycle_off haccepted (by rw [hinputs]; exact hs)
  rw [hinputs] at hoff
  have ht : ((clockCycle s).sensed b).supply.accepted = false := ht
  rcases hoff with ⟨hlow, -⟩ | ⟨-, hI | hI⟩
  · simp [ht] at hlow
  · have hI : ((clockCycle s).bay b).inputs.sensing = (s.bay b).inputs.sensing := congrArg BayInputs.sensing hI
    exact absurd (hsense.symm.trans (hI.trans hs)) (by simp)
  · exact hI

end

/-- Settles O5: what a bay senses is followed through the samples of a cycle; every event between two samples leaves it,
but for a bay that restarts sensing. -/
theorem clockSamplesTheInputs : Obligations.ClockSamplesTheInputs := by
  unfold Obligations.ClockSamplesTheInputs
  intro s t hpending ht tick taken
  have ht : t = clockCycle s := by
    unfold step at ht
    rw [hpending] at ht
    exact (Host.Outcome.next.inj ht).symm
  subst ht
  refine ⟨clockCycle_supplyGood, clockCycle_supplyLow, fun b => ⟨clockCycle_guard s b, clockCycle_unsampled,
    fun htick hs ha hgood => ?_, fun hs ha hgood hsense => ?_⟩⟩
  · have h := clockCycle_sampled htick hs ha hgood
    have hpresented : (s.sensed b).sampled.present = (s.sensed b).presented.present ∧
        (s.sensed b).sampled.undecided = (s.sensed b).presented.undecided ∧
        (s.sensed b).sampled.level = (s.sensed b).presented.level := ⟨rfl, rfl, rfl⟩
    have hpresent := (congrArg BayInputs.present h).trans hpresented.1
    have hundecided := (congrArg BayInputs.undecided h).trans hpresented.2.1
    have hlevel := (congrArg BayInputs.level h).trans hpresented.2.2
    refine ⟨congrArg BayInputs.parkDetect h, congrArg BayInputs.writeProtect h, congrArg BayInputs.button h,
      fun hdecided => ?_, fun hopen => ?_⟩
    · have hu : ¬(s.sensed b).inputs.undecided = true := Bool.eq_false_iff.mp hdecided
      rw [Sensed.presented, if_neg hu] at hpresent hundecided
      exact ⟨hundecided, hpresent⟩
    · have hu : (s.sensed b).inputs.undecided = true := hopen
      rw [Sensed.presented, if_pos hu] at hpresent hundecided hlevel
      refine ⟨fun hrun => ⟨hundecided.trans (decide_eq_true hrun), hlevel, hpresent.trans (if_pos hrun)⟩,
        fun hrun => ⟨hundecided.trans (decide_eq_false (Nat.not_lt.mpr hrun)),
          hpresent.trans (if_neg (Nat.not_lt.mpr hrun))⟩⟩
  · have h := clockCycle_restarted hs ha hgood hsense
    exact ⟨congrArg BayInputs.undecided h, congrArg BayInputs.present h, congrArg BayInputs.writeProtect h,
      congrArg BayInputs.button h, congrArg BayInputs.parkDetect h⟩

end Sys2Proof.Machine
